-- ==== Sys2Proof/Word.lean ====
section
/-! DEFINITION. The word types: a byte, a 32-bit register word, and the digest and key strings as byte lists (R9, R10). -/

namespace Sys2Proof

/-- One byte of a frame, a memory or a register file. -/
abbrev Byte := BitVec 8

/-- One 32-bit register word, as R13 gives every register of the three windows. -/
abbrev Word := BitVec 32

/-- A byte string: a frame, a payload, a digest, a key. -/
abbrev Bytes := List Byte

end Sys2Proof
end

