-- ==== Sys2Proof/Syntax.lean ====
section
/-! DEFINITION. The commands of the block: one constructor of `Instr` for each row of spec/opcode_table.json, with the row's operands. -/

namespace Sys2Proof

/-- The ports that confer a rank (Table 2.6), in port-index order: KPR 0, CUS 1, SVC 2, STW 3, MB0 4, MB1 5, PNL 6. -/
inductive Port where
  | kpr | cus | svc | stw | mb0 | mb1 | pnl
  deriving DecidableEq, Repr

/-- The two cores inside the Keeper (R48). -/
inductive CoreId where
  | keeper | steward
  deriving DecidableEq, Repr

/-- A command as its port hands it over: where it came from, its TAG, its payload and, for a bulk-carrying
command, the inbound bulk data (R98, R104). -/
structure Req where
  port : Port
  session : Nat := 0
  tag : Nat := 0
  payload : Bytes := []
  bulk : Bytes := []
  deriving DecidableEq, Repr

/-- What a Filong message carries, as its target block reads it (R24). The spec gives a message no coding beyond its
4-byte header, so the deciphered content is an operand. -/
inductive Message where
  /-- nothing: an idle or acknowledgement flit, or a part of a message that is not its last -/
  | none
  /-- Formula section number `n` of Table 4.5, for the partner -/
  | formulaSection (n : Nat)
  /-- the partner's acknowledgement of Formula section number `n` -/
  | sectionAck (n : Nat)
  /-- the gun value of a GUN flit (R65) -/
  | gun (g : Nat)
  /-- the value of a GUN_CHECK flit toward the partner (R66) -/
  | gunCheck (v : Nat)
  /-- one of the two KEYX flits of R281, first or second -/
  | keyx (second : Bool)
  /-- the lockdown of R249 for a Bank, with its mask bit -/
  | lockdown
  /-- the lift of R251 for a Bank -/
  | lift
  /-- an OPEN for a compartment (R614) -/
  | actOpen (comp : Nat)
  /-- a RELOCK for a compartment (R614) -/
  | actRelock (comp : Nat)
  /-- any other message: its effect is that of the step that sent it -/
  | other
  deriving DecidableEq, Repr

/-- A Filong flit with its payload deciphered (Table 1.2). -/
structure Flit where
  type : Nat
  seq : Nat
  ack : Nat
  reserved : Nat := 0
  payload : Bytes := []
  tag : Bytes := []
  deriving DecidableEq, Repr

/-- An NVM controller request (R51). -/
inductive NvmOp where
  | program (offset : Nat) (row : Bytes)
  | eraseSector (offset : Nat)
  | eraseBlock (offset : Nat)
  deriving DecidableEq, Repr

/-- What the flash answers during a HOLD procedure (R375): the bytes its reads return and the phases that pass. -/
structure HoldReads where
  sfdp : Bytes := []
  id : Bytes := []
  status : Bytes := []
  phasesPass : List Nat := []
  deriving DecidableEq, Repr

/-- One host select period on a Warden port as its wires carry it (R378): the opcode, its extension byte in octal, the address
with the whole bytes of it the host sent, the data bytes the host sent, the whole data bytes it clocked, its shortest clock period
in picoseconds, and whether the select rose after a whole number of bytes. -/
structure HostXfer where
  opcode : Nat
  extension : Nat := 0
  addr : Nat := 0
  addrBytes : Nat := 0
  data : Bytes := []
  dataClocks : Nat := 0
  periodPs : Nat := 1000000
  aligned : Bool := true
  deriving DecidableEq, Repr

/-- The commands (spec/opcode_table.json), in the table's order. -/
inductive Instr where
  -- cold start
  | pornRelease (refclk : Bool) (vresNf : Nat) (senseFaults : List Nat)
  | pornLow (widthNs : Nat)
  | drbgReady
  | gunCheckResult (link counter : Nat)
  | gunCheckTimeout (link : Nat)
  | portsOpen
  | imageDigestPresented (plat image : Nat)
  | imageVerdict (plat image : Nat)
  | pgoodWaitExpiry (plat : Nat)
  | measurementLimitExpiry (plat image : Nat)
  | heartClosure
  | stagingRevalidate
  | releaseOrderDue
  | platformRelease (plat : Nat)
  -- links
  | flitReceived (link : Nat) (toKeeper : Bool) (flit : Flit) (message : Message)
  | ackTimerExpiry (link : Nat) (toKeeper : Bool)
  | linkTrainDone (link : Nat)
  | trainTimeout (link : Nat)
  | relinkAttemptTimeout (link : Nat)
  | cadenceLoss (link : Nat)
  | clockMonitorWindow (count : Nat)
  -- watchdogs and cores
  | keeperWdogExpiry
  | stwWdogExpiry
  | stwWdogKick (value : Word)
  | accessFault (core : CoreId) (addr : Nat)
  | registerWrite (core : CoreId) (addr : Nat) (value : Word)
  | tkNowLoRead (core : CoreId)
  | vltTickLoRead (core : CoreId)
  | nvmProgramErase (core : CoreId) (fetchFromB : Bool) (bank : Nat) (op : NvmOp)
  | nvmOperationDone (bank : Nat)
  | sysGetTopology (r : Req)
  | sysGetLinks (r : Req)
  | sysGetTime (r : Req)
  | sysCheckAlign (r : Req)
  -- ports
  | mb0Write (transaction : Byte) (data : Bytes) (extraBits : Nat)
  | mb0Read (clocked : Nat)
  | mb0Status
  | mb1Write (transaction : Byte) (data : Bytes) (extraBits : Nat)
  | mb1Read (clocked : Nat)
  | mb1Status
  | selectClash
  | mb0NoticeEnqueue
  | svcPacket (packet : Bytes)
  | svcPresentLow
  | svcPresentHigh
  | svcAuthLockExpiry
  | stwDoorbell (value : Word)
  | stwRspRingWrite (core : CoreId) (value : Word)
  | stwRingDeliver
  | extAnswer (opcode forward status : Nat) (payload : Bytes)
  | bulkFrameIn (port : Port) (session : Nat)
  | bulkFrameOutConsumed (port : Port) (session : Nat)
  | bulkIdleExpiry (port : Port) (session : Nat) (inbound : Bool)
  | responseTimerExpiry (port : Port) (session tag : Nat)
  | custodyRecord (source : Bytes) (record : Bytes)
  | handshakeTimeout
  | cusIdleExpiry (session : Nat)
  | sysNop (r : Req)
  | sysGetVersion (r : Req)
  | sysGetPort (r : Req)
  | sysSvcChallenge (r : Req)
  | sysSvcAuth (r : Req)
  | sysTicketStatus (r : Req)
  | extCommand (opcode : Nat) (r : Req)
  -- Formula
  | frmGetInfo (r : Req)
  | frmStage (r : Req)
  | frmActivate (r : Req)
  | activateRestart
  | frmGetRanks (r : Req)
  -- fuses
  | fusRead (r : Req)
  | fusProgram (r : Req)
  | fusFinalise (r : Req)
  | fusSetLifecycle (r : Req)
  | fusBumpCounter (r : Req)
  | fuseWordDone (verified : Bool)
  | lifecycleRestart
  -- Vault
  | meshSample (pair : Nat) (level : Bool)
  | staticSample (input : Nat) (level : Bool)
  | vaultTempSample (tempC : Int)
  | vbatGlitch (step above4V : Bool)
  | vaultOscPeriod (cycles : Option Nat)
  | vaultSwirl
  | vbatLow (below : Bool)
  | vbatArm
  | redflagnLow (low : Bool)
  | rfCtlEnter (core : CoreId) (value : Word)
  | sysLockdown (r : Req)
  | sysLiftLockdown (r : Req)
  | sysGetTamper (r : Req)
  -- keys
  | keyGenerate (r : Req)
  | keyImport (r : Req)
  | keyWrap (r : Req)
  | keyDestroy (r : Req)
  | keyGetAttr (r : Req)
  | keyProvenance (r : Req)
  | keySetSwirl (r : Req)
  | swirlPass
  -- crypto
  | crySubmit (r : Req)
  | cryGetJob (r : Req)
  | cryCancel (r : Req)
  | cryRandom (r : Req)
  | cryGetHealth (r : Req)
  | jobStart (slot : Nat)
  | jobComplete (slot : Nat)
  | cryptoClaimTimeout
  | entropyBlock (raw : Bytes) (knownAnswers : Bool)
  | entropyFailRetry (passes : Bool)
  | drbgReseed
  -- platforms
  | sysReleasePlatform (r : Req)
  | sysHoldPlatform (r : Req)
  | sysGetBoot (r : Req)
  | pgoodChange (plat : Nat) (level : Bool)
  -- Warden wire
  | holdProcedure (port : Nat) (reads : HoldReads)
  | hostTransaction (port : Nat) (x : HostXfer)
  | hostCaptureRelease (port : Nat)
  | ownOpStart (port : Nat)
  | ownOpPoll (port : Nat) (status : Byte)
  | ownOpReady (port : Nat) (status : Bytes)
  | busyTimeout (port : Nat)
  | wdnGetSfdp (r : Req)
  | wdnGetPort (r : Req)
  | wdnSetRegion (r : Req)
  | wdnCommit (r : Req)
  | wdnReviewAnswer (r : Req)
  | wdnGetCounters (r : Req)
  | wdnSetPhase (r : Req)
  | reviewExpiry (port : Nat)
  | retireEnd (port : Nat)
  | shadowCopyDone (port : Nat)
  -- mending and attesting
  | recoveryStart
  | recoveryOutcome
  | recoveryLimitExpiry
  | rcvGetPolicy (r : Req)
  | rcvMend (r : Req)
  | rcvUpdateGolden (r : Req)
  | rcvUpdateKeeper (r : Req)
  | rcvGetStatus (r : Req)
  | keeperInstallRestart
  | attQuote (r : Req)
  | attGetLog (r : Req)
  | attGetCert (r : Req)
  | attSpdm (r : Req)
  -- Lane engines
  | lanePush (core : CoreId) (engine : Nat) (value : Word)
  | laneEntryStart (engine : Nat)
  | laneEntryComplete (engine : Nat) (input : Bytes)
  | laneContTimeout (engine : Nat)
  | laneCancel (core : CoreId) (engine : Nat) (value : Word)
  | laneDoneRead (core : CoreId) (engine : Nat)
  | laneTargetWrite (engine : Nat) (transaction : Byte) (data : Bytes) (extraBits : Nat)
  | laneTargetRead (engine clocked : Nat)
  | laneTargetStatus (engine : Nat)
  | laneRxFree (core : CoreId) (engine : Nat) (value : Word)
  | laneTxStage (core : CoreId) (engine : Nat) (value : Word)
  | laneClaimTimeout (engine : Nat)
  | copyTakesEngine
  -- Pacer
  | bucketTick (die num : Nat)
  | heatEdge (bank : Nat)
  | pcrGoRate (core : CoreId) (die : Nat) (value : Word)
  | pcrGoForgive (core : CoreId) (die : Nat) (value : Word)
  | pcrGetBucket (r : Req)
  | pcrSetRate (r : Req)
  | pcrForgive (r : Req)
  | pcrSetHeat (r : Req)
  -- compartments
  | pulseEnd (bank col : Nat)
  | overcurrent (bank row : Nat)
  | stuckOnGate (bank row : Nat)
  | senseScanRow (bank row : Nat) (returns : BitVec 32)
  | debounceExpiry (comp : Nat) (bolt : Bool)
  | relockTimerExpiry (comp : Nat)
  | ajarTimerExpiry (comp : Nat)
  | verifyTimerExpiry (comp : Nat)
  | dualWindowExpiry (comp : Nat)
  | delayExpiry (comp : Nat)
  | openWindowExpiry (comp : Nat)
  | timelockEnd (comp : Nat)
  | holdEnd (comp : Nat)
  | bankClaimTimeout (bank : Nat)
  | cmpOpen (r : Req)
  | cmpRelock (r : Req)
  | cmpHold (r : Req)
  | cmpFreeze (r : Req)
  | cmpUnfreeze (r : Req)
  | cmpCredential (r : Req)
  | cmpGetState (r : Req)
  | cmpGetBank (r : Req)
  | cmpSetTimelock (r : Req)
  | cmpDisable (r : Req)
  | cmpEnable (r : Req)
  | cmpSetGroup (r : Req)
  -- Nose
  | nosImport (r : Req)
  | nosStart (r : Req)
  | nosStop (r : Req)
  | nosGetStatus (r : Req)
  | nosGetEvents (r : Req)
  | noseImportClose
  | analogSample (channel : Nat) (value : Int)
  | pdmSample (input : Nat) (value : Int)
  | noseWindowEdge
  | inferenceStart
  | inferenceComplete
  | noseScrubEnd
  | noseClaimTimeout
  -- power
  | pwrGetState (r : Req)
  | pwrSetState (r : Req)
  | pwrSetDomain (r : Req)
  | pwrGetDomains (r : Req)
  | pwrGetMonitors (r : Req)
  | pwrSetGovernor (r : Req)
  | wakenLow
  | mainPowerLost
  | vaultEntry
  | domainReady (domain : Nat)
  | domainClaimRelease (domain : Nat)
  | domainClaimTimeout (domain : Nat)
  | domainRailDrop (domain : Nat)
  | monitorReading (die channel : Nat) (value : Nat)
  -- frames
  | mdioPoll (mac : Nat) (bmcr bmsr adv partner gctl gstat : BitVec 16)
  | linkTrainingEnd (mac : Nat)
  | mdioCoreAccess (core : CoreId) (mac : Nat) (value : Word) (readData : Nat)
  | frameSfd (mac : Nat)
  | frameReception (mac : Nat) (frame : Bytes) (codingError : Bool)
  | pauseExpiry
  | parseEnd (mac : Nat)
  | classification (mac : Nat)
  | slowPathDelivery
  | spHeadWrite (core : CoreId) (value : Word)
  | frameTransmit (mac : Nat)
  | residenceExpiry (mac : Nat)
  | epochDrainCommit
  | classifierCopyEnd
  | custodySteer
  | custodyRecordTransmit
  | mirrorCopy
  | mrHeadWrite (core : CoreId) (value : Word)
  | netGetPort (r : Req)
  | netSetLimits (r : Req)
  | netWriteRule (r : Req)
  | netWriteRange (r : Req)
  | netCommit (r : Req)
  | netGetCounters (r : Req)
  | netSetMirror (r : Req)
  | netInject (r : Req)
  -- Sillage
  | recordEntry
  | recordCommit
  | batchSealTimeout
  | sealSigned (stopped : Bool)
  | storeWriteStart
  | storeWriteDone (failed : Bool)
  | subscriptionDelivery (port : Port) (session : Nat)
  | alertFrameStart
  | logRead (r : Req)
  | logExport (r : Req)
  | logSeal (r : Req)
  | logGetHead (r : Req)
  | logSubscribe (r : Req)
  | logClearAlert (r : Req)
  -- further events
  | rcRegisterRead (core : CoreId) (addr : Nat)
  | lossOfPllLock
  | vbatDisarm
  | vaultRailBelowHold
  | frameTransmitted (mac : Nat)
  | svcFramingError
  deriving DecidableEq, Repr

end Sys2Proof
end

