-- ==== Sys2Proof/Config.lean ====
section
/-! DEFINITION. What the spec leaves to an implementation or to a cited standard: the free values, and the cryptographic
primitives the manual names by standard (FIPS, SP 800, RFC). Each is an uninterpreted constant: nothing can evaluate one or
prove a value of it. Each mark is a log entry's. -/

namespace Sys2Proof.Config

/-- Values the spec leaves open, by the number of the draw (log entry 3). -/
opaque freeNat : Nat → Nat

/-- Bytes of a mask generator, and random bytes that no rule derives, by the number of the draw (log entry 4). -/
opaque randomByte : Nat → Byte

/-- Bytes of memory or silicon arrays whose contents the spec leaves open, by the number of the draw (log entry 3). -/
opaque freeByte : Nat → Byte

/-- The two certificates that the maker writes into the part before shipment (R462): the root's and the DeviceID's. -/
opaque shippedCert : Nat → Bytes

/-- A hash function by its ALG code of Table 8.3: SHA-256, SHA-384, SHA-512 (FIPS 180-4), SHA3-256, SHA3-384 (FIPS 202). -/
opaque hash : Nat → Bytes → Bytes

/-- One AES block encryption of key and block, and one decryption (FIPS 197). -/
opaque aesBlock : Bytes → Bytes → Bytes
opaque aesInverse : Bytes → Bytes → Bytes

/-- The signature a scheme's reference signer makes with a private key over a message, by index. -/
opaque sigByte : Nat → Bytes → Bytes → Nat → Byte

/-- The signature bytes that a scheme's reference signer makes for a public key and message, by index: one signature
that verifies exists for each. -/
opaque sigFor : Nat → Bytes → Bytes → Nat → Byte

/-- Whether a scheme accepts a further signature for a public key and message. -/
opaque sigAlso : Nat → Bytes → Bytes → Bytes → Bool

/-- The public key of a scheme for a private key, by index. -/
opaque pubByte : Nat → Bytes → Nat → Byte

/-- Elliptic-curve Diffie-Hellman x-coordinate of a private scalar and a public point, by index (SP 800-56A). -/
opaque ecdhByte : Bytes → Bytes → Nat → Byte

/-- ML-KEM decapsulation of a private key and ciphertext, by index (FIPS 203). -/
opaque kemSecret : Bytes → Bytes → Nat → Byte

end Sys2Proof.Config
end

