-- ==== Sys2Proof/Machine/Bytes.lean ====
section
/-! DEFINITION. Byte strings: the two byte orders of R10, bit fields, the CRC-32C of R99 and the COBS packing of R120. -/

namespace Sys2Proof.Machine

/-- `n` low bytes of `v`, lowest first (R10: registers, frames, Quotes and records). -/
def le : Nat → Nat → Bytes
  | 0, _ => []
  | n + 1, v => BitVec.ofNat 8 v :: le n (v / 256)

/-- The number a little-endian byte string spells. -/
def leVal : Bytes → Nat
  | [] => 0
  | b :: bs => b.toNat + 256 * leVal bs

/-- `n` low bytes of `v`, highest first (R10: Ethernet and custody fields). -/
def be (n v : Nat) : Bytes := (le n v).reverse

/-- The number a big-endian byte string spells. -/
def beVal (bs : Bytes) : Nat := leVal bs.reverse

/-- `n` zero bytes. -/
def zeros (n : Nat) : Bytes := List.replicate n 0

/-- `n` bytes of `bs` from offset `off`; short when `bs` ends before. -/
def slice (bs : Bytes) (off n : Nat) : Bytes := (bs.drop off).take n

/-- The byte at offset `i`, zero beyond the end. -/
def byteAt (bs : Bytes) (i : Nat) : Nat := (bs.getD i 0).toNat

/-- The little-endian 16-bit field at `off`. -/
def u16 (bs : Bytes) (off : Nat) : Nat := leVal (slice bs off 2)

/-- The little-endian 32-bit field at `off`. -/
def u32 (bs : Bytes) (off : Nat) : Nat := leVal (slice bs off 4)

/-- The little-endian 64-bit field at `off`. -/
def u64 (bs : Bytes) (off : Nat) : Nat := leVal (slice bs off 8)

/-- The big-endian 16-bit field at `off`. -/
def be16 (bs : Bytes) (off : Nat) : Nat := beVal (slice bs off 2)

/-- The first offset at or after `off` whose byte is not zero among `n` bytes. -/
def firstNonZero (bs : Bytes) : Nat → Nat → Option Nat
  | _, 0 => none
  | off, n + 1 => if byteAt bs off = 0 then firstNonZero bs (off + 1) n else some off

/-- Bit `i` of `v`. -/
def bit (v i : Nat) : Bool := v.testBit i

/-- Bits [hi:lo] of `v` (R9). -/
def bits (v hi lo : Nat) : Nat := v / 2 ^ lo % 2 ^ (hi + 1 - lo)

/-- A flag as a number. -/
def b2n (b : Bool) : Nat := if b then 1 else 0

/-- The mask with bit `i` set for each `i < n` on which `p` holds. -/
def maskOf (n : Nat) (p : Nat → Bool) : Nat :=
  (List.range n).foldl (fun m i => m + if p i then 2 ^ i else 0) 0

/-- A two's complement field of `w` bits. -/
def signed (w v : Nat) : Int := if v < 2 ^ (w - 1) then (v : Int) else (v : Int) - (2 ^ w : Nat)

/-- A signed number as a two's complement field of `w` bits. -/
def unsigned (w : Nat) (v : Int) : Nat := (v % (2 ^ w : Nat)).toNat

/-- A count raised by one that holds at its largest value. -/
def satInc (max v : Nat) : Nat := if v < max then v + 1 else max

/-- A count raised by `n` that holds at its largest value. -/
def satAdd (max v n : Nat) : Nat := min max (v + n)

/-- Round up a quotient. -/
def ceilDiv (a b : Nat) : Nat := (a + b - 1) / b

/-- The first multiple of `p` strictly after `t` (R60). -/
def nextTick (p t : Nat) : Nat := (t / p + 1) * p

/-- One shift of the reflected CRC register of R99. -/
def crcShift (c : BitVec 32) : BitVec 32 :=
  if c.getLsbD 0 then (c >>> 1) ^^^ 0x82F63B78#32 else c >>> 1

/-- One byte into the reflected CRC register. -/
def crcByte (c : BitVec 32) (b : Byte) : BitVec 32 :=
  let c := c ^^^ b.setWidth 32
  crcShift (crcShift (crcShift (crcShift (crcShift (crcShift (crcShift (crcShift c)))))))

/-- CRC-32C with its initial value and final inversion (R99). -/
def crc32c (bs : Bytes) : Nat := (bs.foldl crcByte 0xFFFFFFFF#32 ^^^ 0xFFFFFFFF#32).toNat

/-- `bs` with its four CRC bytes behind it. -/
def withCrc (bs : Bytes) : Bytes := bs ++ le 4 (crc32c bs)

/-- Whether the last four bytes are the CRC of those before. -/
def crcPasses (bs : Bytes) : Bool :=
  4 ≤ bs.length && (bs.drop (bs.length - 4) == le 4 (crc32c (bs.take (bs.length - 4))))

/-- COBS decoding of a packet without its delimiter (R120); `none` for an invalid encoding. -/
def cobsDecode : Nat → Bytes → Option Bytes
  | 0, _ => none
  | _ + 1, [] => some []
  | fuel + 1, c :: rest =>
    let n := c.toNat - 1
    if c = 0 ∨ rest.length < n ∨ (rest.take n).contains 0 then none
    else
      match cobsDecode fuel (rest.drop n) with
      | none => none
      | some tail => some (rest.take n ++ (if c = 0xFF ∨ (rest.drop n).isEmpty then [] else [0]) ++ tail)

/-- The run of non-zero bytes at the front, at most `n` of them. -/
def cobsRun : Nat → Bytes → Bytes
  | 0, _ => []
  | _ + 1, [] => []
  | n + 1, b :: bs => if b = 0 then [] else b :: cobsRun n bs

/-- COBS encoding of a packet without its delimiter (R120). -/
def cobsEncode : Nat → Bytes → Bytes
  | 0, _ => []
  | fuel + 1, bs =>
    let run := cobsRun 254 bs
    let rest := bs.drop run.length
    let head := BitVec.ofNat 8 (run.length + 1) :: run
    if rest.isEmpty then head
    else if run.length = 254 then head ++ cobsEncode fuel rest
    else head ++ cobsEncode fuel (rest.drop 1)

end Sys2Proof.Machine
end

