-- ==== Sys2Proof/Machine/Store.lean ====
section
/-! DEFINITION. Sparse tables in one canonical form: keys strictly rising and no entry equal to what an unlisted key reads as. Memories are sparse tables of bytes. -/

namespace Sys2Proof.Machine

/-- A table of many like things, by number, that lists only what differs from its default. -/
abbrev Sparse (α : Type) := List (Nat × α)

/-- What key `k` reads as; `d` is what an unlisted key reads as. -/
def tget {α : Type} (d : α) : Sparse α → Nat → α
  | [], _ => d
  | (k, v) :: m, i => if k = i then v else tget d m i

/-- What is listed at key `i`, if anything. -/
def tfind {α : Type} : Sparse α → Nat → Option α
  | [], _ => none
  | (k, v) :: m, i => if k = i then some v else tfind m i

/-- The table without key `k`. -/
def tdel {α : Type} : Sparse α → Nat → Sparse α
  | [], _ => []
  | (k, v) :: m, i => if k = i then tdel m i else (k, v) :: tdel m i

/-- The table with `v` listed at `k`, keys kept rising. -/
def tins {α : Type} (m : Sparse α) (i : Nat) (w : α) : Sparse α :=
  match m with
  | [] => [(i, w)]
  | (k, v) :: m' =>
    if i < k then (i, w) :: (k, v) :: m' else if i = k then (i, w) :: m' else (k, v) :: tins m' i w

/-- The table with key `k` reading `v`; writing the default removes the entry. -/
def tset {α : Type} [DecidableEq α] (d : α) (m : Sparse α) (i : Nat) (w : α) : Sparse α :=
  if w = d then tdel m i else tins m i w

/-- Keys strictly rising from above `lo`, none reading the default. -/
def twfFrom {α : Type} [DecidableEq α] (d : α) : Option Nat → Sparse α → Bool
  | _, [] => true
  | lo, (k, v) :: m => (match lo with | none => true | some l => decide (l < k)) && decide (v ≠ d) && twfFrom d (some k) m

/-- The canonical form. -/
def twf {α : Type} [DecidableEq α] (d : α) (m : Sparse α) : Bool := twfFrom d none m

/-- A memory: host cells in canonical form. -/
abbrev Memory := Sparse Byte

/-- The `n` bytes from `a`; `d` is what an unlisted address reads as. -/
def mread (d : Byte) (m : Memory) : Nat → Nat → Bytes
  | _, 0 => []
  | a, n + 1 => tget d m a :: mread d m (a + 1) n

/-- The memory with the bytes `bs` from address `a` upward. -/
def mwrite (d : Byte) (m : Memory) : Nat → Bytes → Memory
  | _, [] => m
  | a, b :: bs => mwrite d (tset d m a b) (a + 1) bs

/-- The memory without any listed address from `a` to `a + n - 1` (they read as the default). -/
def mclear (m : Memory) (a n : Nat) : Memory := m.filter fun c => !(decide (a ≤ c.1) && decide (c.1 < a + n))

/-- The memory's canonical form. -/
abbrev Memory.wf (d : Byte) (m : Memory) : Bool := twf d m

end Sys2Proof.Machine
end

