-- ==== Sys2Proof/Machine/TypesBoot.lean ====
section
/-! DEFINITION. The state of the cold start, the platforms and the Filong links (chapters 1, 2 and 9): plain data. -/

namespace Sys2Proof.Machine

/-- What is known of one platform image (R349, R350, R351). -/
structure ImageState where
  /-- its own verdict (R263), once given -/
  verdict : Option Nat := none
  /-- 0 none, 1 SUBSTITUTE passed, 2 COPY passed, 3 recovery failed -/
  recovery : Nat := 0
  /-- the verdict is final (R350) -/
  final : Bool := false
  version : Nat := 0
  digest : Bytes := []
  /-- the header and signature block presented, while the verification is queued or runs -/
  header : Bytes := []
  sigBlock : Bytes := []
  queued : Bool := false
  /-- terminal edge of the measurement limit (R351), once reading has begun -/
  limit : Option Nat := none
  /-- the recovery entry of R264, once there is one -/
  recoveryEntry : Bytes := []
  deriving DecidableEq, Repr

/-- A platform (Table 9.5; KPR.BOOT_PLAT). -/
structure Plat where
  state : Nat := 0
  image : Nat := 0
  heldCmd : Bool := false
  /-- pages committed for this platform -/
  pages : Nat := 0
  images : Sparse ImageState := []
  releaseBaton : Nat := 0
  /-- PRSTn is not driven low -/
  released : Bool := false
  /-- terminal edge of the PGOOD wait -/
  pgoodUntil : Option Nat := none
  /-- its order has been carried out, or it has been skipped -/
  ordered : Bool := false
  /-- the platform waits for its port's HOLD procedure and measurement: 1 in step 14, 2 after WDN.SET_PHASE HOLD (R416), 3 after a
  Relay re-initialisation past closure (R353) -/
  measuring : Nat := 0
  /-- each image passed, or a recovery of it passed (R354, R416, R456) -/
  eligible : Bool := false
  /-- the release edge, once the order to LAUNCH has been sent (R356) -/
  releaseAt : Option Nat := none
  /-- the SYS.RELEASE_PLATFORM that the release answers: port index, session, TAG -/
  releaseCmd : Option (Port × Nat × Nat) := none
  deriving DecidableEq, Repr

/-- A measurement-log record: the entry and the Baton of its append (R262, R461). -/
structure Measured where
  entry : Bytes
  baton : Nat
  deriving DecidableEq, Repr

/-- The cold start (chapter 9; KPR.BOOT_*). -/
structure Boot where
  /-- PORn is presented high and the cold start runs or has run -/
  started : Bool := false
  stage : Nat := 1
  esWait : Bool := false
  rfWait : Bool := false
  pgood : Nat := 0
  nextOrder : Nat := 0
  /-- the release edge that the next order counts from (R355) -/
  ref : Nat := 0
  /-- second edge after the lift's commit edge, while an order waits (R357) -/
  liftRef : Nat := 0
  closeCycle : Nat := 0
  plats : Sparse Plat := []
  /-- images that wait for or undergo verification, in the order of presentation -/
  verifying : List (Nat × Nat) := []
  /-- the running Keeper firmware's security version and revision; none in Keeper-ROM-only operation -/
  kfVersion : Option Nat := none
  kfDigest : Bytes := []
  /-- its key unit, 0 or 1 -/
  kfUnit : Nat := 0
  kfRev : Nat := 0
  /-- the Steward image's verdict (Table 7.2), version and digest -/
  stwVerdict : Nat := 3
  stwVersion : Nat := 0
  stwDigest : Bytes := []
  log : List Measured := []
  /-- links trained for the application: the declared ones -/
  declared : Nat := 0
  /-- 0 before step 8, 1 links training, 2 applying sections, 3 gun and checks, 4 keys and on -/
  phase : Nat := 0
  /-- the release of an order that is being carried out: its release edge -/
  orderAt : Option Nat := none
  /-- links whose Formula sections are still to be applied, in the order of Table 4.5 -/
  applying : List Nat := []
  portsDue : Bool := false
  deriving DecidableEq, Repr

/-- The states of a link (R28). -/
inductive LinkState where
  | absent | down | train | pair | session | lost
  deriving DecidableEq, Repr

/-- A flit sent and not acknowledged (R31, R32). -/
structure SentFlit where
  seq : Nat
  deadline : Nat
  timeouts : Nat := 0
  /-- 0 a message, a gun or a check; 1 and 2 the first and the second KEYX flit -/
  kind : Nat := 0
  deriving DecidableEq, Repr

/-- One end of a Filong link: what it sends and what it has accepted (R23, R31, R32). -/
structure LinkEnd where
  sent : Nat := 0
  accepted : Nat := 0
  unacked : List SentFlit := []
  /-- flits that wait for the limit of 32: how many, and of which kind -/
  waiting : List (Nat × Nat) := []
  /-- edge from which the lanes of this direction are idle -/
  lineFree : Nat := 0
  tagRun : Nat := 0
  key : Bytes := []
  /-- key delivered by KEYX and not yet installed (R281) -/
  staged : Bytes := []
  deriving DecidableEq, Repr

/-- A Filong link and its partner die (chapter 1; KPR.LINK_STAT[l], KPR.LINK_ERR[l]). -/
structure Link where
  state : LinkState := .down
  attempts : Nat := 0
  losses : Nat := 0
  tagFail : Nat := 0
  retx : Nat := 0
  keeper : LinkEnd := {}
  partner : LinkEnd := {}
  /-- N_P of the present pairing -/
  nonce : Bytes := []
  everSession : Bool := false
  /-- edge by which the training must end, and by which the relink attempt must end -/
  deadline : Option Nat := none
  attemptEnd : Option Nat := none
  /-- why the link trains: 0 cold start, 1 a relink, 2 a re-initialisation (R36), 3 its FILONG domain came on (R678) -/
  mode : Nat := 0
  /-- Formula sections of the partner not yet acknowledged, by directory index -/
  toApply : List Nat := []
  /-- the training ended, but the DRBG could not deliver N_P (R30) or N (R281) -/
  nonceWait : Bool := false
  /-- the partner die is held in reset -/
  held : Bool := true
  /-- difference between the partner's cycle counter and the Timekeeper; none before its gun -/
  offset : Option Int := none
  /-- a gun check awaits its answer: terminal edge -/
  checkDue : Option Nat := none
  /-- V of that check (R66) -/
  checkV : Nat := 0
  checksFailed : Nat := 0
  /-- the last check matched (KPR.TK_STAT.ALIGNED) -/
  aligned : Bool := false
  /-- key exchange: N of R281 drawn, KEYX sent -/
  keyx : Bool := false
  /-- the partner has lost the Cadence (R37) -/
  dark : Bool := false
  deriving DecidableEq, Repr

end Sys2Proof.Machine
end

