-- ==== Sys2Proof/Machine/TypesFormula.lean ====
section
/-! DEFINITION. The Formula as the machine holds it, and the state of its slots (chapter 4): plain data. -/

namespace Sys2Proof.Machine

/-- One section of a Formula (Table 4.3). -/
structure Section where
  type : Nat
  inst : Nat
  body : Bytes
  deriving DecidableEq, Repr

/-- A validated Formula: the header fields that stay in use, its digest D and its sections (Table 4.1). -/
structure Formula where
  serial : Nat := 0
  version : Nat := 0
  counter : Nat := 0
  keyIndex : Nat := 0
  lifecycles : Nat := 0
  digest : Bytes := []
  sections : List Section := []
  deriving DecidableEq, Repr

/-- The Formula slots and what is applied (R150, R151, R176 to R179; KPR.FRM_*). -/
structure FormulaState where
  applied : Option Formula := none
  /-- the Formula under application, from validation to the seal -/
  candidate : Option Formula := none
  active : Nat := 0
  isSealed : Bool := false
  staged : Option Formula := none
  fallback : Bool := false
  activating : Bool := false
  /-- the other slot has been tried in this cold start (R151) -/
  triedOther : Bool := false
  /-- no-Formula operation holds (R151) -/
  noFormula : Bool := false
  rejectCode : Nat := 0
  rejectOffset : Nat := 0
  /-- the validation of the staging slot has not ended (R178) -/
  revalidating : Bool := false
  /-- first edge of the restart of an activation (R179) -/
  restartFrom : Nat := 0
  deriving DecidableEq, Repr

end Sys2Proof.Machine
end

