-- ==== Sys2Proof/Machine/TypesKeeper.lean ====
section
/-! DEFINITION. The state of the fuses, the Vault domain, the Flacon slots and the crypto cluster (chapters 5 to 8): plain
data. -/

namespace Sys2Proof.Machine

/-- The command an operation answers: port, session and TAG. -/
structure CmdRef where
  port : Port
  session : Nat
  tag : Nat
  deriving DecidableEq, Repr

/-- A word to program: antifuse or e-fuse, its address, its data. -/
structure FuseWord where
  anti : Bool
  addr : Nat
  data : Word
  deriving DecidableEq, Repr

/-- A running fuse operation (R203 to R209, R217). -/
structure FuseOp where
  cmd : CmdRef
  /-- the opcode of that command -/
  opcode : Nat := 0
  /-- the words not yet done, the one in progress first -/
  words : List FuseWord
  done : Nat := 0
  newBits : Nat := 0
  /-- stop causes presented (Table 5.6) -/
  tamper : Bool := false
  power : Bool := false
  /-- counter number and value before, for FUS.BUMP_COUNTER; unit code, for FUS.FINALISE; target, for FUS.SET_LIFECYCLE -/
  subject : Nat := 0
  before : Nat := 0
  digest : Bytes := []
  deriving DecidableEq, Repr

/-- The arrays, what the start-up check latched, and the operation in progress (chapter 5; KPR.FUS_*). -/
structure Fuses where
  efuse : Sparse Word := []
  antifuse : Sparse Word := []
  /-- the arrays as latched by the start-up check (R215) -/
  latchE : Sparse Word := []
  latchA : Sparse Word := []
  /-- KPR.FUS_FAULT -/
  region : Nat := 0
  sense : Bool := false
  keyUnit : Nat := 0
  lcTorn : Bool := false
  thermoTorn : Bool := false
  finTorn : Bool := false
  /-- the check has passed in this boot session -/
  latched : Bool := false
  romOnly : Bool := false
  hold : Bool := false
  op : Option FuseOp := none
  /-- KPR.FUS_WIN -/
  vcoreOk : Bool := false
  viogOk : Bool := false
  tjOk : Bool := false
  viog3v3 : Bool := false
  tj : Nat := 0
  /-- first edge of the restart of R197 -/
  restartFrom : Option Nat := none
  deriving DecidableEq, Repr

/-- A record of the Vault event store (R231). -/
structure VaultEvent where
  tick : Nat
  source : Nat
  code : Nat
  deriving DecidableEq, Repr

/-- A mesh pair: its generator, whether the next drive bit is the second of its pair, and the last 16 compared bits,
true a mismatch (R233). -/
structure Mesh where
  gen : Nat := 1
  bit : Bool := false
  second : Bool := false
  window : List Bool := []
  deriving DecidableEq, Repr

/-- The Vault domain and the Marshal (chapter 6; KPR.VLT_*, KPR.MSH_*, KPR.RF_*, KPR.VEV_STAT). -/
structure Vault where
  /-- the two shares of the Base note -/
  noteA : Bytes := []
  noteB : Bytes := []
  state : Nat := 0
  check : Nat := 0
  respCopy : Nat := 0
  /-- the watch copy -/
  srcEn : Nat := 0
  staticActive : Nat := 0
  tLo : Nat := 0
  tHi : Nat := 0
  redFlag : Bool := false
  redMask : Nat := 0
  store : List VaultEvent := []
  overflow : Nat := 0
  /-- the 48-bit Vault tick counter, and the latch of its high bits -/
  tick : Nat := 0
  tickHi : Nat := 0
  startClass : Nat := 0
  vbatOk : Bool := false
  armed : Bool := false
  vresFault : Bool := false
  vbatLow : Bool := false
  dqSeen : Bool := false
  vbatMv : Nat := 0
  temp : Nat := 0
  live : Nat := 0
  hit : Nat := 0
  /-- KPR.MSH_RESP -/
  resp : Nat := 0
  /-- KPR.MSH_NOSE[n]: 256 × RESPONSE + THRESHOLD -/
  noseResp : Sparse Nat := []
  mesh : Sparse Mesh := []
  statics : Sparse Nat := []
  tempRun : Nat := 0
  /-- the edge after the last sample of each source, by source number -/
  sampled : Sparse Nat := []
  oscRun : Nat := 0
  imported : Nat := 0
  importOverflow : Nat := 0
  /-- Baton of the latest Red flag entry of this boot session -/
  redBaton : Nat := 0
  /-- REDFLAGn presented low -/
  redflagnLow : Bool := false
  deriving DecidableEq, Repr

/-- A Flacon slot (R272, Table 7.4). -/
structure Slot where
  shareA : Bytes := []
  shareB : Bytes := []
  attr : Nat := 0
  baton : Nat := 0
  port : Nat := 0
  /-- reserved as OUT_SLOT of a job (R312) -/
  reserved : Bool := false
  /-- the fill took place after a Formula was applied, and after Heart closure (R287) -/
  underFormula : Bool := false
  underHeart : Bool := false
  deriving DecidableEq, Repr

/-- The Flacon store, the Accord and the measurement accumulator (chapter 7; KPR.FLC_ATTR, KPR.NOTE_STAT, KPR.MA_*,
KPR.SWIRL_*). -/
structure Flacon where
  slots : Sparse Slot := []
  ma : Bytes := []
  maClose : Bytes := []
  entries : Nat := 0
  count : Nat := 0
  closed : Bool := false
  maskStale : Bool := false
  swirlExp : Nat := 20
  swirlRun : Nat := 20
  /-- the new exponent takes effect from this edge (R291) -/
  swirlFrom : Nat := 0
  passes : Nat := 0
  deriving DecidableEq, Repr

/-- What Keeper firmware has a job for (R302, R303). -/
inductive KeeperWork where
  /-- verification of image `image` of platform `plat` -/
  | image (plat image : Nat)
  /-- the signature of the batch with this FIRST_SEQ -/
  | batchSeal (firstSeq : Nat)
  deriving DecidableEq, Repr

/-- A job (R302, R305). -/
structure Job where
  /-- the command it answers; Keeper jobs answer none -/
  cmd : Option CmdRef := none
  work : Option KeeperWork := none
  alg : Nat
  op : Nat := 0
  keySlot : Nat := 0xFF
  toSlot : Option Nat := none
  outAttr : Nat := 0
  indirect : Bool := false
  outOff : Nat := 0
  /-- engine code of Table 8.4 once it is settled: 1 AES0, 2 AES1, 3 HASH/KDF, 4 PKE; 0 either AES -/
  engine : Nat
  param : Bytes := []
  data : Bytes := []
  accepted : Nat := 0
  rank : Nat := 1
  /-- start edge of a running job, and the key its engine register holds -/
  started : Option Nat := none
  key : Bytes := []
  deriving DecidableEq, Repr

/-- The crypto cluster and the entropy source (chapter 8; KPR.CRY_STAT, KPR.ES_*, KPR.DRBG_RESEEDS). -/
structure Crypto where
  jobs : Sparse Job := []
  /-- Keeper jobs that wait for a slot -/
  waiting : List KeeperWork := []
  /-- the edge on which each engine finished its last job (R314) -/
  freed : Sparse Nat := []
  es : Nat := 0
  drbg : Nat := 0
  retries : Nat := 0
  discardRun : Nat := 0
  /-- the conditioned blocks of 384 bits that wait, oldest first (R323) -/
  pool : List Bytes := []
  /-- Key and V of the CTR_DRBG (R325) -/
  drbgKey : Bytes := []
  drbgV : Nat := 0
  rct : Nat := 0
  apt : Nat := 0
  conditioned : Nat := 0
  reseeds : Nat := 0
  lastReseed : Nat := 0
  requests : Nat := 0
  /-- start-up: blocks passed, and failed attempts -/
  blocks : Nat := 0
  attempts : Nat := 0
  /-- Repetition Count Test: the last raw bit and its run length -/
  lastBit : Bool := false
  run : Nat := 0
  deriving DecidableEq, Repr

end Sys2Proof.Machine
end

