-- ==== Sys2Proof/Machine/TypesPorts.lean ====
section
/-! DEFINITION. The state of the clock, the cores, the ports and the Sillage (chapters 1, 2, 3 and 20): plain data. -/

namespace Sys2Proof.Machine

/-- The Timekeeper and the Cadence (R58, R59, R61; KPR.TK_*, KPR.CLK_MON). -/
structure Clock where
  /-- the cycle counter: 60 bits, holding at its largest value (R59) -/
  now : Nat := 0
  /-- the Cadence runs: the PLL is locked and the Ibain is not in VAULT -/
  running : Bool := false
  gunDone : Bool := false
  /-- gun value of the cold-start gun -/
  gun : Nat := 0
  singleGuns : Nat := 0
  clkFaultPrev : Bool := false
  refCount : Nat := 0
  /-- each core's own copy of KPR.TK_NOW_HI -/
  nowHiKeeper : Nat := 0
  nowHiSteward : Nat := 0
  deriving DecidableEq, Repr

/-- What the Steward core does (R49, R52, R345). -/
inductive CoreRun where
  | inReset | running | held
  deriving DecidableEq, Repr

/-- The two cores, their watchdogs and their memories (R42 to R55). -/
structure Cores where
  winKpr : Bool := false
  winRly : Bool := false
  winBnk : Nat := 0
  /-- RWS fields and the Steward protection unit are locked (R176) -/
  steward : CoreRun := .inReset
  /-- edges of the Steward watchdog's expiries within the present window (R52) -/
  expiries : List Nat := []
  wdogEn : Bool := true
  wdogTimeout : Nat := 0x1000
  /-- edge on which the Steward watchdog's count began; absent while it does not count -/
  wdogStart : Option Nat := none
  /-- last access-fault address of each core (R46) -/
  faultKeeper : Option Nat := none
  faultSteward : Option Nat := none
  tcmSteward : Memory := []
  tcmKeeper : Memory := []
  nvmA : Memory := []
  nvmB : Memory := []
  /-- the operation each NVM bank has in progress (R51) -/
  opA : Option NvmOp := none
  opB : Option NvmOp := none
  /-- what the last register or memory access returned to each core -/
  readKeeper : Word := 0
  readSteward : Word := 0
  /-- interrupts raised to the Steward core and not yet taken: mailbox, Warden, network, Lane, crypto -/
  irqSteward : Nat := 0
  deriving DecidableEq, Repr

/-- A command, response or notice frame (Table 3.2), its CRC left out. -/
structure Frame where
  opcode : Nat
  flags : Nat
  status : Nat
  tag : Nat
  payload : Bytes
  deriving DecidableEq, Repr

/-- Where an outstanding command stands. -/
inductive Progress where
  /-- accepted; its owner has not begun -/
  | accepted
  /-- its inbound bulk data has not ended (R93) -/
  | awaitsBulk
  /-- its owner has begun; the response comes later -/
  | begun
  deriving DecidableEq, Repr

/-- An outstanding command (R101). -/
structure Outstanding where
  port : Port
  session : Nat
  opcode : Nat
  tag : Nat
  payload : Bytes
  bulk : Bytes
  /-- acceptance edge (Table 2.4) -/
  edge : Nat
  /-- terminal edge of its response timer (R143) -/
  deadline : Nat
  progress : Progress
  /-- the link whose die it acts on, once sent there (R145) -/
  link : Option Nat := none
  deriving DecidableEq, Repr

/-- A ticket (R103). -/
structure Ticket where
  port : Port
  session : Nat
  opcode : Nat
  tag : Nat
  sent : Bool := false
  final : Nat := 0
  deriving DecidableEq, Repr

/-- An open bulk transfer (R104 to R108). -/
structure Bulk where
  port : Port
  session : Nat
  inbound : Bool
  tag : Nat
  opcode : Nat
  total : Nat
  /-- inbound: the data received; outbound: the data not yet staged -/
  data : Bytes
  seq : Nat
  deadline : Nat
  /-- the outbound bulk frame that waits for the host -/
  staged : Option Bytes := none
  deriving DecidableEq, Repr

/-- An order that took effect, kept while its edge lasts, for the photo finish (R79). -/
structure EdgeOrder where
  edge : Nat
  port : Port
  opcode : Nat
  objects : List (Nat × Nat)
  deriving DecidableEq, Repr

/-- A custody session (R136 to R139). -/
structure Session where
  isOpen : Bool := false
  /-- highest SEQ accepted and the map of the 64 below it (R136) -/
  seqHi : Nat := 0
  seen : List Nat := []
  txSeq : Nat := 0
  ivIn : Bytes := []
  ivOut : Bytes := []
  deadline : Nat := 0
  address : Bytes := []
  /-- fragments of the DATA message under reassembly -/
  parts : Bytes := []
  nextPart : Nat := 0
  partCount : Nat := 0
  deriving DecidableEq, Repr

/-- The handshake in progress (R133 to R137). -/
structure Handshake where
  address : Bytes := []
  session : Nat := 0
  deadline : Nat := 0
  helloParts : Sparse Bytes := []
  helloCount : Nat := 0
  finishParts : Sparse Bytes := []
  finishCount : Nat := 0
  /-- transcript hash H_T, once I_HELLO is sent -/
  transcript : Bytes := []
  ivIn : Bytes := []
  ivOut : Bytes := []
  answered : Bool := false
  deriving DecidableEq, Repr

/-- A custody message that waits to be built into records and sent on SITE (R586): its session, its record type and its body
(for DATA, the channel byte and the frame). -/
structure CustodyOut where
  session : Nat
  type : Nat
  body : Bytes
  address : Bytes
  deriving DecidableEq, Repr

/-- A forwarded EXT command (R130). -/
structure Forward where
  number : Nat
  port : Port
  session : Nat
  tag : Nat
  opcode : Nat
  deriving DecidableEq, Repr

/-- The command paths shared by all ports (R100 to R108, R142 to R147). -/
structure Paths where
  outstanding : List Outstanding := []
  nextTicket : Nat := 1
  tickets : Sparse Ticket := []
  bulks : List Bulk := []
  /-- last acceptance edge of each port other than KPR, by port index (R81) -/
  lastAccept : Sparse Nat := []
  edgeOrders : List EdgeOrder := []
  /-- tickets of LINK_LOST responses whose outcome is awaited, with their link (R145) -/
  lost : List (Nat × Nat) := []
  deriving DecidableEq, Repr

/-- The mailbox target (R109 to R117; KPR.MB_STAT, KPR.MB_ERR). -/
structure Mailbox where
  isOpen : Bool := false
  queue : List Frame := []
  /-- notices that wait in the Keeper for a free unreserved slot (R112) -/
  notices : List Frame := []
  /-- frames discarded since the last STATUS, saturating at 255 -/
  discards : Nat := 0
  errCrc : Nat := 0
  errAbort : Nat := 0
  errNotReady : Nat := 0
  errOther : Nat := 0
  /-- MB1's inbound slot -/
  slot : Option Bytes := none
  /-- what the target last drove on MB_IO during a data phase: MB0, MB1 -/
  drove0 : Bytes := []
  drove1 : Bytes := []
  deriving DecidableEq, Repr

/-- The service port (R119 to R124; KPR.SVC_STAT). -/
structure Service where
  /-- Keeper firmware has opened the port (R117, R346) -/
  isOpen : Bool := false
  present : Bool := false
  /-- edge on which SVC_PRESENTn was last presented high (R124) -/
  closedAt : Option Nat := none
  auth : Bool := false
  nonce : Option Bytes := none
  failures : Nat := 0
  lockUntil : Option Nat := none
  discards : Nat := 0
  /-- decoded bulk packets the receive path holds, at most two with the packet in progress (R119) -/
  slots : List Bytes := []
  /-- the last packet sent on SVC_TX -/
  sent : Bytes := []
  /-- the UART rate in baud (R119) -/
  baud : Nat := 115200
  deriving DecidableEq, Repr

/-- The Steward port (R125 to R130; KPR.STW_RSP_*, KPR.STW_STATUS). -/
structure StewardPort where
  dbRefused : Bool := false
  crcErr : Bool := false
  alignErr : Bool := false
  rangeErr : Bool := false
  ringBase : Nat := 0
  ringSizeW : Nat := 0x800
  ringWr : Nat := 0
  ringRd : Nat := 0
  /-- a doorbell has been accepted since the Steward core's reset (R127) -/
  rang : Bool := false
  /-- the Keeper queue of 48 entries (R128) -/
  queue : List Frame := []
  /-- notices and forwarded frames waiting for an unreserved entry -/
  waiting : List Frame := []
  nextForward : Nat := 1
  forwards : List Forward := []
  deriving DecidableEq, Repr

/-- The custody channel (R131 to R141; KPR.CUS_STAT). -/
structure Custody where
  sessions : Sparse Session := []
  handshake : Option Handshake := none
  rejects : Nat := 0
  tagFails : Nat := 0
  dropped : Nat := 0
  out : List CustodyOut := []
  slots : Sparse Bytes := []
  deriving DecidableEq, Repr

/-- A Sillage record (Table 20.1), its Baton kept as CYCLE and SLOT. -/
structure Rec where
  cycle : Nat
  slot : Nat
  source : Nat
  code : Nat
  late : Bool := false
  superseded : Bool := false
  vault : Bool := false
  summary : Bool := false
  lateEntry : Bool := false
  arg0 : Nat := 0
  arg1 : Nat := 0
  arg2 : Nat := 0
  deriving DecidableEq, Repr

/-- A sealed batch (R706, Table 20.3). -/
structure Batch where
  firstSeq : Nat
  count : Nat
  firstBaton : Nat
  lastBaton : Nat
  prevChain : Bytes
  chain : Bytes
  signature : Bytes := []
  unsigned : Bool := false
  signing : Bool := true
  persisted : Bool := false
  failures : Nat := 0
  /-- the SSN it was persisted under -/
  ssn : Nat := 0
  deriving DecidableEq, Repr

/-- A subscription (R713, R714). -/
structure Subscription where
  port : Port
  session : Nat
  tag : Nat
  number : Nat
  mask : Nat
  minSev : Nat
  since : Nat
  due : List (Nat × Rec) := []
  skipped : Nat := 0
  deriving DecidableEq, Repr

/-- Records on their way and held: the stages before commit (R702, R703, R708). -/
structure Entry where
  /-- records on their way, with their entry edge -/
  flight : List (Nat × Rec) := []
  held : List Rec := []
  /-- commit has begun: the gun has fired or no-Formula operation holds -/
  begun : Bool := false
  /-- the committed record of latest place under R70 -/
  latest : Option Rec := none
  /-- dropped since the last OVERFLOW: held stage, low, high; Baton of the first -/
  dropHeld : Nat := 0
  dropLow : Nat := 0
  dropHigh : Nat := 0
  dropFirst : Nat := 0
  /-- KPR.LOG_DROP -/
  low : Nat := 0
  high : Nat := 0
  discarded : Nat := 0
  deriving DecidableEq, Repr

/-- The Sillage store on the recovery flash (R709 to R711). -/
structure LogStore where
  scanned : Bool := false
  stopped : Bool := false
  nextSector : Nat := 2
  nextSsn : Nat := 1
  lastSsn : Nat := 0
  /-- FIRST_SEQ of the batch a store write writes -/
  writing : Option Nat := none
  /-- the Warden R claim timer has cut that write (R685) -/
  cut : Bool := false
  deriving DecidableEq, Repr

/-- The Sillage (chapter 20; KPR.LOG_*). -/
structure Sillage where
  entry : Entry := {}
  /-- committed records the ring holds, oldest first, with their SEQ -/
  ring : List (Nat × Rec) := []
  nextSeq : Nat := 0
  chain : Bytes := []
  bootCount : Nat := 0
  /-- the open batch: edge of its first commit, and CHAIN before its first record -/
  openSince : Nat := 0
  openFirst : Nat := 0
  openPrev : Bytes := []
  /-- sealed batches the ring holds, oldest first -/
  sealed : List Batch := []
  /-- the last sealed batch -/
  last : Option Batch := none
  /-- LOG.SEAL commands that await a signature: port, session, TAG and the batch's FIRST_SEQ -/
  waiters : List (Port × Nat × Nat × Nat) := []
  store : LogStore := {}
  subs : List Subscription := []
  nextSub : Nat := 1
  /-- latched alert codes, by index of Table 20.5 -/
  latched : Nat := 0
  /-- the code the present ALERTn frame shows, 0 for none, and the edge it started on -/
  shown : Nat := 0
  frameStart : Nat := 0
  deriving DecidableEq, Repr

end Sys2Proof.Machine
end

