-- ==== Sys2Proof/Machine/TypesNet.lean ====
section
/-! DEFINITION. The state of the Lane engines, the Pacer, the compartments and the frames (chapters 13 to 17): plain data. -/

namespace Sys2Proof.Machine

/-! ## Lane engines (chapter 13) -/

/-- A held select (R487, R488): its number, the clock mode, and the terminal edge of the hold timer. -/
structure HeldSel where
  sel : Nat
  mode : Nat
  deadline : Nat
  deriving DecidableEq, Repr

/-- A Lane engine (RLY.LANE_*). -/
structure Lane where
  wphold : Bool := false
  crcEn : Bool := false
  isOpen : Bool := false
  css : Nat := 1
  csh : Nat := 1
  csi : Nat := 1
  rtd : Nat := 0
  contTo : Nat := 20
  /-- the staged entry of 32 bytes -/
  staged : Bytes := []
  result : Nat := 0
  detail : Nat := 0
  offset : Nat := 0
  queue : List Bytes := []
  /-- the running entry and its start edge -/
  running : Option (Bytes × Nat) := none
  held : Option HeldSel := none
  broken : Bool := false
  /-- a COPY waits for the engine, or holds it (R500) -/
  copyWaits : Bool := false
  copy : Bool := false
  /-- edge from which every select has been high -/
  highSince : Nat := 0
  records : List (Nat × Nat) := []
  doneHiKeeper : Nat := 0
  doneHiSteward : Nat := 0
  rx0 : Bool := false
  rx1 : Bool := false
  /-- length of the staged frame -/
  tx : Option Nat := none
  txBusy : Bool := false
  errAborted : Nat := 0
  errNotReady : Nat := 0
  errBroken : Nat := 0
  errOther : Nat := 0
  notReady : Nat := 0xFF
  /-- edge on which the target last closed (R502) -/
  closedAt : Option Nat := none
  /-- frames discarded since the last STATUS -/
  discards : Nat := 0
  /-- what the target last drove -/
  drove : Bytes := []
  deriving DecidableEq, Repr

/-! ## Pacer (chapter 14) -/

/-- A bucket (Table 14.1). -/
structure Bucket where
  level : Int := 0
  frac : Nat := 0
  rate : Nat := 0
  ceil : Int := 0
  debt : Int := 0
  refused : Nat := 0
  /-- its last tick -/
  ticked : Nat := 0
  /-- commit edge of the last write of LEVEL, and the level before it (R528) -/
  written : Nat := 0
  unwritten : Int := 0
  /-- the edge of the last frame debit, and the sum debited on it (R533) -/
  spentAt : Nat := 0
  spent : Nat := 0
  deriving DecidableEq, Repr

/-- The Pacers: buckets by 1024 × die + number, die 0 the Relay and 1 + b Bank b; the staging registers by 4 × die + i. -/
structure Pacer where
  buckets : Sparse Bucket := []
  stage : Sparse Nat := []
  deriving DecidableEq, Repr

/-! ## Compartments (chapter 17) -/

/-- A pulse request (R521, R610). -/
structure PulseReq where
  unlock : Bool
  /-- Baton of the cause -/
  cause : Nat
  /-- edge on which it was issued or applied -/
  applied : Nat
  /-- heat edge that dispatched it, and the edge on which its column gate is off -/
  start : Option Nat := none
  ends : Nat := 0
  deriving DecidableEq, Repr

/-- An OPEN in a stage of R617. -/
structure OpenStage where
  /-- 1 DUAL, 2 DELAY, 3 the open window that follows a delay -/
  kind : Nat
  ticket : Nat
  port : Port
  session : Nat
  cause : Nat
  due : Nat
  delayS : Nat
  windowS : Nat
  deriving DecidableEq, Repr

/-- A compartment: what its Bank holds (R609, R610) and what the Keeper holds (R616). -/
structure Comp where
  state : Nat := 7
  freeze : Bool := false
  cause : Nat := 1
  /-- debounced: door closed, bolt thrown; and the last samples -/
  door : Bool := false
  bolt : Bool := false
  rawDoor : Bool := false
  rawBolt : Bool := false
  /-- terminal edges of the running timers -/
  doorTimer : Option Nat := none
  boltTimer : Option Nat := none
  relock : Option Nat := none
  ajar : Option Nat := none
  verify : Option Nat := none
  req : Option PulseReq := none
  /-- tickets of the OPEN and of the RELOCKs that await their notices -/
  openTicket : Option Nat := none
  relockTickets : List Nat := []
  disabled : Bool := false
  frozen : Bool := false
  holdUntil : Nat := 0
  lockUntil : Nat := 0
  lockRank : Nat := 0
  delayS : Nat := 0
  windowS : Nat := 0
  dualS : Nat := 60
  group : Option Nat := none
  /-- edge of the last SET_GROUP that changed the group, and the group before it (R629) -/
  groupEdge : Nat := 0
  groupWas : Option Nat := none
  /-- last state its Bank reported -/
  last : Nat := 7
  stage : Option OpenStage := none
  deriving DecidableEq, Repr

/-- A Bank die (R519 to R527, R602, R606; BNK.PCR_HEAT, BNK.CMP_SCAN, BNK.CMP_FAULT). -/
structure Bank where
  heatUs : Nat := 1000
  /-- the interval before the last PCR.SET_HEAT, and its commit edge (R532) -/
  heatWas : Nat := 1000
  heatFrom : Nat := 0
  lastHeat : Nat := 0
  halted : Bool := false
  stuckRow : Nat := 0
  row : Nat := 0
  skip : Nat := 0
  /-- skips with the present reason since the last record -/
  skips : Nat := 0
  dispatched : Nat := 0
  skipped : Nat := 0
  scans : Nat := 0
  /-- rows sampled so far in the present scan, and the last sample edge -/
  seen : Nat := 0
  lastSample : Nat := 0
  synced : Bool := false
  /-- the lockdown is applied (R249) -/
  lockdown : Bool := false
  overcurrents : Nat := 0
  /-- edge on which its last pulse ended (R627) -/
  endedAt : Option Nat := none
  /-- stamped records and answers held while its link is not in SESSION, and the records lost beyond 64 (R34) -/
  held : List Rec := []
  heldLost : Nat := 0
  answers : List (Nat × Nat × Bytes) := []
  /-- the state applied on the die is WATCH: from which edge, and before it (R668, R698) -/
  watch : Bool := false
  watchFrom : Nat := 0
  watchWas : Bool := false
  deriving DecidableEq, Repr

/-! ## Frames and the classifier (chapters 15 and 16) -/

/-- What a frame's parse gave (R547, R553, R584). -/
structure Parsed where
  /-- 0 END, else the reason of Table 15.6 -/
  reason : Nat := 0
  visits : Nat := 0
  /-- node and cursor at which it stopped -/
  node : Nat := 0
  offset : Nat := 0
  info : Nat := 0
  fv : Bytes := []
  /-- custody steering: frame offsets of the IP and UDP headers -/
  steer : Option (Nat × Nat) := none
  deriving DecidableEq, Repr

/-- Where a frame stands. -/
inductive FrameStage where
  | parsing | parsed | slow | forward | steer | sending
  deriving DecidableEq, Repr

/-- A frame the Relay holds (R543, R579). -/
structure NetFrame where
  /-- the direction it was received in, or whose buffer holds it: 0 S2P, 1 P2S -/
  dir : Nat
  /-- from the destination address to the FCS -/
  bytes : Bytes
  /-- reception or injection edge -/
  recv : Nat
  cells : Nat
  stage : FrameStage
  /-- it came by NET.INJECT in mode RECLASSIFY (R590) -/
  injected : Bool := false
  /-- it has no residence limit: built by the Keeper (R586) -/
  unlimited : Bool := false
  parse : Parsed := {}
  /-- classification edge, or the edge of its place in the transmit order -/
  edge : Nat := 0
  /-- epoch id it is bound to, once classified -/
  epoch : Option Nat := none
  /-- slow-path reason, RULE field (R576), and whether it is mirrored -/
  reason : Nat := 0
  rule : Nat := 0
  mirror : Bool := false
  txMac : Nat := 0
  /-- edge on which its transmission ends -/
  ends : Nat := 0
  deriving DecidableEq, Repr

/-- Records of one drop reason of a port (R560). -/
structure DropLog where
  last : Nat
  count : Nat
  first : Nat
  deriving DecidableEq, Repr

/-- A MAC with its direction's counters (RLY.NET_MAC to NET_MDIO_CMD, NET_CLS_CNT, NET_MISS). -/
structure Mac where
  up : Bool := false
  speed : Nat := 0
  txdly : Bool := false
  rxdly : Bool := false
  /-- PHY_ADDR less its reset value 1 + m, modulo 32 -/
  phy : Nat := 0
  training : Option Nat := none
  depth : Nat := 0
  window : Nat := 0
  /-- the limits before the last NET.SET_LIMITS, and its edge (R561) -/
  depthWas : Nat := 0
  windowWas : Nat := 0
  limitsAt : Nat := 0
  /-- a frame is in reception: its SFD found 16 free cells -/
  receiving : Option Bool := none
  rxOk : Nat := 0
  fcs : Nat := 0
  runt : Nat := 0
  oversize : Nat := 0
  rxErr : Nat := 0
  bufferFull : Nat := 0
  malformed : Nat := 0
  slowFull : Nat := 0
  macCtl : Nat := 0
  txOk : Nat := 0
  txLinkdown : Nat := 0
  txDisabled : Nat := 0
  pauseRx : Nat := 0
  /-- the transmitter is paused until this edge; cycles of a pause that begins with the end of the frame in transmission -/
  paused : Option Nat := none
  pauseDue : Option Nat := none
  /-- first edge on which the next preamble byte may begin -/
  free : Nat := 0
  mdioData : Nat := 0
  mdioReg : Nat := 0
  mdioWrite : Bool := false
  misses : Nat := 0
  missDrop : Nat := 0
  stale : Nat := 0
  overDrop : Nat := 0
  injLoop : Nat := 0
  logs : Sparse DropLog := []
  deriving DecidableEq, Repr

/-- A classifier table: TCAM entries and range comparators by physical index; unlisted ones are zero (R569, R572). -/
structure Table where
  rules : Sparse Bytes := []
  ranges : Sparse Bytes := []
  deriving DecidableEq, Repr

/-- The counters of one physical entry (R577). -/
structure RuleCount where
  frames : Nat := 0
  bytes : Nat := 0
  refused : Nat := 0
  deriving DecidableEq, Repr

/-- The classifier's tables and epochs (R578, R580; RLY.NET_EPOCH). -/
structure Classifier where
  current : Table := {}
  older : Table := {}
  shadow : Table := {}
  cur : Nat := 0
  old : Nat := 0
  /-- edge on which the last commit took effect -/
  effect : Nat := 0
  /-- last edge on which a frame bound to the older table left; for a pending commit, at least the edge before it was applied -/
  drained : Nat := 0
  /-- ticket of the pending commit -/
  waiting : Option Nat := none
  /-- last edge of the running shadow copy -/
  copying : Option Nat := none
  /-- a shadow copy waits for RELAY_NET (R583) -/
  copyHeld : Bool := false
  commits : Nat := 0
  /-- entries whose counters the next commit clears (R577) -/
  clears : List Nat := []
  counts : Sparse RuleCount := []
  deriving DecidableEq, Repr

/-- A mirror copy in progress (R588). -/
structure MirrorJob where
  dir : Nat
  bytes : Bytes
  recv : Nat
  rule : Nat
  dispatch : Nat
  deriving DecidableEq, Repr

/-- The network side of the Relay (RLY.NET_*). -/
structure Net where
  macs : Sparse Mac := []
  frames : List NetFrame := []
  cls : Classifier := {}
  /-- slow-path ring -/
  spHead : Nat := 0
  spTail : Nat := 0
  /-- mirror sink -/
  mrMode : Nat := 0
  mrHead : Nat := 0
  mrTail : Nat := 0
  mrFull : Nat := 0
  mrOff : Nat := 0
  mrJobs : List MirrorJob := []
  steered : Nat := 0
  cusFull : Nat := 0
  cusLink : Nat := 0
  /-- custody frames the Keeper holds for verification: source and record (R585) -/
  keeperIn : List (Bytes × Bytes) := []
  deriving DecidableEq, Repr

end Sys2Proof.Machine
end

