-- ==== Sys2Proof/Machine/TypesPower.lean ====
section
/-! DEFINITION. The state of the power domains, the monitors and the Nose (chapters 18 and 19): plain data. -/

namespace Sys2Proof.Machine

/-- The power states (Table 19.1). -/
inductive PowerState where
  | run | dim | watch | vault
  deriving DecidableEq, Repr

/-- The condition of a present domain (R674). -/
inductive Condition where
  | on | switching | drain | gated | off
  deriving DecidableEq, Repr

/-- A power domain (Table 19.3). -/
structure Domain where
  condition : Condition := .off
  /-- ready edge of a SWITCHING domain -/
  ready : Nat := 0
  /-- a drain or drop in progress ends in GATED rather than OFF -/
  toGate : Bool := false
  /-- terminal edge of the claim timer (R681) -/
  timer : Nat := 0
  /-- the drain has ended; its rail drops on this edge (R682) -/
  drop : Option Nat := none
  reachedT : Bool := false
  /-- ticket of the order in progress, and where its notice goes -/
  ticket : Option Nat := none
  /-- tickets of further orders of ON that found the domain SWITCHING -/
  joined : List Nat := []
  deriving DecidableEq, Repr

/-- A monitor channel's last reading (R689). -/
structure Reading where
  value : Nat := 0
  edge : Nat := 0
  /-- the reading before it, for an edge that may not use one presented on it (R689, R697) -/
  before : Nat := 0
  beforeEdge : Nat := 0
  presented : Bool := false
  /-- a limit of R690 is crossed -/
  high : Bool := false
  low : Bool := false
  deriving DecidableEq, Repr

/-- Governor settings of one scope (R688). -/
structure Governor where
  knee : Int
  stop : Int
  floor : Nat
  /-- edge on which they took effect, and what held before (R697) -/
  since : Nat := 0
  was : Int × Int × Nat := (0, 0, 0)
  deriving DecidableEq, Repr

/-- Power states, domains and monitors (chapter 19). -/
structure Power where
  state : PowerState := .run
  /-- edge on which VAULT is entered, once awaited (R671) -/
  vaultDue : Option Nat := none
  /-- WAKEn presented low -/
  wake : Bool := false
  lastChange : Nat := 0
  domains : Sparse Domain := []
  /-- conditions from before the edge `beforeEdge` of the domains that changed on it (R694) -/
  before : List (Nat × Condition) := []
  beforeEdge : Nat := 0
  keeperGov : Governor := { knee := 115, stop := 140, floor := 0 }
  bankGov : Sparse Governor := []
  /-- readings by 16 × die + channel; die 0 Keeper, 1 Relay, 2 + b Bank b -/
  readings : Sparse Reading := []
  /-- LEVEL of every bucket of a partner die recorded at its FILONG switch-off (R680), by 1024 × die + bucket -/
  recorded : Sparse Int := []
  /-- main power is present, as the Vault domain presents it (R670) -/
  mainPower : Bool := true
  deriving DecidableEq, Repr

/-- The Nose states (Table 18.1). -/
inductive NoseState where
  | off | empty | staging | loaded | running | scrubbing
  deriving DecidableEq, Repr

/-- A stream of a model (Table 18.3). -/
structure Stream where
  source : Nat
  rateK : Nat
  shift : Nat
  count : Nat
  dst : Nat
  deriving DecidableEq, Repr

/-- A layer of a model (Table 18.4). -/
structure Layer where
  kind : Nat
  act : Nat
  k : Nat
  step : Nat
  lIn : Nat
  cIn : Nat
  cOut : Nat
  lOut : Nat
  inOff : Nat
  in2Off : Nat
  outOff : Nat
  wOff : Nat
  qOff : Nat
  lutOff : Nat
  deriving DecidableEq, Repr

/-- A window taken for loading or computing (R652, R653): its samples lie in its input buffer. -/
structure Window where
  number : Nat
  baton : Nat
  /-- the window edge that took it -/
  taken : Nat
  /-- last edge of its load; once computing, its completion edge -/
  edge : Nat
  deriving DecidableEq, Repr

/-- A record of the Nose event ring (Table 18.8). -/
structure NoseEvent where
  recno : Nat
  wseq : Nat
  winBaton : Nat
  baton : Nat
  conf : List Nat
  above : Nat
  new : Nat
  deriving DecidableEq, Repr

/-- A sample of a source ring: its start edge, its ready edge and its value (R634 to R636). -/
structure Sample where
  start : Nat
  ready : Nat
  value : Int
  deriving DecidableEq, Repr

/-- The Nose and the Sensor front (chapter 18). -/
structure Nose where
  state : NoseState := .off
  /-- the plaintext model body that the sealed weight SRAM holds; empty when no model is loaded -/
  model : Bytes := []
  tenant : Nat := 0
  tenantId : Bytes := []
  version : Nat := 0
  session : Nat := 0
  sessions : Nat := 0
  opened : Nat := 0
  report : Nat := 0
  active : Nat := 0
  /-- edge of entering RUNNING -/
  since : Nat := 0
  wseq : Nat := 0
  load : Option Window := none
  compute : Option Window := none
  /-- edge from which the compute slot is free -/
  freeFrom : Nat := 0
  /-- what the engine has written to activation SRAM in this session, by byte address -/
  act : Sparse Byte := []
  rings : Sparse (List Sample) := []
  events : List NoseEvent := []
  overwritten : Nat := 0
  nextRec : Nat := 1
  done : Nat := 0
  dropped : Nat := 0
  warmup : Nat := 0
  last : List Nat := []
  /-- last edge a dropped-window record was logged, and drops since -/
  dropLogged : Option Nat := none
  dropsSince : Nat := 0
  scrubEnd : Nat := 0
  /-- the import transfer found the Nose EMPTY at its opening (R646) -/
  stagedOpen : Bool := false
  importing : Option (Port × Nat × Nat) := none
  /-- a package restart ended a session: its scrub runs at the next start of domain NOSE (R658) -/
  scrubOwed : Bool := false
  deriving DecidableEq, Repr

end Sys2Proof.Machine
end

