-- ==== Sys2Proof/Machine/TypesWarden.lean ====
section
/-! DEFINITION. The state of the Warden ports, the pinned store, the attached flashes, recovery and attestation (chapters 10
to 12): plain data. -/

namespace Sys2Proof.Machine

/-- The kinds of a host command (Table 10.5). -/
inductive WKind where
  | passData | passReg | answer | capture | swallow
  deriving DecidableEq, Repr

/-- The shape of a command (R378): its class (Table 10.11; 15 for none), address bytes (0xFF the port's ADDR_BYTES), dummy
periods, the lanes of address and data as powers of 2, the data lengths a capture takes, the erase size, and for a SWALLOW
whether it sets WEL. -/
structure Shape where
  kind : WKind
  cls : Nat := 15
  addr : Nat := 0
  dummy : Nat := 0
  alanes : Nat := 0
  dlanes : Nat := 0
  minLen : Nat := 0
  maxLen : Nat := 0
  erase : Nat := 0
  setsWel : Bool := false
  deriving DecidableEq, Repr

/-- A complete write-class host command (R391). -/
structure Captured where
  opcode : Nat
  /-- class of Table 10.11 -/
  cls : Nat
  /-- the address and its length in bytes, 0 for a command without one -/
  addr : Nat
  addrBytes : Nat
  data : Bytes
  /-- erase size in bytes, 0 for none -/
  erase : Nat
  /-- bound to the table that was live before the last commit (R426) -/
  old : Bool
  /-- edge of its select release, then of its decision -/
  edge : Nat
  deriving DecidableEq, Repr

/-- An open review (R419). -/
structure Review where
  cmd : Captured
  addr : Nat
  deadline : Nat
  deriving DecidableEq, Repr

/-- A Warden-own operation (R393, Table 10.10). -/
structure OwnOp where
  cmd : Captured
  start : Nat
  /-- select release of step 2 -/
  release : Nat
  polls : Nat := 0
  /-- the ready edge, once known -/
  ready : Option Nat := none
  /-- the busy timer has expired (R397) -/
  failed : Bool := false
  /-- the flash has taken the command -/
  landed : Bool := false
  deriving DecidableEq, Repr

/-- A Warden port, W0 to W3 or Warden R (RLY.WDN_*). -/
structure WPort where
  phase : Nat := 0
  phaseBaton : Nat := 0
  /-- the port has entered HOLD and its HOLD procedure has not run -/
  holdDue : Bool := false
  /-- a HOLD procedure has completed in this boot session -/
  holdDone : Bool := false
  phaseSel : Nat := 0
  sfdpOk : Bool := false
  fault : Nat := 0
  /-- a fault at a switch-on in LAUNCH or RUN: every host command is denied until a HOLD procedure ends without one (R679) -/
  dead : Bool := false
  sfdp : Bytes := []
  ident : Bytes := []
  sr1 : Nat := 0
  sr2 : Nat := 0
  sr3 : Nat := 0
  wel : Bool := false
  deepPd : Bool := false
  armed : Bool := false
  /-- the write buffer's command that awaits its decision -/
  undecided : Option Captured := none
  /-- an allowed command that awaits its start edge -/
  allowed : Option Captured := none
  op : Option OwnOp := none
  held : Option Captured := none
  review : Option Review := none
  reviewNo : Nat := 0
  reviewExpired : Bool := false
  live : Sparse Bytes := []
  shadow : Sparse Bytes := []
  retiring : Bool := false
  /-- edge on which the copy of R427 ends -/
  copying : Option Nat := none
  commits : Nat := 0
  stale : List Nat := []
  deniedRead : Nat := 0
  busyRead : Nat := 0
  aborted : Nat := 0
  deniedOpc : Nat := 0
  opened : Nat := 0
  approved : Nat := 0
  denied : Nat := 0
  expired : Nat := 0
  /-- what the host received in its last data phase -/
  drove : Bytes := []
  deriving DecidableEq, Repr

/-- A substitute runner (R450, R451). -/
structure Runner where
  plat : Nat
  image : Nat
  port : Nat
  addr : Nat
  span : Nat
  base : Nat
  windowLog2 : Nat
  pinAddr : Nat
  pinLen : Nat
  inForce : Bool := false
  deriving DecidableEq, Repr

/-- A recovery, queued or running (R438, R456). -/
structure Recovery where
  plat : Nat
  image : Nat
  /-- 1 COPY, 2 SUBSTITUTE -/
  policy : Nat
  /-- edge of its failing verdict, or of the RCV.MEND's acceptance -/
  edge : Nat
  /-- the ticket of an RCV.MEND; none at cold start -/
  ticket : Option Nat := none
  /-- start edge, once it runs -/
  start : Nat := 0
  /-- a busy timeout has cut one of its operations (FLASH_FAULT) -/
  cut : Bool := false
  /-- link 0 left SESSION while it ran (R469) -/
  lost : Bool := false
  /-- the outcome that a claim timer has given it (R684, R685) -/
  stopped : Nat := 0
  deriving DecidableEq, Repr

/-- The recovery record of a platform (KPR.RCV_PLAT). -/
structure PlatRcv where
  outcome : Nat := 0
  image : Nat := 0
  attempts : Nat := 0
  deriving DecidableEq, Repr

/-- An SPDM connection (R464): 0 none, 1 after VERSION, 2 after CAPABILITIES, 3 after ALGORITHMS; and its transcripts. -/
structure Spdm where
  stage : Nat := 0
  vca : Bytes := []
  certs : Bytes := []
  meas : Bytes := []
  deriving DecidableEq, Repr

/-- The Warden ports with the memories around them, and the recovery procedure (KPR.RCV_*). -/
structure Warden where
  ports : Sparse WPort := []
  /-- contents of the attached flashes: 0 to 3 behind W0 to W3, 4 behind Warden R; unlisted bytes read 0xFF -/
  flash : Sparse Memory := []
  /-- the Infield pool, the pinned store at its start (R159, R422); unlisted bytes read 0; and the committed pages -/
  pool : Memory := []
  committed : List Nat := []
  runners : List Runner := []
  queue : List Recovery := []
  running : Option Recovery := none
  rcv : Sparse PlatRcv := []
  dirValid : Bool := false
  dirCopy : Bool := false
  dirGen : Nat := 0
  /-- the verified staged Keeper firmware: VERSION and DIGEST -/
  staged : Option (Nat × Bytes) := none
  /-- ticket of the running install (R460) -/
  install : Option Nat := none
  /-- words of RLY.WDN_CUSTOM that a core has written before the seal, by 128 × port + 2 × entry + half -/
  custom : Sparse Nat := []
  /-- certificates 0 and 1, written before shipment, and those issued in this boot session (Table 12.9) -/
  certs : Sparse Bytes := []
  spdm : Sparse Spdm := []
  deriving DecidableEq, Repr

end Sys2Proof.Machine
end

