-- ==== Sys2Proof/Machine/State.lean ====
section
/-! DEFINITION. The block's state: every register, FIFO, buffer, counter, mode and pin the spec gives it, and the queue of
the commands that wait; the two ways a step can stop; and the state right after reset. -/

namespace Sys2Proof.Machine

/-- Why a command stops with a fault. -/
inductive Fault where
  /-- Raised by an event command whose operand numbers an object no variant has (a sixth link, a fifth Warden port): the
  hardware has no such event (R4, R18, R20). Safe: the hardware never sees it. -/
  | noSuchObject
  deriving DecidableEq, Repr

/-- Why a command is refused by the model. -/
inductive Refusal where
  /-- Raised by `exec` alone, for a row that has no meaning yet. Safe: nothing can be proved of it. -/
  | notModelled (mnemonic : String)
  deriving DecidableEq, Repr

/-- What a part is made of (R3, R18; KPR.TOPOLOGY). -/
structure Part where
  banks : Nat := 4
  keeperRev : Nat := 0
  relayRev : Nat := 0
  /-- K-ROM revision: 256 × major + minor; K-ROM 1.4 as shipped (R1) -/
  romRev : Nat := 0x0104
  deriving DecidableEq, Repr

/-- The block's state. -/
@[ext]
structure State where
  part : Part := {}
  clk : Clock := {}
  cores : Cores := {}
  paths : Paths := {}
  mb : Mailbox := {}
  svc : Service := {}
  stw : StewardPort := {}
  cus : Custody := {}
  log : Sillage := {}
  pwr : Power := {}
  nose : Nose := {}
  frm : FormulaState := {}
  fus : Fuses := {}
  vlt : Vault := {}
  flc : Flacon := {}
  cry : Crypto := {}
  boot : Boot := {}
  wdn : Warden := {}
  lanes : Sparse Lane := []
  pcr : Pacer := {}
  banks : Sparse Bank := []
  comps : Sparse Comp := []
  net : Net := {}
  links : Sparse Link := []
  /-- the number of the next free value, and of the next random byte: the model's own -/
  free : Nat := 0
  random : Nat := 0
  pending : List Instr := []
  deriving DecidableEq, Repr

/-- The block with PORn low, before its first cold start. -/
def State.reset : State := {}

end Sys2Proof.Machine
end

