-- ==== Sys2Proof/Machine/Ops.lean ====
section
/-! DEFINITION. The operations every family shares: time, logging, answers, tickets, notices, the receipt of a command and the
photo finish of orders (chapters 2 and 3, R701). -/

namespace Sys2Proof


/-- The port index (Table 2.6). -/
def Port.index : Port → Nat
  | .kpr => 0 | .cus => 1 | .svc => 2 | .stw => 3 | .mb0 => 4 | .mb1 => 5 | .pnl => 6

/-- The rank order (Table 2.6). -/
def Port.rank : Port → Nat
  | .kpr => 1 | .cus => 2 | .svc => 3 | .stw => 4 | .mb0 => 5 | .mb1 => 5 | .pnl => 6

/-- The MASK bit of a port's rank (section 4.8 of the Formula); KEEPER has none. -/
def Port.rankBit : Port → Nat
  | .cus => 1 | .svc => 2 | .stw => 4 | .mb0 => 8 | .mb1 => 8 | _ => 0

/-- The Baton slot of a port of arrival (Table 2.2). -/
def Port.slot : Port → Nat
  | .mb0 => 4 | .mb1 => 4 | .svc => 4 | .cus => 14 | .stw => 3 | .pnl => 15 | .kpr => 2

/-- The port's limit of outstanding commands (Table 1.9). -/
def Port.limit : Port → Nat
  | .svc => 4 | .cus => 8 | _ => 16

/-- The largest data of one bulk frame of a port (R105). -/
def Port.bulkMax : Port → Nat
  | .svc => 4096 | .cus => 1024 | _ => 16384

end Sys2Proof

namespace Sys2Proof.Machine

/-- The answer of a meaning. -/
abbrev Out := Host.Outcome State Fault Refusal

/-- An event on an object the hardware has, or a fault on one that no variant has. -/
def onObject (p : Bool) (s : State) : Out := if p then .next s else .fault .noSuchObject

/-! ## One update per component -/

def State.modClk (f : Clock → Clock) (s : State) : State := { s with clk := f s.clk }
def State.modCores (f : Cores → Cores) (s : State) : State := { s with cores := f s.cores }
def State.modPaths (f : Paths → Paths) (s : State) : State := { s with paths := f s.paths }
def State.modMb (f : Mailbox → Mailbox) (s : State) : State := { s with mb := f s.mb }
def State.modSvc (f : Service → Service) (s : State) : State := { s with svc := f s.svc }
def State.modStw (f : StewardPort → StewardPort) (s : State) : State := { s with stw := f s.stw }
def State.modCus (f : Custody → Custody) (s : State) : State := { s with cus := f s.cus }
def State.modLog (f : Sillage → Sillage) (s : State) : State := { s with log := f s.log }
def State.modPwr (f : Power → Power) (s : State) : State := { s with pwr := f s.pwr }
def State.modNose (f : Nose → Nose) (s : State) : State := { s with nose := f s.nose }
def State.modFrm (f : FormulaState → FormulaState) (s : State) : State := { s with frm := f s.frm }
def State.modFus (f : Fuses → Fuses) (s : State) : State := { s with fus := f s.fus }
def State.modVlt (f : Vault → Vault) (s : State) : State := { s with vlt := f s.vlt }
def State.modFlc (f : Flacon → Flacon) (s : State) : State := { s with flc := f s.flc }
def State.modBoot (f : Boot → Boot) (s : State) : State := { s with boot := f s.boot }
def State.modWdn (f : Warden → Warden) (s : State) : State := { s with wdn := f s.wdn }
def State.modCry (f : Crypto → Crypto) (s : State) : State := { s with cry := f s.cry }

/-! ## Time -/

/-- The Cadence cycle count (R59). -/
def State.now (s : State) : Nat := s.clk.now

/-- The largest cycle count (R59). -/
def maxCycle : Nat := 2 ^ 60 - 1

/-- The count moved on to edge `t`, never back, holding at its largest value (R59, R76). -/
def State.advanceTo (t : Nat) (s : State) : State :=
  s.modClk fun c => { c with now := max c.now (min maxCycle t) }

/-- One Cadence edge (R59). -/
def State.tick (s : State) : State := if s.clk.running then s.advanceTo (s.now + 1) else s

/-- A Baton (R69). -/
def baton (cycle slot : Nat) : Nat := cycle * 16 + slot

/-- The first edge on or after now that is a multiple of `p` (R60). -/
def State.atTick (p : Nat) (s : State) : State := s.advanceTo (ceilDiv s.now p * p)

/-! ## Free and random values -/

/-- The next free value (log entry 3). -/
def State.freeVal (s : State) : Nat × State := (Config.freeNat s.free, { s with free := s.free + 1 })

/-- `n` fresh bytes of a mask generator, or of a source that no rule gives (log entry 4). -/
def State.draw (n : Nat) (s : State) : Bytes × State :=
  ((List.range n).map fun i => Config.randomByte (s.random + i), { s with random := s.random + n })

/-! ## Logging -/

/-- Edges from a Baton to its record's entry (R702, Table 1.3): the Keeper 1, the Relay 31, a Bank 33. -/
def entryDelay (slot : Nat) : Nat := if slot ∈ [6, 7, 8, 9] then 31 else if slot ∈ [10, 11, 12, 13] then 33 else 1

/-- The Sillage keeps records: not in a hold, in Keeper-ROM-only operation or in VAULT (R253, R703, R723). -/
def State.recording (s : State) : Bool := !s.fus.hold && !s.fus.romOnly && decide (s.pwr.state ≠ .vault)

/-- A record put on its way to the Sillage (R69, R702). -/
def State.putRec (r : Rec) (s : State) : State :=
  if !s.recording then s
  else s.modLog fun l => { l with entry := { l.entry with flight := l.entry.flight ++ [(r.cycle + entryDelay r.slot, r)] } }

/-- An event of block `slot` and source `src`, with its code and arguments, on edge `t`. -/
def State.logAt (t slot src code : Nat) (a0 : Nat := 0) (a1 : Nat := 0) (a2 : Nat := 0) (s : State) : State :=
  s.putRec { cycle := t, slot := slot, source := src, code := code, arg0 := a0, arg1 := a1, arg2 := a2 }

/-- An event on the present edge. -/
def State.event (slot src code : Nat) (a0 : Nat := 0) (a1 : Nat := 0) (a2 : Nat := 0) (s : State) : State :=
  s.logAt s.now slot src code a0 a1 a2

/-- An event that came on the edge of the expiry it lost to (R76). -/
def State.eventLate (slot src code : Nat) (a0 : Nat := 0) (a1 : Nat := 0) (a2 : Nat := 0) (s : State) : State :=
  s.putRec { cycle := s.now, slot := slot, source := src, code := code, late := true, arg0 := a0, arg1 := a1, arg2 := a2 }

/-! ## The command index -/

/-- How a command is listed (Table 3.13): ranks, timeout class with 0 for TX, bulk kind (0 none, 1 inbound, 2 outbound),
whether it is a query (R83). -/
structure CmdInfo where
  ranks : Nat
  time : Nat
  bulk : Nat := 0
  query : Bool := false
  deriving DecidableEq, Repr

/-- Table 3.13, classes 0x0 to 0x4. -/
def commandIndexLow : List (Nat × CmdInfo) :=
  [(0x0001, ⟨15, 1, 0, true⟩), (0x0002, ⟨15, 1, 0, true⟩), (0x0003, ⟨15, 1, 0, true⟩), (0x0008, ⟨2, 1, 0, false⟩),
   (0x0009, ⟨2, 3, 1, false⟩), (0x000A, ⟨15, 1, 0, true⟩), (0x0010, ⟨15, 1, 0, true⟩), (0x0011, ⟨15, 1, 0, true⟩),
   (0x0020, ⟨15, 1, 0, true⟩), (0x0021, ⟨7, 1, 0, false⟩), (0x0030, ⟨7, 2, 0, false⟩), (0x0031, ⟨15, 1, 0, false⟩),
   (0x0032, ⟨15, 1, 0, true⟩), (0x0040, ⟨15, 1, 0, false⟩), (0x0041, ⟨3, 2, 0, false⟩), (0x0042, ⟨15, 1, 0, true⟩),
   (0x1000, ⟨15, 1, 0, true⟩), (0x1001, ⟨15, 2, 0, false⟩), (0x1002, ⟨15, 1, 0, false⟩), (0x1003, ⟨15, 1, 0, true⟩),
   (0x1004, ⟨15, 1, 0, true⟩), (0x1005, ⟨7, 1, 0, false⟩),
   (0x2000, ⟨15, 2, 0, false⟩), (0x2001, ⟨15, 2, 0, false⟩), (0x2002, ⟨15, 1, 0, false⟩), (0x2003, ⟨15, 1, 0, false⟩),
   (0x2004, ⟨3, 2, 0, false⟩), (0x2005, ⟨15, 1, 0, false⟩), (0x2006, ⟨15, 1, 0, true⟩), (0x2007, ⟨15, 1, 0, true⟩),
   (0x2008, ⟨7, 1, 0, false⟩), (0x2009, ⟨3, 1, 0, false⟩), (0x200A, ⟨3, 1, 0, false⟩), (0x200B, ⟨7, 1, 0, false⟩),
   (0x3000, ⟨15, 1, 0, true⟩), (0x3001, ⟨7, 1, 0, false⟩), (0x3002, ⟨7, 1, 0, false⟩), (0x3003, ⟨5, 1, 0, false⟩),
   (0x3004, ⟨15, 1, 0, true⟩), (0x3005, ⟨3, 2, 0, false⟩), (0x3006, ⟨15, 1, 0, true⟩),
   (0x4000, ⟨15, 1, 0, true⟩), (0x4001, ⟨7, 1, 0, false⟩), (0x4010, ⟨7, 1, 0, false⟩), (0x4011, ⟨7, 1, 0, false⟩),
   (0x4012, ⟨7, 1, 0, false⟩), (0x4013, ⟨15, 1, 0, true⟩), (0x4014, ⟨7, 1, 0, false⟩), (0x4015, ⟨4, 1, 0, false⟩)]

/-- Table 3.13, classes 0x5 to 0xD. -/
def commandIndexHigh : List (Nat × CmdInfo) :=
  [(0x5000, ⟨7, 2, 0, false⟩), (0x5001, ⟨7, 2, 0, false⟩), (0x5002, ⟨7, 2, 0, false⟩), (0x5003, ⟨7, 1, 0, false⟩),
   (0x5004, ⟨15, 1, 0, true⟩), (0x5005, ⟨15, 3, 0, true⟩), (0x5006, ⟨3, 1, 0, false⟩),
   (0x6000, ⟨15, 3, 0, false⟩), (0x6001, ⟨15, 1, 0, true⟩), (0x6002, ⟨15, 1, 0, false⟩), (0x6003, ⟨15, 1, 0, false⟩),
   (0x6004, ⟨15, 1, 0, true⟩),
   (0x7000, ⟨15, 3, 0, true⟩), (0x7001, ⟨15, 2, 2, true⟩), (0x7002, ⟨15, 2, 2, true⟩), (0x7003, ⟨15, 3, 0, true⟩),
   (0x8000, ⟨15, 1, 0, true⟩), (0x8001, ⟨3, 4, 0, false⟩), (0x8002, ⟨3, 4, 1, false⟩), (0x8003, ⟨3, 4, 1, false⟩),
   (0x8004, ⟨15, 1, 0, true⟩),
   (0x9000, ⟨15, 4, 1, false⟩), (0x9001, ⟨7, 1, 0, false⟩), (0x9002, ⟨15, 2, 0, false⟩), (0x9003, ⟨15, 1, 0, true⟩),
   (0x9004, ⟨15, 1, 0, true⟩),
   (0xA000, ⟨15, 2, 0, true⟩), (0xA001, ⟨15, 3, 2, true⟩), (0xA002, ⟨7, 3, 0, false⟩), (0xA003, ⟨15, 1, 0, true⟩),
   (0xA004, ⟨15, 1, 0, false⟩), (0xA005, ⟨7, 1, 0, false⟩),
   (0xB000, ⟨15, 1, 0, true⟩), (0xB001, ⟨7, 1, 0, false⟩), (0xB002, ⟨3, 1, 0, false⟩), (0xB003, ⟨7, 1, 0, false⟩),
   (0xC000, ⟨15, 1, 0, true⟩), (0xC001, ⟨3, 4, 1, false⟩), (0xC002, ⟨3, 2, 0, false⟩), (0xC003, ⟨15, 1, 0, true⟩),
   (0xD000, ⟨15, 1, 0, true⟩), (0xD001, ⟨3, 4, 0, false⟩), (0xD002, ⟨3, 4, 0, false⟩), (0xD003, ⟨3, 4, 0, false⟩),
   (0xD004, ⟨3, 3, 0, false⟩)]

/-- Whether an opcode is of class EXT (R130). -/
def isExt (op : Nat) : Bool := op / 4096 = 0xE

/-- The listing of an opcode; an unlisted one has none (R148, R149). -/
def cmdInfo (op : Nat) : Option CmdInfo :=
  if isExt op then some ⟨11, 0, 0, false⟩
  else if op < 0x5000 then commandIndexLow.lookup op else commandIndexHigh.lookup op

/-- Whether an opcode is a query (R83). -/
def isQuery (op : Nat) : Bool := match cmdInfo op with | some i => i.query | none => false

/-! ## Ports -/

/-- The source index of a port's records: the port index in slot 4, the session in slot 14, else 0 (Table 2.2). -/
def portSource (p : Port) (session : Nat) : Nat :=
  match p with
  | .mb0 => 4 | .mb1 => 5 | .svc => 2 | .cus => session | _ => 0

/-- The completion codes (Table 3.11). -/
def cOk : Nat := 0x00
def cDeferred : Nat := 0x01
def cPending : Nat := 0x02
def cRank : Nat := 0x10
def cState : Nat := 0x11
def cSuperseded : Nat := 0x12
def cExpired : Nat := 0x13
def cBusyDrain : Nat := 0x14
def cAbortedPower : Nat := 0x15
def cSelfBank : Nat := 0x16
def cNoBudget : Nat := 0x17
def cMalformed : Nat := 0x20
def cUnknown : Nat := 0x21
def cFusWindow : Nat := 0x22

/-- The bytes of a frame without its CRC (Table 3.2). -/
def Frame.bytes (f : Frame) : Bytes :=
  le 2 f.opcode ++ le 1 f.flags ++ le 1 f.status ++ le 2 f.payload.length ++ le 2 f.tag ++ f.payload

/-- A frame read from its bytes, CRC already removed. -/
def Frame.ofBytes (b : Bytes) : Frame :=
  { opcode := u16 b 0, flags := byteAt b 2, status := byteAt b 3, tag := u16 b 6, payload := b.drop 8 }

/-- Commands outstanding on a port or custody session (R101). -/
def State.outCount (p : Port) (session : Nat) (s : State) : Nat :=
  (s.paths.outstanding.filter fun o => o.port = p ∧ o.session = session).length

/-- Free unreserved slots of the MB0 response queue: each outstanding MB0 command reserves one (R112). -/
def State.mb0Free (s : State) : Nat := 32 - s.mb.queue.length - s.outCount .mb0 0

/-- Unreserved entries of the Steward's Keeper queue that are taken: notices and forwarded frames (R128). -/
def State.stwUnreserved (s : State) : Nat := (s.stw.queue.filter fun f => bit f.flags 1 || bit f.flags 4).length

/-- Whether custody session `n` is open. -/
def State.sessionOpen (n : Nat) (s : State) : Bool := (tget {} s.cus.sessions n).isOpen

/-- A packet as SVC sends it: channel byte, frame and CRC in COBS, then the delimiter (R120). -/
def svcPack (channel : Byte) (b : Bytes) : Bytes :=
  let p := channel :: b
  cobsEncode (p.length + 1) p ++ [0]

/-- An answer that finds its port closed is discarded and logged (R121, R139). -/
def State.discardAnswer (p : Port) (session : Nat) (f : Frame) (s : State) : State :=
  s.event p.slot (portSource p session) 0x0509 f.opcode f.status

/-- A response frame placed on its answer path (R102, Table 3.1). -/
def State.answer (p : Port) (session : Nat) (f : Frame) (s : State) : State :=
  match p with
  | .mb0 => s.modMb fun m => { m with queue := m.queue ++ [f] }
  | .svc =>
    if s.svc.present then s.modSvc fun v => { v with sent := svcPack 0 (withCrc f.bytes) } else s.discardAnswer p session f
  | .stw => s.modStw fun q => { q with queue := q.queue ++ [f] }
  | .cus =>
    if s.sessionOpen session then
      s.modCus fun c => { c with out := c.out ++ [⟨session, 0x10, 0 :: f.bytes, (tget {} c.sessions session).address⟩] }
    else s.discardAnswer p session f
  | _ => s

/-- A notice placed on its answer path, or left waiting in the Keeper while no unreserved entry is free (R103, R112, R128). -/
def State.notice (p : Port) (session : Nat) (f : Frame) (s : State) : State :=
  match p with
  | .mb0 =>
    if s.mb.notices.isEmpty ∧ 0 < s.mb0Free then s.answer p session f
    else s.modMb fun m => { m with notices := m.notices ++ [f] }
  | .stw =>
    if s.stw.waiting.isEmpty ∧ s.stwUnreserved < 32 then s.answer p session f
    else s.modStw fun q => { q with waiting := q.waiting ++ [f] }
  | _ => s.answer p session f

/-- Whether an outstanding entry is the one of port, session and TAG. -/
def Outstanding.isFor (p : Port) (session tag : Nat) (o : Outstanding) : Bool :=
  o.port = p ∧ o.session = session ∧ o.tag = tag

/-- The outstanding command of a port, session and TAG. -/
def State.findOut (p : Port) (session tag : Nat) (s : State) : Option Outstanding :=
  s.paths.outstanding.find? (Outstanding.isFor p session tag)

/-- The command is outstanding no longer (R101). -/
def State.dropOut (o : Outstanding) (s : State) : State :=
  s.modPaths fun p => { p with outstanding := p.outstanding.filter fun x => !x.isFor o.port o.session o.tag }

/-- The detail that a response's payload carries, for the codes that have one (Table 3.11). -/
def detailOf (code : Nat) (payload : Bytes) : Nat := if code ∈ [cState, cExpired, cMalformed, cNoBudget] then u16 payload 0 else 0

/-- An order that a port carried is logged when it is done, with its code and its acceptance Baton (R84, R177, R701, Table 2.8);
a query is no order (R83), and no port carries the Keeper's own (R80). -/
def State.logDone (late : Bool) (o : Outstanding) (code : Nat) (payload : Bytes) (s : State) : State :=
  if o.port = .kpr ∨ isQuery o.opcode then s
  else s.putRec { cycle := s.now, slot := o.port.slot, source := portSource o.port o.session, code := 0x0502, late := late,
                  superseded := decide (code = cSuperseded), arg0 := o.opcode, arg1 := code + 65536 * detailOf code payload,
                  arg2 := baton o.edge o.port.slot }

/-- A response placed on its command's answer path, and the command outstanding no longer (R101, R102). -/
def State.place (o : Outstanding) (code : Nat) (payload : Bytes) (s : State) : State :=
  if o.port = .kpr then s.dropOut o
  else (s.dropOut o).answer o.port o.session { opcode := o.opcode, flags := 1, status := code, tag := o.tag, payload := payload }

/-- The response of a command: logged and placed, once. -/
def State.respond (o : Outstanding) (code : Nat) (payload : Bytes) (s : State) : State :=
  (s.logDone false o code payload).place o code payload

/-- OK with the owner's payload. -/
def State.done (o : Outstanding) (payload : Bytes) (s : State) : State := s.respond o cOk payload

/-- REFUSED_STATE with the owner's detail (Table 3.11). -/
def State.refuse (o : Outstanding) (detail : Nat) (s : State) : State := s.respond o cState (le 2 detail ++ zeros 2)

/-- MALFORMED at a byte offset (Table 3.11). -/
def State.malformed (o : Outstanding) (off : Nat) (s : State) : State := s.respond o cMalformed (le 2 off ++ zeros 2)

/-- EXPIRED with no effect (R143, R144). -/
def State.expire (o : Outstanding) (s : State) : State := s.respond o cExpired (zeros 4)

/-- REFUSED_STATE of a command that came on the edge of the expiry it lost to (R76). -/
def State.refuseLate (o : Outstanding) (detail : Nat) (s : State) : State :=
  let payload := le 2 detail ++ zeros 2
  (s.logDone true o cState payload).place o cState payload

/-- EXPIRED of a command whose owner's turn comes on the terminal edge or later: the late completion is logged (R146). -/
def State.expireLate (o : Outstanding) (s : State) : State := (s.logDone true o cExpired (zeros 4)).place o cExpired (zeros 4)

/-- BUSY_DRAIN with the drain's ticket (R682). -/
def State.busyDrain (o : Outstanding) (ticket : Nat) (s : State) : State := s.respond o cBusyDrain (le 4 ticket)

/-- A fresh ticket for a command (R103). -/
def State.newTicket (o : Outstanding) (s : State) : Nat × State :=
  let n := s.paths.nextTicket
  let t : Ticket := { port := o.port, session := o.session, opcode := o.opcode, tag := o.tag }
  (n, s.modPaths fun p => { p with nextTicket := n + 1, tickets := tins p.tickets n t })

/-- A command that completes DEFERRED or PENDING with a fresh ticket (R103). -/
def State.ticketed (o : Outstanding) (code : Nat) (payload : Bytes) (s : State) : Nat × State :=
  let (n, s) := s.newTicket o
  (n, s.respond o code (le 4 n ++ payload))

/-- The notice that carries a ticket's final code and result, sent once (R103). -/
def State.settleTicket (n code : Nat) (result : Bytes) (s : State) : State :=
  match tfind s.paths.tickets n with
  | none => s
  | some t =>
    if t.sent then s
    else
      let s := s.modPaths fun p => { p with tickets := tins p.tickets n { t with sent := true, final := code } }
      s.notice t.port t.session { opcode := t.opcode, flags := 3, status := code, tag := t.tag, payload := le 4 n ++ result }

/-! ## The rank table -/

/-- The body of a section of a Formula. -/
def Formula.section? (f : Formula) (type inst : Nat) : Option Bytes :=
  (f.sections.find? fun x => x.type = type ∧ x.inst = inst).map Section.body

/-- The body of a section of the applied Formula; empty when there is none. -/
def State.sect (type inst : Nat) (s : State) : Bytes :=
  match s.frm.applied with
  | none => []
  | some f => (f.section? type inst).getD []

/-- Whether the applied Formula has a section. -/
def State.hasSect (type inst : Nat) (s : State) : Bool :=
  match s.frm.applied with
  | none => false
  | some f => (f.section? type inst).isSome

/-- The six commands the rank table never narrows (R95). -/
def neverNarrowed (op : Nat) : Bool := op ∈ [0x0001, 0x0002, 0x0003, 0x000A, 0x0008, 0x0009]

/-- The mask left by the entries of a RANKS section that bear on an opcode (R162). -/
def ranksMask (op : Nat) : Nat → Bytes → Nat → Nat
  | 0, _, m => m
  | n + 1, b, m =>
    let isClass := bit (byteAt b 3) 0
    let hit := if isClass then u16 b 0 / 4096 = op / 4096 else u16 b 0 = op
    ranksMask op n (b.drop 4) (if hit then m &&& byteAt b 2 else m)

/-- The effective rank mask of an opcode: its ceiling, narrowed by the rank table (R94, R95, R162). -/
def State.effectiveRanks (op : Nat) (s : State) : Nat :=
  match cmdInfo op with
  | none => 0
  | some i =>
    if neverNarrowed op then i.ranks
    else
      let b := s.sect 0x09 0
      ranksMask op (b.length / 4) b i.ranks

/-- Whether a port's rank may issue an opcode (R94). -/
def State.rankAllows (p : Port) (op : Nat) (s : State) : Bool :=
  p = .kpr ∨ s.effectiveRanks op &&& p.rankBit ≠ 0

/-- The cycles of an opcode's timeout class (Table 3.12); TX takes the Formula's EXT_TO, default 10 ms. -/
def State.timeoutCycles (time : Nat) (s : State) : Nat :=
  match time with
  | 1 => 600000
  | 2 => 6000000
  | 3 => 60000000
  | 4 => 1200000000
  | _ => (if s.hasSect 0x01 0 then u16 (s.sect 0x01 0) 8 else 10) * 600000

/-! ## Receipt -/

/-- An answer to a frame that was never outstanding (R101). -/
def State.answerAtOnce (p : Port) (session : Nat) (f : Frame) (flags code : Nat) (payload : Bytes) (s : State) : State :=
  s.answer p session { opcode := f.opcode, flags := flags, status := code, tag := f.tag, payload := payload }

/-- The acceptance edge of a frame: a port other than KPR accepts one frame an edge (R81). -/
def State.acceptEdge (p : Port) (s : State) : State :=
  if p = .kpr then s
  else
    let s := match tfind s.paths.lastAccept p.index with
      | some e => s.advanceTo (e + 1)
      | none => s
    s.modPaths fun q => { q with lastAccept := tins q.lastAccept p.index s.now }

/-- The offset of the first fault of step 4 of Table 3.4, if any: FLAGS, STATUS, LENGTH and the BULK bit (R104). -/
def headFault (p : Port) (f : Frame) : Option Nat :=
  if f.flags &&& 0xEB ≠ 0 then some 2
  else if bit f.flags 4 ∧ ¬(p = .stw ∧ isExt f.opcode) then some 2
  else if f.status ≠ 0 then some 3
  else if 4096 < f.payload.length then some 4
  else match cmdInfo f.opcode with
    | none => none
    | some i => if bit f.flags 2 = decide (i.bulk ≠ 0) then none else some 2

/-- Commands that pass step 8 while SVC is not authenticated (R122). -/
def openToService (op : Nat) : Bool := neverNarrowed op

/-- Whether a transfer is open on a port in a direction (R104). -/
def State.transferOpen (p : Port) (session : Nat) (inbound : Bool) (s : State) : Bool :=
  s.paths.bulks.any fun b => b.port = p ∧ b.session = session ∧ b.inbound = inbound

/-- The bulk idle time (R108). -/
def bulkIdle : Nat := 60000000

/-- The opening of an import transfer: an EMPTY Nose enters STAGING and takes the bytes; any other discards them (R646). -/
def State.importOpens (o : Outstanding) (s : State) : State :=
  if o.opcode = 0x9000 then
    if s.nose.state = .empty then
      s.modNose fun n => { n with state := .staging, stagedOpen := true, importing := some (o.port, o.session, o.tag) }
    else s
  else s

/-- The port that accepts an order: for an inbound bulk-carrying command of MB0 it is MB1, which carries its data (R93). -/
def Outstanding.orderPort (o : Outstanding) : Port :=
  if o.port = .mb0 ∧ (cmdInfo o.opcode).map CmdInfo.bulk = some 1 then .mb1 else o.port

/-- The acceptance of an order that a port carried is logged (Table 2.8). -/
def State.logAccepted (o : Outstanding) (s : State) : State :=
  if o.port = .kpr ∨ isQuery o.opcode then s
  else s.logAt o.edge o.port.slot (portSource o.orderPort o.session) 0x0501 o.opcode 0 (baton o.edge o.port.slot)

/-- A command stands outstanding (R101). -/
def State.stand (o : Outstanding) (s : State) : State := s.modPaths fun q => { q with outstanding := q.outstanding ++ [o] }

/-- An accepted command stands outstanding, and an order that a port carried is logged. -/
def State.enrol (o : Outstanding) (s : State) : State := (s.stand o).logAccepted o

/-- Steps 3 to 9 of Table 3.4 on a frame (R100), and the command made outstanding when all pass. An inbound bulk command
opens its transfer and waits for its data, with whose end it is accepted as an order (R93); on STW the data lies in Steward TCM (R129). -/
def State.accept (p : Port) (session : Nat) (f : Frame) (s : State) : State × Option Outstanding :=
  let s := s.acceptEdge p
  let o : Outstanding := { port := p, session := session, opcode := f.opcode, tag := f.tag, payload := f.payload, bulk := [],
                           edge := s.now, deadline := s.now, progress := .accepted }
  if p = .kpr then
    let o := { o with deadline := s.now + 1200000000 }
    ((s.enrol o).importOpens o, some o)
  else if p.limit ≤ s.outCount p session then (s.answerAtOnce p session f 1 cState (zeros 4), none)
  else match headFault p f with
  | some off => (s.answerAtOnce p session f 1 cMalformed (le 2 off ++ zeros 2), none)
  | none =>
  match cmdInfo f.opcode with
  | none => (s.answerAtOnce p session f 1 cUnknown [], none)
  | some i =>
  if (s.findOut p session f.tag).isSome then (s.answerAtOnce p session f 9 cMalformed (le 2 6 ++ zeros 2), none)
  else if !s.rankAllows p f.opcode then (s.answerAtOnce p session f 1 cRank [], none)
  else if p = .svc ∧ !s.svc.auth ∧ !openToService f.opcode then (s.answerAtOnce p session f 1 cState (zeros 4), none)
  else
    let o := { o with deadline := s.now + s.timeoutCycles i.time }
    if i.bulk = 0 then (s.enrol o, some o)
    else
      let total := u32 f.payload 0
      let off := u32 f.payload 4
      if f.payload.length < 8 then (s.answerAtOnce p session f 1 cMalformed (le 2 0 ++ zeros 2), none)
      else if p ≠ .stw ∧ off ≠ 0 then (s.answerAtOnce p session f 1 cMalformed (le 2 4 ++ zeros 2), none)
      else if p = .stw ∧ 0x20000 < off + total then (s.answerAtOnce p session f 1 cMalformed (le 2 4 ++ zeros 2), none)
      else if s.transferOpen p session (i.bulk = 1) then (s.answerAtOnce p session f 1 cState (zeros 4), none)
      else if i.bulk = 2 then (s.enrol o, some o)
      else if p = .stw then
        let o := { o with bulk := mread 0 s.cores.tcmSteward off total }
        ((s.enrol o).importOpens o, some o)
      else
        let o := { o with progress := .awaitsBulk }
        let b : Bulk := { port := p, session := session, inbound := true, tag := f.tag, opcode := f.opcode, total := total,
                          data := [], seq := 0, deadline := s.now + bulkIdle }
        (((s.stand o).modPaths fun q => { q with bulks := q.bulks ++ [b] }).importOpens o, some o)

/-- The transfer of a command is closed (R106, R108). -/
def State.closeBulk (p : Port) (session : Nat) (inbound : Bool) (s : State) : State :=
  s.modPaths fun q => { q with bulks := q.bulks.filter fun b => !(b.port = p ∧ b.session = session ∧ b.inbound = inbound) }

/-- An outstanding command rewritten in place. -/
def State.setOut (o : Outstanding) (s : State) : State :=
  s.modPaths fun p => { p with outstanding := p.outstanding.map fun x => if x.isFor o.port o.session o.tag then o else x }

/-- The port takes frames: the mailbox and the service port once they are open, an open custody session, a Steward core that runs,
Keeper firmware that runs (R117, R121, R130, R139); MB1 carries no commands, and PANEL pins give orders of their own rows. -/
def State.portOpen (p : Port) (session : Nat) (s : State) : Bool :=
  match p with
  | .mb0 => s.mb.isOpen
  | .svc => s.svc.present && s.svc.isOpen
  | .cus => s.sessionOpen session
  | .stw => s.cores.steward = .running
  | .kpr => s.boot.kfVersion.isSome
  | .mb1 | .pnl => false

/-- In Keeper-ROM-only operation SVC answers three commands and refuses every other (R198). -/
def State.romRefuses (p : Port) (op : Nat) (s : State) : Bool := p = .svc && s.fus.romOnly && !(op ∈ [0x0001, 0x0002, 0x0003])

/-- A command row finds its command: the outstanding one that waits for its owner, or else the row's own frame, received
now. The second component is none when a receipt check refused it or its bulk data has not ended. -/
def State.take (op : Nat) (r : Req) (s : State) : State × Option Outstanding :=
  match s.findOut r.port r.session r.tag with
  | some o =>
    if o.opcode = op ∧ o.progress = .accepted then
      let o := { o with progress := .begun }
      (s.setOut o, some o)
    else if o.opcode = op ∧ o.progress = .awaitsBulk then (s, none)
    else s.accept r.port r.session { opcode := op, flags := 0, status := 0, tag := r.tag, payload := r.payload }
  | none =>
    let bulk := ((cmdInfo op).map CmdInfo.bulk).getD 0
    let flags := if bulk = 0 then 0 else 4
    let f : Frame := { opcode := op, flags := flags, status := 0, tag := r.tag, payload := r.payload }
    if !s.portOpen r.port r.session then (s, none)
    else if s.romRefuses r.port op then (s.answerAtOnce r.port r.session f 1 cState (le 2 0x00F1 ++ zeros 2), none)
    else match s.accept r.port r.session f with
    | (s, none) => (s, none)
    | (s, some o) =>
      if o.progress = .awaitsBulk ∨ (o.port = .kpr ∧ bulk = 1) then
        let s := s.closeBulk r.port r.session true
        let o := { o with bulk := r.bulk, progress := .begun }
        let s := (s.setOut o).logAccepted o
        if r.bulk.length = u32 r.payload 0 then (s, some o) else (s.malformed o 0, none)
      else
        let o := { o with progress := .begun }
        (s.setOut o, some o)

/-! ## Device-wide refusals and the photo finish -/

/-- A restart has been ordered: platforms stay held and no heat is dispatched (R179, R460). -/
def State.restarting (s : State) : Bool := s.frm.activating || s.wdn.install.isSome

/-- An order of this opcode has taken effect on this edge (R79). -/
def State.tookEffect (opcode : Nat) (s : State) : Bool := s.paths.edgeOrders.any fun e => e.edge = s.now ∧ e.opcode = opcode

/-- The refusals that hold for whole classes of commands: no-Formula operation (R151), an activation (R179), an install (R460), a move
to VAULT (R671). The orders of the edge on which an activation or a move to VAULT is ordered are settled by the photo finish (R79, R180). -/
def State.deviceRefusal (op : Nat) (s : State) : Option Nat :=
  if s.frm.noFormula ∧ op / 4096 ∈ [2, 3, 4, 9, 0xB] then some 0x00F0
  else if s.frm.activating ∧ !isQuery op ∧ !s.tookEffect 0xC002 then some 0x0005
  else if s.wdn.install.isSome ∧ !isQuery op then some 0x0009
  else if s.pwr.vaultDue.isSome ∧ !isQuery op ∧ !s.tookEffect 0x1001 then some 0x0011
  else none

/-- A command row: its frame is received if it has not been, its timer and the device-wide refusals are checked, and its
owner runs (R100, R143, R146). -/
def State.command (op : Nat) (r : Req) (owner : Outstanding → State → State) (s : State) : State :=
  match s.take op r with
  | (s, none) => s
  | (s, some o) =>
    if o.deadline ≤ s.now then s.expireLate o
    else match s.deviceRefusal op with
      | some d => s.refuse o d
      | none => owner o s

/-- The first order of this edge that shares an object (R79). -/
def State.winner (objects : List (Nat × Nat)) (s : State) : Option EdgeOrder :=
  s.paths.edgeOrders.find? fun e => e.edge = s.now ∧ e.objects.any fun x => objects.contains x

/-- An order takes effect: it is kept while its edge lasts (R79). -/
def State.takesEffect (p : Port) (opcode : Nat) (objects : List (Nat × Nat)) (s : State) : State :=
  s.modPaths fun q =>
    { q with edgeOrders := (q.edgeOrders.filter fun e => e.edge = s.now) ++
        [{ edge := s.now, port := p, opcode := opcode, objects := objects }] }

/-- An order on objects: SUPERSEDED, with its record, when an order of the same edge that executed acts on one of them
(R79, R84, R97); else its owner runs. -/
def State.order (o : Outstanding) (objects : List (Nat × Nat)) (body : State → State) (s : State) : State :=
  match s.winner objects with
  | some w => s.respond o cSuperseded (le 1 w.port.index ++ zeros 1 ++ le 2 w.opcode)
  | none => body s

/-- Objects of the photo finish (section 7): kinds by number. -/
def objComp (n : Nat) : Nat × Nat := (0, n)
def objGroup (n : Nat) : Nat × Nat := (1, n)
def objReset (p : Nat) : Nat × Nat := (2, p)
def objWarden (p : Nat) : Nat × Nat := (3, p)
def objDomain (n : Nat) : Nat × Nat := (4, n)
def objBucket (die n : Nat) : Nat × Nat := (5, 1024 * die + n)
def objTable (n : Nat) : Nat × Nat := (6, n)
def objSlot (n : Nat) : Nat × Nat := (7, n)
def objLockdown : Nat × Nat := (8, 0)
/-- The lift of the Red flag; an entry acts on `objLockdown`. -/
def objLift : Nat × Nat := (8, 1)
def objStage : Nat × Nat := (9, 0)
def objPower : Nat × Nat := (10, 0)
def objNose : Nat × Nat := (11, 0)

/-- What an order that Table 6.6 refuses while the Red flag is in force shares with an entry into it: the orders of KPR are not
refused (section 7 of chapter 2). -/
def Outstanding.lockObjs (o : Outstanding) : List (Nat × Nat) := if o.port = .kpr then [] else [objLockdown]

/-- A request payload of a fixed length whose listed ranges are zero: the first fault's offset, if any (Table 3.4, step 9). -/
def payloadFault (b : Bytes) (len : Nat) (zeroRanges : List (Nat × Nat)) : Option Nat :=
  if b.length ≠ len then some (min b.length len)
  else zeroRanges.findSome? fun z => firstNonZero b z.1 z.2

/-- The owner runs on a payload of the right form; else MALFORMED at the fault (Table 3.4, step 9). -/
def State.wellFormed (o : Outstanding) (len : Nat) (zeroRanges : List (Nat × Nat)) (body : State → State) (s : State) : State :=
  match payloadFault o.payload len zeroRanges with
  | some off => s.malformed o off
  | none => body s

/-- The first fault of a request payload: its length, else the lowest offset of a field that holds no listed value or of a byte that
is not zero where it must be (Table 3.11). -/
def formFault (b : Bytes) (len : Nat) (fields : List (Bool × Nat)) (zeroRanges : List (Nat × Nat)) : Option Nat :=
  if b.length ≠ len then some (min b.length len)
  else ((fields.filterMap fun x => if x.1 then some x.2 else none) ++ zeroRanges.filterMap fun z => firstNonZero b z.1 z.2).min?

/-- The owner runs on a payload of the right form whose fields hold listed values; else MALFORMED at the first fault (Table 3.4, step 9). -/
def State.formedBy (o : Outstanding) (len : Nat) (fields : List (Bool × Nat)) (zeroRanges : List (Nat × Nat)) (body : State → State)
    (s : State) : State :=
  match formFault o.payload len fields zeroRanges with
  | some off => s.malformed o off
  | none => body s

/-- The checks of an owner, in order: the first that fails gives its REFUSED_STATE detail. -/
def firstDetail : List (Bool × Nat) → Option Nat
  | [] => none
  | (bad, d) :: rest => if bad then some d else firstDetail rest

/-- The owner runs when none of its checks fails. -/
def State.checks (o : Outstanding) (cs : List (Bool × Nat)) (body : State → State) (s : State) : State :=
  match firstDetail cs with
  | some d => s.refuse o d
  | none => body s

/-- The next outbound bulk frame of a transfer (R107, Table 3.5). -/
def Bulk.next (b : Bulk) : Bulk :=
  let part := b.data.take b.port.bulkMax
  let rest := b.data.drop b.port.bulkMax
  let frame := le 2 b.tag ++ le 2 b.seq ++ le 2 part.length ++ le 1 (2 + b2n rest.isEmpty) ++ zeros 1 ++ part
  { b with staged := some (if b.port = .cus then frame else withCrc frame), data := rest, seq := b.seq + 1 }

/-- An outbound transfer opened with its data; the OK response carries its bulk head (R107). On STW the data is written to the
Steward TCM range the request's head names (R129). -/
def State.bulkOut (o : Outstanding) (data ownerPayload : Bytes) (s : State) : State :=
  let head := le 4 data.length ++ (if o.port = .stw then slice o.payload 4 4 else zeros 4)
  if o.port = .stw then
    if 0x20000 < u32 o.payload 4 + data.length then s.malformed o 4
    else
      let s := s.modCores fun c => { c with tcmSteward := mwrite 0 c.tcmSteward (u32 o.payload 4) data }
      s.done o (head ++ ownerPayload)
  else
    let b : Bulk := { port := o.port, session := o.session, inbound := false, tag := o.tag, opcode := o.opcode,
                      total := data.length, data := data, seq := 0, deadline := s.now + bulkIdle }
    (s.modPaths fun q => { q with bulks := q.bulks ++ [b.next] }).done o (head ++ ownerPayload)

end Sys2Proof.Machine
end

