-- ==== Sys2Proof/Machine/Modes.lean ====
section
/-! DEFINITION. The modes of AES and of the hashes that the manual names by standard (Table 8.3, R308), composed of the uninterpreted
block cipher and hash functions of Config: SP 800-38A to 38E, FIPS 198-1, RFC 5869, SP 800-90A (log entry 21). -/

namespace Sys2Proof.Machine

/-- Exactly `n` bytes: cut, or filled with zeros. -/
def sized (n : Nat) (bs : Bytes) : Bytes := (bs ++ zeros n).take n

/-- `n` bytes given by index. -/
def fit (n : Nat) (f : Nat → Byte) : Bytes := (List.range n).map f

/-- The exclusive or of two byte strings. -/
def xorBytes (a b : Bytes) : Bytes := List.zipWith (· ^^^ ·) a b

/-! ## Hashes, HMAC and HKDF -/

/-- A hash by its ALG code of Table 8.3, and the lengths of its output and of its input block. -/
def hashLen (alg : Nat) : Nat :=
  if alg = 0x10 ∨ alg = 0x13 ∨ alg = 0x18 then 32 else if alg = 0x11 ∨ alg = 0x14 ∨ alg = 0x19 then 48 else 64
def hashBlock (alg : Nat) : Nat := if alg = 0x10 then 64 else 128
def hashOf (alg : Nat) (bs : Bytes) : Bytes := sized (hashLen alg) (Config.hash alg bs)

/-- SHA-384. -/
def sha (bs : Bytes) : Bytes := hashOf 0x11 bs

/-- HMAC over a hash (FIPS 198-1): a key longer than the block is hashed first. -/
def hmacOf (alg : Nat) (key bs : Bytes) : Bytes :=
  let k := sized (hashBlock alg) (if hashBlock alg < key.length then hashOf alg key else key)
  hashOf alg (k.map (· ^^^ 0x5C) ++ hashOf alg (k.map (· ^^^ 0x36) ++ bs))

/-- HMAC-SHA-384. -/
def hmac (key bs : Bytes) : Bytes := hmacOf 0x11 key bs

/-- The blocks of HKDF-Expand from the `i`th on, of which `k` are left (RFC 5869). -/
def expandBlocks (prk info : Bytes) : Nat → Nat → Bytes → Bytes
  | 0, _, _ => []
  | k + 1, i, last =>
    let t := hmac prk (last ++ info ++ le 1 i)
    t ++ expandBlocks prk info k (i + 1) t

/-- HKDF of RFC 5869 over SHA-384: extract, then `n` bytes of expand. -/
def hkdf (salt ikm info : Bytes) (n : Nat) : Bytes :=
  (expandBlocks (hmac (if salt.isEmpty then zeros 48 else salt) ikm) info (ceilDiv n 48) 1 []).take n

/-! ## AES -/

/-- One AES block encryption, and one decryption. -/
def aes (key block : Bytes) : Bytes := sized 16 (Config.aesBlock key block)
def aesInv (key block : Bytes) : Bytes := sized 16 (Config.aesInverse key block)

/-- The blocks of 16 bytes of a string, the last one short where its length is no multiple. -/
def blocksOf (bs : Bytes) : List Bytes := (List.range (ceilDiv bs.length 16)).map fun i => slice bs (16 * i) 16

/-- The encryptions of the `k` counter values after `v`, of 128 bits. -/
def counterBlocks (key : Bytes) : Nat → Nat → Bytes
  | 0, _ => []
  | k + 1, v =>
    let next := (v + 1) % 2 ^ 128
    aes key (be 16 next) ++ counterBlocks key k next

/-- CTR: the first block encrypted is the initial counter block, counted up modulo 2^128. -/
def ctr (key iv text : Bytes) : Bytes := xorBytes text (counterBlocks key (ceilDiv text.length 16) (beVal iv + 2 ^ 128 - 1))

/-- CBC encryption and decryption of whole blocks. -/
def cbcSeal (key : Bytes) : Bytes → List Bytes → Bytes
  | _, [] => []
  | iv, b :: bs =>
    let c := aes key (xorBytes b iv)
    c ++ cbcSeal key c bs
def cbcOpen (key : Bytes) : Bytes → List Bytes → Bytes
  | _, [] => []
  | iv, c :: cs => xorBytes (aesInv key c) iv ++ cbcOpen key c cs

/-- Doubling of a number of 128 bits in the field of CMAC and XTS. -/
def double128 (v : Nat) : Nat := if v < 2 ^ 127 then 2 * v else (2 * v - 2 ^ 128) ^^^ 0x87

/-- The CBC chain of CMAC over whole blocks. -/
def cmacChain (key : Bytes) : Bytes → List Bytes → Bytes
  | x, [] => x
  | x, b :: bs => cmacChain key (aes key (xorBytes x b)) bs

/-- AES-CMAC (SP 800-38B). -/
def cmac (key text : Bytes) : Bytes :=
  let k1 := double128 (beVal (aes key (zeros 16)))
  let n := ceilDiv text.length 16 - 1
  let last := text.drop (16 * n)
  let final := if last.length = 16 then xorBytes last (be 16 k1) else xorBytes (sized 16 (last ++ [0x80])) (be 16 (double128 k1))
  cmacChain key (zeros 16) (blocksOf (text.take (16 * n)) ++ [final])

/-- One block of XTS under its tweak, `f` the cipher or its inverse under Key1. -/
def xtsBlock (f : Bytes → Bytes) (tweak : Nat) (b : Bytes) : Bytes := xorBytes (f (xorBytes b (le 16 tweak))) (le 16 tweak)

/-- The tweaks of whole blocks from one on. -/
def xtsBlocks (f : Bytes → Bytes) : Nat → List Bytes → Bytes
  | _, [] => []
  | tweak, b :: bs => xtsBlock f tweak b ++ xtsBlocks f (double128 tweak) bs

/-- The tweak of block `n`. -/
def tweakAt (tweak : Nat) : Nat → Nat
  | 0 => tweak
  | n + 1 => double128 (tweakAt tweak n)

/-- AES-XTS with ciphertext stealing (SP 800-38E): Key1 is the low half, Key2 the high one; at least 16 bytes. -/
def xts (decrypt : Bool) (key iv text : Bytes) : Bytes :=
  let half := key.length / 2
  let f := if decrypt then aesInv (key.take half) else aes (key.take half)
  let t0 := leVal (aes (key.drop half) iv)
  let tail := text.length % 16
  if tail = 0 then xtsBlocks f t0 (blocksOf text)
  else
    let whole := text.length / 16 - 1
    let t := tweakAt t0 whole
    let (first, second) := if decrypt then (double128 t, t) else (t, double128 t)
    let x := xtsBlock f first (slice text (16 * whole) 16)
    let rest := text.drop (16 * whole + 16)
    xtsBlocks f t0 (blocksOf (text.take (16 * whole))) ++ xtsBlock f second (rest ++ x.drop tail) ++ x.take tail

/-- The product in the field of GCM of `x`, whose bits from bit `n - 1` downward are left, and `v`, added to `z`. -/
def gfMul (x : Nat) : Nat → Nat → Nat → Nat
  | 0, _, z => z
  | n + 1, v, z =>
    gfMul x n (if v % 2 = 0 then v / 2 else v / 2 ^^^ 0xE1000000000000000000000000000000) (if x.testBit n then z ^^^ v else z)

/-- GHASH over blocks, each filled with zeros. -/
def ghash (h : Nat) (blocks : List Bytes) : Nat := blocks.foldl (fun y b => gfMul (y ^^^ beVal (sized 16 b)) 128 h 0) 0

/-- The key stream of AES-GCM with an IV of 12 bytes: its counter starts at 2. -/
def gcmStream (key iv : Bytes) (n : Nat) : Bytes := (counterBlocks key (ceilDiv n 16) (beVal iv * 2 ^ 32 + 1)).take n

/-- The tag of AES-GCM over associated data and ciphertext. -/
def gcmTag (key iv aad ct : Bytes) : Bytes :=
  let h := beVal (aes key (zeros 16))
  xorBytes (be 16 (ghash h (blocksOf aad ++ blocksOf ct ++ [be 8 (8 * aad.length) ++ be 8 (8 * ct.length)])))
    (aes key (be 16 (beVal iv * 2 ^ 32 + 1)))

/-- AES-256-GCM encryption: ciphertext and tag. -/
def gcmSeal (key iv aad text : Bytes) : Bytes × Bytes :=
  let ct := xorBytes text (gcmStream key iv text.length)
  (ct, gcmTag key iv aad ct)

/-- AES-256-GCM decryption; none where the tag does not verify. -/
def gcmOpen (key iv aad ct tag : Bytes) : Option Bytes :=
  if tag = gcmTag key iv aad ct then some (xorBytes ct (gcmStream key iv ct.length)) else none

end Sys2Proof.Machine
end

