-- ==== Sys2Proof/Machine/Prims.lean ====
section
/-! DEFINITION. The cryptographic functions as the manual composes them (R87, R136, R207, R266, R269): lengths and message
layouts are the manual's, the public-key primitives are the uninterpreted ones of Config. -/

namespace Sys2Proof.Machine

/-- ASCII text as bytes. -/
def ascii (t : String) : Bytes := t.toList.map fun c => BitVec.ofNat 8 c.toNat

/-- One block of the SP 800-108 counter mode (R266). -/
def kdfBlock (k label ctx : Bytes) (bitLen i : Nat) : Bytes := hmac k (be 4 i ++ label ++ [0] ++ ctx ++ be 4 bitLen)

/-- `n` bytes of ACC(K, LABEL, CTX, 8 n) (R266). -/
def acc (k label ctx : Bytes) (n : Nat) : Bytes :=
  ((List.range (ceilDiv n 48)).flatMap fun i => kdfBlock k label ctx (8 * n) (i + 1)).take n

/-- The order of P-384 and of P-256 (FIPS 186-5). -/
def orderP384 : Nat :=
  0xFFFFFFFFFFFFFFFFFFFFFFFFFFFFFFFFFFFFFFFFFFFFFFFFC7634D81F4372DDF581A0DB248B0A77AECEC196ACCC52973
def orderP256 : Nat := 0xFFFFFFFF00000000FFFFFFFFFFFFFFFFBCE6FAADA7179E84F3B9CAC2FC632551

/-- A scalar from bytes by the extra-bits method of R269, big-endian. -/
def scalarOf (order n : Nat) (bs : Bytes) : Bytes := be n (beVal bs % (order - 1) + 1)

/-- The schemes of signatures: the ALG codes of Table 8.3. -/
def sEcdsa256 : Nat := 0x20
def sEcdsa384 : Nat := 0x21
def sMlDsa : Nat := 0x28
def sLms : Nat := 0x29

/-- A signature of `n` bytes with a private key over a message; `k` is the per-signature random string (R308). -/
def sign (scheme n : Nat) (key msg k : Bytes) : Bytes := fit n (Config.sigByte scheme key (msg ++ k))

/-- Whether a signature verifies: one that does exists for every key and message. -/
def verify (scheme : Nat) (pk msg sig : Bytes) : Bool :=
  decide (sig = fit sig.length (Config.sigFor scheme pk msg)) || Config.sigAlso scheme pk msg sig

/-- A public key of `n` bytes for a private key. -/
def publicOf (scheme n : Nat) (key : Bytes) : Bytes := fit n (Config.pubByte scheme key)

/-- An ECDH P-384 shared x-coordinate. -/
def ecdh (key point : Bytes) : Bytes := fit 48 (Config.ecdhByte key point)

/-- An ML-KEM-768 shared secret (implicit rejection: always 32 bytes). -/
def kem (seed ct : Bytes) : Bytes := fit 32 (Config.kemSecret seed ct)

/-- The prime and the constant b of the curve y² = x³ − 3 x + b over it: P-256 and P-384 (SP 800-186). -/
def primeP256 : Nat := 2 ^ 256 - 2 ^ 224 + 2 ^ 192 + 2 ^ 96 - 1
def primeP384 : Nat := 2 ^ 384 - 2 ^ 128 - 2 ^ 96 + 2 ^ 32 - 1
def curveB256 : Nat := 0x5AC635D8AA3A93E7B3EBBD55769886BC651D06B0CC53B0F63BCE3C3E27D2604B
def curveB384 : Nat :=
  0xB3312FA7E23EE7E4988E056BE3F82D19181D9C6EFE8141120314088F5013875AC656398D8A2ED19D2A85C8EDD3EC2AEF

/-- x and y, below the prime, satisfy the curve's equation. -/
def satisfies (p b x y : Nat) : Bool := x < p ∧ y < p ∧ y * y % p = (x * x * x + (p - 3) * x + b) % p

/-- The bytes are an uncompressed point of P-256 (65 bytes) or P-384 (97 bytes). -/
def onCurve (bs : Bytes) : Bool :=
  byteAt bs 0 = 4 ∧
    (bs.length = 65 ∧ satisfies primeP256 curveB256 (beVal (slice bs 1 32)) (beVal (slice bs 33 32))
      ∨ bs.length = 97 ∧ satisfies primeP384 curveB384 (beVal (slice bs 1 48)) (beVal (slice bs 49 48)))

end Sys2Proof.Machine
end

