-- ==== Sys2Proof/Machine/Views.lean ====
section
/-! DEFINITION. What one family reads of another's state: fuses and lifecycle, keys, the entropy source, power domains,
links and platforms. -/

namespace Sys2Proof.Machine

/-! ## Fuses (chapter 5) -/

/-- A word of an array. -/
def fuseWord (a : Sparse Word) (addr : Nat) : Nat := (tget 0 a addr).toNat

/-- The bytes of `n` words from `addr`, little-endian. -/
def fuseBytes (a : Sparse Word) (addr n : Nat) : Bytes := (List.range n).flatMap fun i => le 4 (fuseWord a (addr + i))

/-- A thermometer of four words as one 128-bit field (R199). -/
def thermoBits (a : Sparse Word) (addr : Nat) : Nat := leVal (fuseBytes a addr 4)

/-- Step `n` of a thermometer is taken (R199). -/
def stepTaken (t n : Nat) : Bool := t / 4 ^ n % 4 ≠ 0

/-- Step `n` is torn. -/
def stepTorn (t n : Nat) : Bool := t / 4 ^ n % 4 = 1 ∨ t / 4 ^ n % 4 = 2

/-- The value of a thermometer: its number of taken steps. -/
def thermoValue (t : Nat) : Nat := ((List.range 64).filter (stepTaken t)).length

/-- A thermometer with a hole has failed (R199). -/
def thermoHole (t : Nat) : Bool := !((List.range (thermoValue t)).all (stepTaken t))

/-- The lifecycle code the four markers give, in the order of R194; none where the region has failed. -/
def lifecycleOf (a : Sparse Word) : Option Nat :=
  if fuseWord a 0x23 ≠ 0 then some 5
  else if fuseWord a 0x20 = 0 ∧ (fuseWord a 0x21 ≠ 0 ∨ fuseWord a 0x22 ≠ 0) then none
  else if fuseWord a 0x22 ≠ 0 then some 4
  else if fuseWord a 0x21 ≠ 0 then some 3
  else if fuseWord a 0x20 ≠ 0 then some 2
  else some 1

/-- The lifecycle latched at start (KPR.FUS_STAT.LC_EFFECTIVE). -/
def State.lifecycle (s : State) : Nat := (lifecycleOf s.fus.latchE).getD 0

/-- DEVID (Table 5.2). -/
def State.devid (s : State) : Bytes := fuseBytes s.fus.latchA 0 4

/-- Banks on the package: ASSEMBLY.BANKS_PKG. -/
def State.banksPkg (s : State) : Nat := fuseWord s.fus.latchA 4 % 16

/-- First word of key unit `k`. -/
def keyUnitAddr (k : Nat) : Nat := 0x40 + 17 * k

/-- Key unit `k` is usable: finalised at start, KEYHASH passed, its revocation marker not set now (R190, R215). -/
def State.keyUsable (k : Nat) (s : State) : Bool :=
  decide (fuseWord s.fus.latchA (keyUnitAddr k + 16) ≠ 0) && !bit s.fus.region 4 && decide (fuseWord s.fus.antifuse (0xC8 + k) = 0)

/-- The digest that key unit `k` holds, latched at start. -/
def State.keyHash (k : Nat) (s : State) : Bytes := fuseBytes s.fus.latchA (keyUnitAddr k) 12

/-- Feature bit `i` is disabled (Table 5.3); every bit reads 1 after a FEATURES failure (R211). -/
def State.featureOff (i : Nat) (s : State) : Bool := bit s.fus.region 5 || bit (fuseWord s.fus.latchE 0x40) i

/-- The word address of counter `c` of R420's numbering: 0–63, 0x80 KF_SV, 0x81 CUS_EPOCH, 0x82 SVC_EPOCH. -/
def counterAt (c : Nat) : Bool × Nat :=
  if c = 0x80 then (false, 0x24) else if c = 0x81 then (false, 0x28) else if c = 0x82 then (false, 0x2C) else (true, 0x100 + 4 * c)

/-- A counter's value as latched at start (R202); 64 after a COUNTERS failure (R211). -/
def State.counterLatched (c : Nat) (s : State) : Nat :=
  let (anti, addr) := counterAt c
  if anti ∧ bit s.fus.region 6 then 64 else thermoValue (thermoBits (if anti then s.fus.latchA else s.fus.latchE) addr)

/-- A counter's value read from the array now (R202). -/
def State.counterLive (c : Nat) (s : State) : Nat :=
  let (anti, addr) := counterAt c
  if anti ∧ bit s.fus.region 6 then 64 else thermoValue (thermoBits (if anti then s.fus.antifuse else s.fus.efuse) addr)

/-! ## Keys (chapter 7) -/

/-- A Flacon slot. -/
def State.slot (n : Nat) (s : State) : Slot := tget {} s.flc.slots n

/-- The slot holds a key. -/
def State.slotValid (n : Nat) (s : State) : Bool := bit (s.slot n).attr 0

/-- The key bytes of a slot: the low LEN + 1 words of its value (R272). -/
def Slot.key (k : Slot) : Bytes := (xorBytes k.shareA k.shareB).take (4 * (bits k.attr 24 21 + 1))

/-- The key bytes of slot `n`. -/
def State.slotKey (n : Nat) (s : State) : Bytes := (s.slot n).key

/-- A slot filled with key bytes under an attribute word, its shares freshly masked (R272, R296). -/
def State.fillSlot (n attr port : Nat) (key : Bytes) (s : State) : State :=
  let (m, s) := s.draw 64
  let v := sized 64 key
  let k : Slot := { shareA := m, shareB := xorBytes v m, attr := attr ||| 1, baton := baton s.now 2, port := port,
                    underFormula := s.frm.applied.isSome, underHeart := s.flc.closed }
  s.modFlc fun f => { f with slots := tset {} f.slots n k }

/-- A slot emptied: both shares and every attribute bit read zero (R292). -/
def State.emptySlot (n : Nat) (s : State) : State := s.modFlc fun f => { f with slots := tdel f.slots n }

/-- The attribute word of a system slot: SYSTEM, DEST, ORIGIN, BOOT_BOUND, KIND and bytes (Table 7.5). -/
def sysAttr (dest origin bound kind bytes : Nat) (ranks : Nat := 0) : Nat :=
  3 + dest * 4 + ranks * 1024 + origin * 16384 + bound * 131072 + kind * 262144 + (bytes / 4 - 1) * 2097152

/-- A system slot derived by the Accord from a slot: refused, the output left empty, where the parent is not VALID (R270). -/
def State.derive (parent n attr bytes : Nat) (label : String) (ctx : Bytes) (post : Bytes → Bytes) (s : State) : State :=
  if s.slotValid parent then s.fillSlot n attr 0 (post (acc (s.slotKey parent) (ascii label) ctx bytes)) else s.emptySlot n

/-- A P-384 scalar from its 56 bytes (R269). -/
def scalar384 (bs : Bytes) : Bytes := scalarOf orderP384 48 bs

/-! ## Entropy (chapter 8) -/

/-- The DRBG can deliver (R326). -/
def State.drbgReady (s : State) : Bool := s.cry.es = 1 ∧ s.cry.drbg = 1

/-! ## Power domains (chapter 19) -/

def dKcore : Nat := 0
def dSteward : Nat := 1
def dCrypto : Nat := 2
def dNose : Nat := 3
def dSensor : Nat := 4
def dRelayNet : Nat := 5
def dWarden (p : Nat) : Nat := 6 + p
def dLane (e : Nat) : Nat := 11 + e
def dBank (b : Nat) : Nat := 13 + b
def dFilong (l : Nat) : Nat := 17 + l

/-- A power domain. -/
def State.domain (n : Nat) (s : State) : Domain := tget {} s.pwr.domains n

/-- The domain is ON, or in DRAIN, where it still runs (R674, R681). -/
def State.domainOn (n : Nat) (s : State) : Bool := (s.domain n).condition = .on

/-- The domain is in DRAIN. -/
def State.draining (n : Nat) (s : State) : Bool := (s.domain n).condition = .drain

/-- Its rail and clock are up. -/
def State.powered (n : Nat) (s : State) : Bool := s.domainOn n || s.draining n

/-- The outcome of a command whose owner needs a job on CRYPTO: BUSY_DRAIN while it drains, 0x0010 while it is off, else the
owner goes on (R321). -/
def State.needsCrypto (o : Outstanding) (body : State → State) (s : State) : State :=
  if s.draining dCrypto then s.busyDrain o (((s.domain dCrypto).ticket).getD 0)
  else if !s.domainOn dCrypto then s.refuse o 0x0010
  else body s

/-! ## Links and platforms -/

def State.link (l : Nat) (s : State) : Link := tget {} s.links l

def State.setLink (l : Nat) (k : Link) (s : State) : State := { s with links := tset {} s.links l k }

def State.modLink (l : Nat) (f : Link → Link) (s : State) : State := s.setLink l (f (s.link l))

/-- Link `l` is in SESSION. -/
def State.inSession (l : Nat) (s : State) : Bool := (s.link l).state = .session

def State.plat (p : Nat) (s : State) : Plat := tget {} s.boot.plats p

def State.modPlat (p : Nat) (f : Plat → Plat) (s : State) : State :=
  s.modBoot fun b => { b with plats := tset {} b.plats p (f (tget {} b.plats p)) }

/-- The Keeper drives PRSTn of platform `p` low. -/
def State.heldLow (p : Nat) (s : State) : Bool := !(s.plat p).released

/-- The Steward core answers EXT commands: its image passed, its domain is on and it is not held (R130, R345, R678). -/
def State.stewardOn (s : State) : Bool := s.cores.steward = .running ∧ s.powered dSteward

/-- The Red flag is in force. -/
def State.redFlag (s : State) : Bool := s.vlt.redFlag

/-- The Red flag refuses an order of Table 6.6 from every port other than KPR; where it is entered on this edge the photo finish settles
them (R79, R249). -/
def State.redRefuses (o : Outstanding) (s : State) : Bool :=
  s.redFlag && decide (o.port ≠ .kpr) && (s.winner [objLockdown]).isNone

/-- The boot count. -/
def State.bootCount (s : State) : Nat := s.log.bootCount

/-- D of the applied Formula, zero before (R169, R287). -/
def State.formulaDigest (s : State) : Bytes := match s.frm.applied with | none => zeros 48 | some f => sized 48 f.digest

end Sys2Proof.Machine
end

