-- ==== Sys2Proof/Machine/Fuses.lean ====
section
/-! DEFINITION. The FUS commands, the programming of words, and the start-up check (chapter 5). -/

namespace Sys2Proof.Machine

/-! ## Answering a command later -/

/-- What identifies an outstanding command. -/
def Outstanding.ref (o : Outstanding) : CmdRef := { port := o.port, session := o.session, tag := o.tag }

/-- The command that an operation answers, if it is still outstanding. -/
def State.refOut (c : CmdRef) (s : State) : Option Outstanding := s.findOut c.port c.session c.tag

/-- The later response of a command. -/
def State.respondRef (c : CmdRef) (code : Nat) (payload : Bytes) (s : State) : State :=
  match s.refOut c with
  | none => s
  | some o => s.respond o code payload

/-- REFUSED_STATE, later. -/
def State.refuseRef (c : CmdRef) (detail : Nat) (s : State) : State := s.respondRef c cState (le 2 detail ++ zeros 2)

/-! ## The window and the stops -/

/-- A Keeper monitor reading: its value, where it is no older than 16 384 cycles (R203, R689). -/
def State.keeperReading (c : Nat) (s : State) : Option Nat :=
  let r := tget {} s.pwr.readings c
  if r.presented ∧ s.now ≤ r.edge + 16384 then some r.value else none

/-- The window check of R203, latched in KPR.FUS_WIN. -/
def State.fuseWindow (s : State) : Bool × State :=
  let vcore := match s.keeperReading 1 with | some v => decide (760 ≤ v ∧ v ≤ 840) | none => false
  let v18 := match s.keeperReading 3 with | some v => decide (1710 ≤ v ∧ v ≤ 1890) | none => false
  let v33 := match s.keeperReading 3 with | some v => decide (3135 ≤ v ∧ v ≤ 3465) | none => false
  let t := (s.keeperReading 0).map (signed 16)
  let tj := match t with | some v => decide (0 ≤ v ∧ v ≤ 340) | none => false
  let s := s.modFus fun f =>
    { f with vcoreOk := vcore, viogOk := v18 || v33, tjOk := tj, viog3v3 := v33,
             tj := match t with | some v => unsigned 8 (v / 4) | none => f.tj }
  (vcore && (v18 || v33) && tj, s)

/-- A Marshal event with a response other than LOG, a lockdown or DQ stops an operation at the next word boundary (Table 5.6). -/
def State.fuseTamper (s : State) : State :=
  s.modFus fun f => { f with op := f.op.map fun x => { x with tamper := true } }

/-- A PWR.SET_STATE stops an operation at the next word boundary (Table 5.6). -/
def State.fusePower (s : State) : State :=
  s.modFus fun f => { f with op := f.op.map fun x => { x with power := true } }

/-- Set bits of a 32-bit word. -/
def popcount (w : Word) : Nat := ((List.range 32).filter fun i => w.getLsbD i).length

/-- The array bits of a word are set. -/
def State.setFuse (w : FuseWord) (s : State) : State :=
  s.modFus fun f =>
    if w.anti then { f with antifuse := tset 0 f.antifuse w.addr (tget 0 f.antifuse w.addr ||| w.data) }
    else { f with efuse := tset 0 f.efuse w.addr (tget 0 f.efuse w.addr ||| w.data) }

/-- A word of either array. -/
def State.fuseArray (anti : Bool) (addr : Nat) (s : State) : Word :=
  tget 0 (if anti then s.fus.antifuse else s.fus.efuse) addr

/-- ARG0 of a FUSE record: the array in bit 15, the address in [9:0] (R210). -/
def fuseArg (anti : Bool) (addr : Nat) : Nat := b2n anti * 32768 + addr

/-- A FUSE record, in slot 2. -/
def State.fuseEvent (code a0 : Nat) (a1 : Nat := 0) (a2 : Nat := 0) (s : State) : State := s.event 2 0 code a0 a1 a2

/-! ## Running an operation -/

/-- The response of an operation whose words are all done (section 10). -/
def State.fuseFinish (op : FuseOp) (s : State) : State :=
  let s := s.modFus fun f => { f with op := none }
  if op.opcode = 0xD001 then s.respondRef op.cmd cOk (le 2 op.done ++ le 2 (min 65535 op.newBits))
  else if op.opcode = 0xD002 then s.respondRef op.cmd cOk op.digest
  else if op.opcode = 0xD003 then
    let s := if op.subject = 4 ∨ op.subject = 5 then s.modFus fun f => { f with restartFrom := some (s.now + 2 ^ 20) } else s
    (s.fuseEvent 0x0205 (fuseArg false (0x20 + (op.subject - 2))) 0 (s.lifecycle + 256 * op.subject)).respondRef op.cmd cOk
      (le 1 ((lifecycleOf s.fus.efuse).getD 0) ++ zeros 3)
  else
    let after := s.counterLive op.subject
    (s.fuseEvent 0x0206 op.subject 0 (op.before + 256 * after)).respondRef op.cmd cOk (le 1 op.before ++ le 1 after ++ zeros 2)

/-- An operation stopped at a word boundary (Table 5.6). -/
def State.fuseStop (op : FuseOp) (code detail : Nat) (s : State) : State :=
  let s := s.modFus fun f => { f with op := none }
  let (anti, addr) := match op.words with | w :: _ => (w.anti, w.addr) | [] => (false, 0)
  let s := s.fuseEvent 0x0202 (fuseArg anti addr) detail
  if code = cState then s.refuseRef op.cmd detail else s.respondRef op.cmd code []

/-- The next word's start edge: a stop cause in the row order of Table 5.6, or the word starts; with no word left the
operation ends. -/
def State.fuseNext (op : FuseOp) (s : State) : State :=
  match op.words with
  | [] => s.fuseFinish op
  | _ :: _ =>
    if op.tamper then s.fuseStop op cState 0x0006
    else
      let (ok, s) := s.fuseWindow
      if !ok then s.fuseStop op cFusWindow 0
      else if op.power then s.fuseStop op cState 0x0007
      else s.modFus fun f => { f with op := some op }

/-- A new operation: busy first, then its first word's start edge (R203, R217). -/
def State.fuseBegin (o : Outstanding) (op : FuseOp) (s : State) : State :=
  if s.fus.op.isSome then s.refuse o 0x0001 else s.fuseNext { op with opcode := o.opcode }

/-! ## FUS.READ -/

/-- KPR.FUS_STAT. -/
def State.fusStat (s : State) : Nat :=
  s.lifecycle + 8 * (lifecycleOf s.fus.efuse).getD 0 + 64 * b2n s.fus.op.isSome + 128 * b2n s.fus.romOnly
    + 256 * s.counterLatched 0x80 + 65536 * s.counterLive 0x81 + 2 ^ 24 * s.counterLive 0x82

/-- KPR.FUS_FAULT. -/
def State.fusFault (s : State) : Nat :=
  s.fus.region + 128 * b2n s.fus.sense + 256 * s.fus.keyUnit + 2 ^ 16 * b2n s.fus.lcTorn + 2 ^ 17 * b2n s.fus.thermoTorn
    + 2 ^ 18 * b2n s.fus.finTorn

/-- Whether a FINAL marker was set at start. -/
def State.finalised (anti : Bool) (addr : Nat) (s : State) : Bool :=
  fuseWord (if anti then s.fus.latchA else s.fus.latchE) addr ≠ 0

/-- KPR.FUS_FIN. -/
def State.fusFin (s : State) : Nat :=
  b2n (s.finalised false 0x1F) + 2 * b2n (s.finalised true 0x3F) + 4 * b2n (s.finalised false 0x3F) + 8 * b2n (s.finalised false 0x4F)
    + 16 * maskOf 8 (fun k => s.finalised true (keyUnitAddr k + 16)) + 4096 * maskOf 8 (fun k => fuseWord s.fus.antifuse (0xC8 + k) ≠ 0)

/-- KPR.FUS_WIN. -/
def State.fusWin (s : State) : Nat :=
  b2n s.fus.vcoreOk + 2 * b2n s.fus.viogOk + 4 * b2n s.fus.tjOk + 8 * b2n s.fus.viog3v3 + 256 * s.fus.tj

/-- Words delivered to the Accord and the Filong key logic only (R188). -/
def secretWord (addr : Nat) : Bool := 0x008 ≤ addr ∧ addr ≤ 0x037

/-- A word as FUS.READ returns it (R188, R218). -/
def State.readFuse (array addr : Nat) (s : State) : Nat :=
  if array = 0 then fuseWord s.fus.efuse addr
  else if array = 1 then (if secretWord addr then 0 else fuseWord s.fus.antifuse addr)
  else [s.fusStat, s.fusFault, s.fusFin, s.fusWin].getD addr 0

/-- The words of each array and of the status view. -/
def fuseArraySize (array : Nat) : Nat := if array = 0 then 256 else if array = 1 then 1024 else 4

/-- FUS.READ (R218). -/
def execFusRead (r : Req) (s : State) : Out :=
  .next (s.command 0xD000 r (fun o s =>
    let array := byteAt o.payload 0
    let word := u16 o.payload 2
    let count := u16 o.payload 4
    s.formedBy o 8
      [(decide (2 < array), 0), (decide (fuseArraySize array ≤ word), 2),
       (decide (count = 0 ∨ 256 < count ∨ fuseArraySize array < word + count), 4)] [(1, 1), (6, 2)] fun s =>
      s.done o (o.payload ++ (List.range count).flatMap fun i => le 4 (s.readFuse array (word + i)))))

/-! ## FUS.PROGRAM -/

/-- The area of a word that FUS.PROGRAM may write (Table 5.9): none, 1 unit content, 2 revocation marker. -/
def programArea (anti : Bool) (addr : Nat) : Nat :=
  if !anti then (if (0x30 ≤ addr ∧ addr ≤ 0x3A) ∨ (0x40 ≤ addr ∧ addr ≤ 0x4A) then 1 else 0)
  else if 0xC8 ≤ addr ∧ addr ≤ 0xCF then 2
  else if 0x40 + 34 ≤ addr ∧ addr < 0x40 + 136 ∧ (addr - 0x40) % 17 < 12 then 1
  else 0

/-- The FINAL marker of the unit that holds a content word. -/
def finalOf (anti : Bool) (addr : Nat) : Nat :=
  if !anti then addr / 16 * 16 + 15 else 0x40 + (addr - 0x40) / 17 * 17 + 16

/-- The lifecycle allows the area (Table 5.9). -/
def State.programAllowed (anti : Bool) (addr : Nat) (s : State) : Bool :=
  match programArea anti addr with
  | 1 => s.lifecycle = 1 ∨ s.lifecycle = 2
  | 2 => s.lifecycle = 2 ∨ s.lifecycle = 3
  | _ => false

/-- The key unit that the applied Formula or the running Keeper firmware was verified with. -/
def State.keyInUse (k : Nat) (s : State) : Bool :=
  (match s.frm.applied with | some f => decide (k = 2 + f.keyIndex) | none => false) || (s.boot.kfVersion.isSome && decide (k = s.boot.kfUnit))

/-- The data words of a FUS.PROGRAM payload. -/
def programWords (b : Bytes) : List FuseWord :=
  (List.range (u16 b 4)).map fun i =>
    { anti := decide (byteAt b 0 = 1), addr := u16 b 2 + i, data := BitVec.ofNat 32 (u32 b (8 + 4 * i)) }

/-- The first revocation marker whose data is not all ones (FUS.PROGRAM). -/
def markerFault (b : Bytes) : Option Nat :=
  (List.range (u16 b 4)).findSome? fun i =>
    if byteAt b 0 = 1 ∧ programArea true (u16 b 2 + i) = 2 ∧ u32 b (8 + 4 * i) ≠ 0xFFFFFFFF then some (8 + 4 * i) else none

/-- FUS.PROGRAM (R203, R209, R217, R220). -/
def execFusProgram (r : Req) (s : State) : Out :=
  .next (s.command 0xD001 r (fun o s =>
    let b := o.payload
    let count := u16 b 4
    let listed := decide (0 < count ∧ count ≤ 64)
    s.formedBy o (if b.length < 8 then 8 else if listed then 8 + 4 * count else b.length)
      [(decide (1 < byteAt b 0), 0), (!listed, 4)] [(1, 1), (6, 2)] fun s =>
      match markerFault b with
      | some off => s.malformed o off
      | none =>
        let ws := programWords b
        s.checks o
          [(!(ws.all fun w => s.programAllowed w.anti w.addr), 0x0002),
           (ws.any fun w => programArea w.anti w.addr = 1 ∧ s.fuseArray w.anti (finalOf w.anti w.addr) ≠ 0, 0x0003),
           (ws.any fun w => s.fuseArray w.anti w.addr &&& ~~~w.data ≠ 0, 0x0004),
           (ws.any fun w => w.anti ∧ programArea true w.addr = 2 ∧ s.keyInUse (w.addr - 0xC8), 0x0005)]
          fun s => s.fuseBegin o { cmd := o.ref, words := ws }))

/-! ## FUS.FINALISE -/

/-- First content word, number of content words and unit code of a finalisable unit: e-fuse or antifuse. -/
def unitOf (code : Nat) : Option (Bool × Nat × Nat) :=
  if code = 0x01 then some (false, 0x00, 27)
  else if code = 0x02 then some (true, 0x00, 59)
  else if code = 0x03 then some (false, 0x30, 11)
  else if code = 0x04 then some (false, 0x40, 11)
  else if 0x10 ≤ code ∧ code ≤ 0x17 then some (true, keyUnitAddr (code - 0x10), 12)
  else none

/-- DIG of a unit (R207). -/
def unitDigest (code : Nat) (content : Bytes) : Bytes := (sha (ascii "TXI-FUS" ++ le 1 code ++ content)).take 16

/-- The four digest words. -/
def digestWords (dig : Bytes) : List Word := (List.range 4).map fun k => BitVec.ofNat 32 (u32 dig (4 * k))

/-- FUS.FINALISE (R208, R209). -/
def execFusFinalise (r : Req) (s : State) : Out :=
  .next (s.command 0xD002 r (fun o s =>
    s.wellFormed o 4 [(1, 3)] fun s =>
      let code := byteAt o.payload 0
      match unitOf code with
      | none => s.refuse o 0x0002
      | some (anti, a, n) =>
        let arr := if anti then s.fus.antifuse else s.fus.efuse
        let content := fuseBytes arr a n
        let dig := unitDigest code content
        let final := s.fuseArray anti (a + n + 4)
        let finalWord : FuseWord := { anti := anti, addr := a + n + 4, data := 0xFFFFFFFF#32 }
        let words := (List.range 4).map fun k => { anti := anti, addr := a + n + k, data := (digestWords dig).getD k 0 : FuseWord }
        let conflict := words.any fun w => s.fuseArray anti w.addr &&& ~~~w.data ≠ 0
        if code ∉ [0x03, 0x04, 0x12, 0x13, 0x14, 0x15, 0x16, 0x17] then s.refuse o 0x0002
        else if final = 0xFFFFFFFF#32 then s.refuse o 0x0003
        else if final ≠ 0 then s.fuseBegin o { cmd := o.ref, words := [finalWord], subject := code, digest := dig }
        else if anti ∧ content.all (· = 0) then s.refuse o 0x0009
        else if s.fus.op.isSome then s.refuse o 0x0001
        else if conflict then (s.fuseEvent 0x0207 (fuseArg anti a) code).refuse o 0x000A
        else s.fuseBegin o { cmd := o.ref, words := words ++ [finalWord], subject := code, digest := dig }))

/-! ## FUS.SET_LIFECYCLE -/

/-- The marker of a lifecycle code. -/
def markerOf (code : Nat) : Nat := 0x20 + (code - 2)

/-- The transitions of Table 5.5. -/
def transitionListed (src dst : Nat) : Bool :=
  (src = 1 ∧ dst = 2) ∨ (src = 2 ∧ dst = 3) ∨ ((src = 2 ∨ src = 3) ∧ dst = 4) ∨ (1 ≤ src ∧ src ≤ 4 ∧ dst = 5)

/-- The prerequisites of Table 5.5. -/
def State.transitionReady (dst : Nat) (s : State) : Bool :=
  if dst = 2 then
    s.finalised false 0x3F && s.finalised false 0x4F && (s.keyUsable 2 || s.keyUsable 3 || s.keyUsable 4 || s.keyUsable 5)
      && (s.keyUsable 6 || s.keyUsable 7)
  else if dst = 3 then (match s.frm.applied with | some f => bit f.lifecycles 2 | none => false)
  else true

/-- The Base note and every Flacon slot zeroed, as RETURNED and SCRAPPED need before their marker (R197, Table 7.8). -/
def State.zeroizeNotes (s : State) : State :=
  (s.modVlt fun v => { v with noteA := zeros 32, noteB := zeros 32 }).modFlc fun f => { f with slots := [] }

/-- FUS.SET_LIFECYCLE (R196, R197). -/
def execFusSetLifecycle (r : Req) (s : State) : Out :=
  .next (s.command 0xD003 r (fun o s =>
    let dst := byteAt o.payload 0
    s.formedBy o 20 [(decide (dst = 0 ∨ 5 < dst), 0)] [(1, 3)] fun s =>
      s.checks o
        [(slice o.payload 4 16 ≠ s.devid, 0x000B), (!transitionListed s.lifecycle dst, 0x000C), (!s.transitionReady dst, 0x000D),
         (s.fus.op.isSome, 0x0001)]
        fun s =>
          let marker := fuseWord s.fus.efuse (markerOf dst)
          let op : FuseOp := { cmd := o.ref, words := [], subject := dst }
          let word : FuseWord := { anti := false, addr := markerOf dst, data := 0xFFFFFFFF#32 }
          let (ok, s) := s.fuseWindow
          if !ok then s.respond o cFusWindow []
          else
            let s := if dst = 4 ∨ dst = 5 then s.zeroizeNotes else s
            s.fuseBegin o (if marker = 0xFFFFFFFF then op else { op with words := [word] })))

/-! ## FUS.BUMP_COUNTER -/

/-- The words of a bump: a torn step is completed, then each step from the value to the target takes bit 2n and then bit
2n + 1 (R201). Each bit is programmed and verified on its own. -/
def bumpWords (anti : Bool) (addr t target : Nat) : List FuseWord :=
  let word (b : Nat) : FuseWord := { anti := anti, addr := addr + b / 32, data := BitVec.ofNat 32 (2 ^ (b % 32)) }
  let torn := ((List.range 128).filter fun b => stepTorn t (b / 2) ∧ !bit t b).map word
  let value := thermoValue t
  torn ++ (List.range (2 * target)).filterMap fun b => if 2 * value ≤ b then some (word b) else none

/-- A bump of counter `c` to `target` would roll back what runs (FUS.BUMP_COUNTER, 0x000E). -/
def State.bumpRollsBack (c target : Nat) (s : State) : Bool :=
  decide (s.counterLive c < target) &&
    ((match s.frm.applied with | some f => decide (f.counter = c ∧ f.version < target) | none => false)
      || decide (s.boot.stwVerdict = 0 ∧ byteAt (s.sect 0x01 0) 10 = c ∧ s.boot.stwVersion < target)
      || (match s.boot.kfVersion with | some v => decide (c = 0x80 ∧ v < target) | none => false))

/-- FUS.BUMP_COUNTER (R201). -/
def execFusBumpCounter (r : Req) (s : State) : Out :=
  .next (s.command 0xD004 r (fun o s =>
    let c := byteAt o.payload 0
    let target := byteAt o.payload 1
    s.formedBy o 4 [(decide (63 < c ∧ c ∉ [0x80, 0x81, 0x82]), 0), (decide (target = 0 ∨ 64 < target), 1)] [(2, 2)] fun s =>
      if s.bumpRollsBack c target then s.refuse o 0x000E
      else
        let (anti, addr) := counterAt c
        let t := thermoBits (if anti then s.fus.antifuse else s.fus.efuse) addr
        s.fuseBegin o { cmd := o.ref, words := bumpWords anti addr t target, subject := c, before := s.counterLive c }))

/-! ## Words -/

/-- A word that does not verify keeps a part of its bits: which is open (R204; log entry 3). -/
def State.tornWord (w : FuseWord) (s : State) : State :=
  let (v, s) := s.freeVal
  s.setFuse { w with data := w.data &&& BitVec.ofNat 32 v }

/-- FUSE_WORD_DONE: the word is verified and recorded, or fails after its fourth pulse; then the word boundary (R204, R205). -/
def execFuseWordDone (verified : Bool) (s : State) : Out :=
  .next (match s.fus.op with
    | none => s
    | some op =>
      match op.words with
      | [] => s.fuseFinish op
      | w :: rest =>
        let old := s.fuseArray w.anti w.addr
        if verified then
          let s := (s.setFuse w).fuseEvent 0x0201 (fuseArg w.anti w.addr) w.data.toNat old.toNat
          s.fuseNext { op with words := rest, done := op.done + 1, newBits := op.newBits + popcount (w.data &&& ~~~old) }
        else (s.tornWord w).fuseStop op cState 0x0008)

/-- A package restart with main power present completes the word in progress; no later word starts and the command receives
no response (R205). -/
def State.fuseRestart (s : State) : State :=
  match s.fus.op with
  | some { words := w :: _, .. } => (s.setFuse w).modFus fun f => { f with op := none }
  | _ => s.modFus fun f => { f with op := none }

/-- A loss of main power cuts the word in progress (R206). -/
def State.fuseCut (s : State) : State :=
  match s.fus.op with
  | some { words := w :: _, .. } => (s.tornWord w).modFus fun f => { f with op := none }
  | _ => s.modFus fun f => { f with op := none }

/-! ## The start-up check -/

/-- The codes of the finalisable units with the region bit of each (Table 5.1, KPR.FUS_FAULT). -/
def finalisableUnits : List (Nat × Nat) :=
  [(0x01, 0), (0x02, 1), (0x03, 3), (0x10, 4), (0x11, 4), (0x12, 4), (0x13, 4), (0x14, 4), (0x15, 4), (0x16, 4), (0x17, 4), (0x04, 5)]

/-- A finalised unit whose digest fails (R207, R210). -/
def unitFails (efuse antifuse : Sparse Word) (code : Nat) : Bool :=
  match unitOf code with
  | none => false
  | some (anti, a, n) =>
    let arr := if anti then antifuse else efuse
    fuseWord arr (a + n + 4) ≠ 0 ∧ fuseBytes arr (a + n) 4 ≠ unitDigest code (fuseBytes arr a n)

/-- An unfinalised unit with a non-zero digest word: the address of the first. -/
def unitTorn (efuse antifuse : Sparse Word) (code : Nat) : Option (Bool × Nat) :=
  match unitOf code with
  | none => none
  | some (anti, a, n) =>
    let arr := if anti then antifuse else efuse
    if fuseWord arr (a + n + 4) ≠ 0 then none
    else (((List.range 4).map fun k => a + n + k).find? fun x => fuseWord arr x ≠ 0).map fun x => (anti, x)

/-- A marker that is set but not whole (R187). -/
def markerTorn (arr : Sparse Word) (addr : Nat) : Bool := fuseWord arr addr ≠ 0 ∧ fuseWord arr addr ≠ 0xFFFFFFFF

/-- The reserved words that lie in a region, by region bit: IDENTITY's zero words (Table 5.2) and TAMPER_CFG's and FEATURES' (R191,
R192). -/
def reservedWords : List (Nat × Bool × Nat) :=
  [(1, true, 5), (1, true, 6), (1, true, 7), (1, true, 0x38), (1, true, 0x39), (1, true, 0x3A)]
    ++ ((List.range 6).map fun i => (3, false, 0x35 + i)) ++ ((List.range 10).map fun i => (5, false, 0x41 + i))

/-- The reserved words that no region encloses (R186). -/
def unenclosedWords : List (Bool × Nat) :=
  ((List.range 176).map fun i => (false, 0x50 + i)) ++ ((List.range 48).map fun i => (true, 0xD0 + i))
    ++ ((List.range 512).map fun i => (true, 0x200 + i))

/-- The thermometers, as R200 numbers them. -/
def thermometers : List Nat := List.range 64 ++ [0x80, 0x81, 0x82]

/-- The bits of a counter's thermometer in the arrays given. -/
def thermoOf (efuse antifuse : Sparse Word) (c : Nat) : Nat :=
  let (anti, addr) := counterAt c
  thermoBits (if anti then antifuse else efuse) addr

/-- The regions that fail (R210), as KPR.FUS_FAULT.REGION. -/
def regionFaults (efuse antifuse : Sparse Word) : Nat :=
  maskOf 7 fun r =>
    (finalisableUnits.any fun u => u.2 = r ∧ unitFails efuse antifuse u.1)
      || (reservedWords.any fun w => w.1 = r ∧ fuseWord (if w.2.1 then antifuse else efuse) w.2.2 ≠ 0)
      || (decide (r = 2) && ((lifecycleOf efuse).isNone || [0x80, 0x81, 0x82].any fun c => thermoHole (thermoOf efuse antifuse c)))
      || (decide (r = 6) && (List.range 64).any fun c => thermoHole (thermoOf efuse antifuse c))

/-- FUS_TORN records of the check (R187, R210). -/
def State.logTorn (s : State) : State :=
  let s := finalisableUnits.foldl (fun s u =>
    match unitTorn s.fus.efuse s.fus.antifuse u.1 with
    | some (anti, x) => s.fuseEvent 0x0204 (fuseArg anti x) u.1
    | none => s) s
  let markers := ((List.range 4).map fun i => (false, 0x20 + i)) ++ [(false, 0x1F), (true, 0x3F), (false, 0x3F), (false, 0x4F)]
    ++ ((List.range 8).map fun k => (true, keyUnitAddr k + 16)) ++ (List.range 8).map fun k => (true, 0xC8 + k)
  markers.foldl (fun s m =>
    if markerTorn (if m.1 then s.fus.antifuse else s.fus.efuse) m.2 then s.fuseEvent 0x0204 (fuseArg m.1 m.2) else s) s

/-- The start-up check: its results latched (R210, R215). `senseFaults` are the words, antifuse from 0x400 up, that differed
between their two reads. -/
def State.fuseCheck (senseFaults : List Nat) (s : State) : State :=
  let e := s.fus.efuse
  let a := s.fus.antifuse
  let sense := !senseFaults.isEmpty || unenclosedWords.any fun w => fuseWord (if w.1 then a else e) w.2 ≠ 0
  let region := regionFaults e a
  let s := s.modFus fun f =>
    { f with latchE := e, latchA := a, region := region, sense := sense,
             keyUnit := maskOf 8 (fun k => unitFails e a (0x10 + k)),
             lcTorn := (List.range 4).any fun i => markerTorn e (0x20 + i),
             thermoTorn := thermometers.any fun c => (List.range 64).any fun n => stepTorn (thermoOf e a c) n,
             finTorn := [0x1F, 0x3F, 0x4F].any (markerTorn e) || markerTorn a 0x3F
               || (List.range 8).any (fun k => markerTorn a (keyUnitAddr k + 16) || markerTorn a (0xC8 + k)),
             hold := sense || bit region 0 || bit region 1 || bit region 2 || bit region 3 }
  let s := s.logTorn
  let s := (List.range 7).foldl (fun s r => if bit region r then s.fuseEvent 0x0203 r else s) s
  if sense then s.fuseEvent 0x0203 7 else s

end Sys2Proof.Machine
end

