-- ==== Sys2Proof/Machine/Crypto.lean ====
section
/-! DEFINITION. The crypto cluster, the entropy source and the DRBG (chapter 8). -/

namespace Sys2Proof.Machine

/-! ## The DRBG -/

/-- A reseed is due (R325). -/
def State.reseedDue (s : State) : Bool := 1024 ≤ s.cry.requests ∨ s.cry.lastReseed + 2 ^ 30 ≤ s.now

/-- Key and V under the update function of CTR_DRBG with 48 provided bytes. -/
def Crypto.drbgUpdate (provided : Bytes) (c : Crypto) : Crypto :=
  let seed := xorBytes (counterBlocks c.drbgKey 3 c.drbgV) provided
  { c with drbgKey := seed.take 32, drbgV := beVal (seed.drop 32) }

/-- The DRBG instantiated from a conditioned block: the personalization string is the DEVID and 32 zero bytes (R325). -/
def Crypto.instantiate (block devid : Bytes) (c : Crypto) : Crypto :=
  { c with drbgKey := zeros 32, drbgV := 0 }.drbgUpdate (xorBytes (sized 48 block) (sized 48 devid))

/-- A reseed from the oldest block of the pool (R325). -/
def State.reseed (s : State) : State :=
  s.modCry fun c =>
    { c.drbgUpdate (sized 48 (c.pool.headD [])) with
      pool := c.pool.tail, reseeds := satInc (2 ^ 32 - 1) c.reseeds, lastReseed := s.now, requests := 0 }

/-- The bytes of one generate request, and Key and V after it. -/
def Crypto.deliver (n : Nat) (c : Crypto) : Bytes × Crypto :=
  let k := ceilDiv n 16
  ((counterBlocks c.drbgKey k c.drbgV).take n,
    { { c with drbgV := (c.drbgV + k) % 2 ^ 128 }.drbgUpdate (zeros 48) with requests := c.requests + 1 })

/-- A generate request: the reseed first when it is due and a block is there (R325, R332). -/
def State.generate (n : Nat) (s : State) : Bytes × State :=
  let s := if s.reseedDue ∧ !s.cry.pool.isEmpty then s.reseed else s
  ((s.cry.deliver n).1, s.modCry fun c => (c.deliver n).2)

/-- Random bytes for a use that goes on while the DRBG cannot deliver: then they are bytes no rule gives (log entry 4). -/
def State.randomBytes (n : Nat) (s : State) : Bytes × State := if s.drbgReady then s.generate n else s.draw n

/-- A command that needs the DRBG: 0x000A when it cannot deliver (Table 8.6); it waits for a conditioned block when a reseed is
due and none is there (R325); else it goes on, the reseed made. -/
def State.withDrbg (o : Outstanding) (resist : Bool) (body : State → State) (s : State) : State :=
  if !s.drbgReady then s.refuse o 0x000A
  else if s.reseedDue || resist then
    if s.cry.pool.isEmpty then s.setOut { o with progress := .accepted } else body s.reseed
  else body s

/-! ## Algorithms -/

/-- The algorithms of Table 8.3. -/
def algListed (alg : Nat) : Bool :=
  alg ∈ [1, 2, 3, 4, 5, 6, 0x10, 0x11, 0x12, 0x13, 0x14, 0x18, 0x19, 0x1A, 0x1C, 0x1D, 0x20, 0x21, 0x22, 0x23, 0x28, 0x29, 0x2C]

/-- The operations of each (Table 8.3). -/
def opListed (alg op : Nat) : Bool :=
  if alg ∈ [0x28, 0x29] then op = 1
  else if alg ∈ [1, 2, 4, 5, 6, 0x18, 0x19, 0x1A, 0x20, 0x21] then op ≤ 1
  else op = 0

/-- The engine code of Table 8.4 that runs an algorithm; 0 for either AES engine. -/
def algEngine (alg : Nat) : Nat := if alg ≤ 6 then 0 else if alg ≤ 0x1D then 3 else 4

/-- The algorithm and operation take a key slot. -/
def algKeyed (alg op : Nat) : Bool :=
  !(decide (0x10 ≤ alg ∧ alg ≤ 0x14) || decide (alg = 0x28 ∨ alg = 0x29) || (decide (alg = 0x20 ∨ alg = 0x21) && decide (op = 1)))

/-- KIND and LEN of a slot suit the algorithm (R307). -/
def keySuits (alg kind len : Nat) : Bool :=
  if alg = 5 then kind = 0 ∧ (len = 7 ∨ len = 15)
  else if alg ≤ 6 then kind = 0 ∧ (len = 3 ∨ len = 7)
  else if alg ≤ 0x1D then kind = 0 ∨ kind = 4
  else if alg = 0x20 ∨ alg = 0x22 then kind = 1 ∧ len = 7
  else if alg = 0x21 ∨ alg = 0x23 then kind = 2 ∧ len = 11
  else kind = 3 ∧ len = 15

/-- The PARAM length is the one listed, its inner lengths agreeing (Table 8.3). -/
def paramSuits (alg op : Nat) (p : Bytes) : Bool :=
  let n := p.length
  if alg = 1 then n = 0
  else if alg = 2 ∨ alg = 3 ∨ alg = 5 then n = 16
  else if alg = 4 then 28 ≤ n
  else if alg = 6 then n = if op = 1 then 16 else 0
  else if alg ≤ 0x14 then n = 0
  else if alg ≤ 0x1A then n = if op = 1 then hashLen alg else 0
  else if alg = 0x1C then
    let sl := u16 p 0
    let il := u16 p (2 + sl)
    let ol := u16 p (4 + sl + il)
    n = 6 + sl + il ∧ 1 ≤ ol ∧ ol ≤ 1024
  else if alg = 0x1D then
    let ll := byteAt p 0
    let cl := u16 p (1 + ll)
    let ol := u16 p (3 + ll + cl)
    n = 5 + ll + cl ∧ ll ≤ 61 ∧ cl ≤ 256 ∧ 1 ≤ ol ∧ ol ≤ 64
  else if alg = 0x20 then n = if op = 1 then 129 else 0
  else if alg = 0x21 then n = if op = 1 then 193 else 0
  else if alg = 0x22 then n = 65
  else if alg = 0x23 then n = 97
  else if alg = 0x28 then n = 1952 + 1 + byteAt p 1952 + 3309
  else if alg = 0x29 then n = 2564 ∨ n = 2724 ∨ n = 2884
  else n = 0

/-- The DATA length is the one listed (Table 8.3). -/
def dataSuits (alg n : Nat) : Bool :=
  if alg = 1 ∨ alg = 2 then n % 16 = 0
  else if alg = 5 then 16 ≤ n
  else if alg = 0x1C ∨ alg = 0x1D ∨ alg = 0x22 ∨ alg = 0x23 then n = 0
  else if alg = 0x20 then n = 32
  else if alg = 0x21 then n = 48
  else if alg = 0x2C then n = 1088
  else true

/-- Output bytes of a job that is DONE (Table 8.3). -/
def outLen (alg op : Nat) (p : Bytes) (n : Nat) : Nat :=
  if alg = 4 then (if op = 0 then n + 16 else n)
  else if alg = 6 then (if op = 0 then 16 else 0)
  else if alg ≤ 5 then n
  else if alg ≤ 0x14 then hashLen alg
  else if alg ≤ 0x1A then (if op = 0 then hashLen alg else 0)
  else if alg = 0x1C then u16 p (4 + u16 p 0 + u16 p (2 + u16 p 0))
  else if alg = 0x1D then u16 p (3 + byteAt p 0 + u16 p (1 + byteAt p 0))
  else if alg = 0x20 then (if op = 0 then 64 else 0)
  else if alg = 0x21 then (if op = 0 then 96 else 0)
  else if alg = 0x22 then 32
  else if alg = 0x23 then 48
  else if alg = 0x2C then 32
  else 0

/-- The HMAC message filter of R313. -/
def hmacFiltered (alg : Nat) (d : Bytes) : Bool :=
  decide (0x18 ≤ alg ∧ alg ≤ 0x1A) && decide (d.take 3 = [0, 0, 0]) && decide (byteAt d 3 = 1 ∨ byteAt d 3 = 2)
    && (decide (slice d 4 3 = ascii "TXU") || decide (slice d 4 3 = ascii "TXH"))

/-- A hash or MAC output by algorithm; the ALG of an HMAC is its hash's and 8. -/
def hashOut (alg : Nat) (key d : Bytes) : Bytes := if alg ≤ 0x14 then hashOf alg d else hmacOf (alg - 8) key d

/-- RESULT and output of a job that runs to its end (R308, R309). -/
def jobRun (alg op rank : Nat) (key p d random : Bytes) : Nat × Bytes :=
  if alg = 4 then
    let iv := p.take 12
    let tag := slice p 12 16
    let aad := p.drop 28
    if op = 0 then (0, (gcmSeal key iv aad d).1 ++ (gcmSeal key iv aad d).2)
    else match gcmOpen key iv aad d tag with | some t => (0, t) | none => (1, [])
  else if alg = 6 then
    let tag := cmac key d
    if op = 0 then (0, tag) else if p = tag then (0, []) else (1, [])
  else if alg = 1 then (0, (blocksOf d).flatMap (if op = 0 then aes key else aesInv key))
  else if alg = 2 then (0, if op = 0 then cbcSeal key p (blocksOf d) else cbcOpen key p (blocksOf d))
  else if alg = 3 then (0, ctr key p d)
  else if alg = 5 then (0, xts (op = 1) key p d)
  else if alg ≤ 0x14 then (0, hashOut alg key d)
  else if alg ≤ 0x1A then
    if op = 0 then (0, hashOut alg key d) else if p = hashOut alg key d then (0, []) else (1, [])
  else if alg = 0x1C then
    let sl := u16 p 0
    let il := u16 p (2 + sl)
    (0, hkdf (slice p 2 sl) key (slice p (4 + sl) il) (outLen alg op p 0))
  else if alg = 0x1D then
    let ll := byteAt p 0
    let cl := u16 p (1 + ll)
    (0, acc key (ascii "TXC" ++ slice p 1 ll) (le 1 rank ++ slice p (3 + ll) cl) (outLen alg op p 0))
  else if alg = 0x20 ∨ alg = 0x21 then
    let n := if alg = 0x20 then 65 else 97
    if op = 0 then (0, sign alg (n - 1) key d random)
    else if !onCurve (p.take n) then (3, [])
    else if verify alg (p.take n) d (p.drop n) then (0, []) else (2, [])
  else if alg = 0x22 ∨ alg = 0x23 then
    if !onCurve p then (3, []) else (0, fit (outLen alg 0 p 0) (Config.ecdhByte key p))
  else if alg = 0x28 then
    let cl := byteAt p 1952
    if verify sMlDsa (p.take 1952) (slice p 1953 cl ++ d) (p.drop (1953 + cl)) then (0, []) else (2, [])
  else if alg = 0x29 then
    if verify sLms (p.take 56) d (p.drop 56) then (0, []) else (2, [])
  else (0, kem key d)

/-- Cycles of a hash over `n` bytes (Table 8.7). -/
def hashCycles (alg n : Nat) : Nat :=
  if alg = 0x10 ∨ alg = 0x18 then 65 * ((n + 8) / 64 + 1)
  else if alg = 0x13 then 25 * (n / 136 + 1)
  else if alg = 0x14 then 25 * (n / 104 + 1)
  else 81 * ((n + 16) / 128 + 1)

/-- Cycles of an HMAC over `n` bytes: one key block in front, then two blocks of the outer hash (Table 8.7). -/
def hmacCycles (alg n : Nat) : Nat :=
  if alg = 0x18 then hashCycles alg (64 + n) + 130 else hashCycles alg (128 + n) + 162

/-- Engine cycles of an algorithm whose time is exact, key load included (R311, R316, R317); none for a verify, whose time
depends on its data. -/
def jobCycles (alg op len : Nat) (p : Bytes) (n : Nat) : Option Nat :=
  let load := if len ≤ 7 then 8 else 16
  let b := ceilDiv n 16
  let wide := decide (len = 7)
  if alg ≤ 3 then some (load + if wide then 16 + 15 * b else 12 + 11 * b)
  else if alg = 4 then
    let a := ceilDiv (p.length - 28) 16
    some (load + if wide then 16 + 15 * (b + 2) + 2 * a else 12 + 11 * (b + 2) + 2 * a)
  else if alg = 5 then some (load + if wide then 24 + 11 * (b + 1) else 32 + 15 * (b + 1))
  else if alg = 6 then some (load + if wide then 16 + 15 * (b + 1) else 12 + 11 * (b + 1))
  else if alg ≤ 0x14 then some (hashCycles alg n)
  else if alg ≤ 0x1A then some (load + hmacCycles alg n)
  else if alg = 0x1C then
    let il := u16 p (2 + u16 p 0)
    let blocks := ceilDiv (outLen alg op p 0) 48
    some (load + hmacCycles 0x19 (4 * (len + 1)) + hmacCycles 0x19 (il + 1) + (blocks - 1) * hmacCycles 0x19 (48 + il + 1))
  else if alg = 0x1D then
    let ll := byteAt p 0
    let cl := u16 p (1 + ll)
    some (load + ceilDiv (outLen alg op p 0) 48 * hmacCycles 0x19 (4 + 3 + ll + 1 + 1 + cl + 4))
  else if alg = 0x20 ∧ op = 0 then some (load + 180000)
  else if alg = 0x21 ∧ op = 0 then some (load + 420000)
  else if alg = 0x22 then some (load + 170000)
  else if alg = 0x23 then some (load + 400000)
  else if alg = 0x2C then some (load + 85000)
  else none

/-! ## Job slots -/

/-- The occupied job slots, as KPR.CRY_STAT.OCC. -/
def State.jobsOcc (s : State) : Nat := maskOf 8 fun j => (tfind s.cry.jobs j).isSome

/-- The running ones, as KPR.CRY_STAT.RUN. -/
def State.jobsRun (s : State) : Nat :=
  maskOf 8 fun j => match tfind s.cry.jobs j with | some x => x.started.isSome | none => false

/-- The claim on CRYPTO: a job slot is occupied, or the Keeper ROM still verifies the firmware (R301, R319). -/
def State.cryptoClaim (s : State) : Bool := !s.cry.jobs.isEmpty || s.boot.kfVersion.isNone

/-- KPR.CRY_STAT. -/
def State.cryStat (s : State) : Nat :=
  s.jobsOcc + 256 * s.jobsRun + 2 ^ 16 * b2n s.cryptoClaim + 2 ^ 17 * b2n (s.draining dCrypto) + 2 ^ 18 * b2n (s.powered dCrypto)

/-- The lowest free slot among those listed. -/
def State.freeJobSlot (among : List Nat) (s : State) : Option Nat := among.find? fun j => (tfind s.cry.jobs j).isNone

/-- A Keeper job enters a job slot (R302). -/
def State.placeKeeperJob (w : KeeperWork) (j : Nat) (s : State) : State :=
  s.modCry fun c => { c with jobs := tins c.jobs j { work := some w, alg := sEcdsa384, engine := 4, accepted := s.now } }

/-- A Keeper job takes a slot, or waits in the Keeper's own queue (R302, R303). -/
def State.keeperJob (w : KeeperWork) (s : State) : State :=
  match s.freeJobSlot [6, 7, 0, 1, 2, 3, 4, 5] with
  | some j => s.placeKeeperJob w j
  | none => s.modCry fun c => { c with waiting := c.waiting ++ [w] }

/-- The BUSY bit of a slot cleared, unless another running job holds its key (R311). -/
def State.clearBusy (n : Nat) (s : State) : State :=
  if s.cry.jobs.any fun x => x.2.keySlot = n ∧ x.2.started.isSome then s
  else s.modFlc fun f =>
    match tfind f.slots n with
    | none => f
    | some k => { f with slots := tset {} f.slots n { k with attr := k.attr - 2 ^ 25 * b2n (bit k.attr 25) } }

/-- The OUT_SLOT reservation of a job ends (R312). -/
def State.endReservation (j : Job) (s : State) : State :=
  match j.toSlot with
  | none => s
  | some n => s.modFlc fun f => { f with slots := tset {} f.slots n { (tget {} f.slots n) with reserved := false } }

/-- A job leaves its slot; its engine key register reads zero and a waiting Keeper job takes the slot (R303, R311). -/
def State.freeJob (j : Nat) (s : State) : State :=
  match tfind s.cry.jobs j with
  | none => s
  | some x =>
    let s := s.modCry fun c =>
      { c with jobs := tdel c.jobs j, freed := if x.started.isSome then tset 0 c.freed x.engine s.now else c.freed }
    let s := (s.endReservation x).clearBusy x.keySlot
    match s.cry.waiting with
    | [] => s
    | w :: rest => (s.modCry fun c => { c with waiting := rest }).placeKeeperJob w j

/-- A job stopped before its end: its command completes with a code, and its slot frees (R310). -/
def State.stopJob (j code : Nat) (payload : Bytes) (s : State) : State :=
  match tfind s.cry.jobs j with
  | none => s
  | some x =>
    let s := s.freeJob j
    let s := if x.started.isSome then s.event 5 (1 + j) 0x0305 j code else s
    match x.cmd with
    | none => s
    | some c => s.respondRef c code payload

/-- Every job on which a test holds is stopped. -/
def State.stopJobs (test : Job → Bool) (code : Nat) (payload : Bytes) (s : State) : State :=
  (s.cry.jobs.filter fun x => test x.2).foldl (fun s x => s.stopJob x.1 code payload) s

/-- DQ stops every job that holds or loads a slot (R243). -/
def State.cryptoDq (s : State) : State :=
  s.stopJobs (fun x => x.cmd.isSome && (decide (x.keySlot ≠ 0xFF) || x.toSlot.isSome)) cState (le 2 0x00D0 ++ zeros 2)

/-- A destroyed slot stops every job that uses it (R293). -/
def State.cryptoDestroyed (n : Nat) (s : State) : State :=
  s.stopJobs (fun x => x.keySlot = n) cState (le 2 0x00D1 ++ zeros 2)

/-- The start of a drain: every job not started completes BUSY_DRAIN, and waiting Keeper jobs are withdrawn (R303, R319). -/
def State.cryptoDrain (ticket : Nat) (s : State) : State :=
  (s.modCry fun c => { c with waiting := [] }).stopJobs (fun x => x.started.isNone) cBusyDrain (le 4 ticket)

/-- The claim timer's end: every job still running completes ABORTED_POWER (R320). -/
def State.cryptoAbort (s : State) : State := s.stopJobs (fun _ => true) 0x15 []

/-! ## CRY.SUBMIT -/

/-- The descriptor's own faults (R305 to R307, R312): the offset of the first. -/
def descriptorFault (port : Port) (b : Bytes) : Option Nat :=
  let alg := byteAt b 0
  let op := byteAt b 1
  let flags := byteAt b 3
  let indirect := bit flags 0
  let toSlot := bit flags 1
  let p1 := u16 b 12
  let n := u32 b 16
  if b.length < 32 then some b.length
  else if !algListed alg then some 0
  else if !opListed alg op then some 1
  else if algKeyed alg op = decide (byteAt b 2 = 0xFF) ∨ (byteAt b 2 ≠ 0xFF ∧ 127 < byteAt b 2) then some 2
  else if 3 < flags ∨ (indirect ∧ port ≠ .stw ∧ port ≠ .kpr) ∨ (toSlot ∧ alg ∉ [0x1C, 0x1D, 0x22, 0x23, 0x2C]) then some 3
  else if (toSlot ∧ 127 < byteAt b 4) ∨ (!toSlot ∧ byteAt b 4 ≠ 0xFF) then some 4
  else if (alg ≤ 6 ∧ 2 < byteAt b 5) ∨ (6 < alg ∧ byteAt b 5 ≠ 0) then some 5
  else match firstNonZero b 6 2 with
  | some off => some off
  | none =>
    if !toSlot ∧ u32 b 8 ≠ 0 then some 8
    else match firstNonZero b 14 2 with
    | some off => some off
    | none =>
      if indirect then
        if 65536 < p1 + n then some 16
        else if 0x20000 < u32 b 20 + p1 + n then some 20
        else if 0x20000 < u32 b 24 + u32 b 28 then some 24
        else if 32 < b.length then some 32
        else none
      else if (firstNonZero b 20 12).isSome then firstNonZero b 20 12
      else if alg ≠ 0x28 ∧ b.length ≠ 32 + p1 + n then some (min b.length (32 + p1 + n))
      else none

/-- KIND and LEN are one of the combinations of R273. -/
def kindLenListed (attr : Nat) : Bool :=
  let kind := bits attr 20 18
  let len := bits attr 24 21
  (kind = 0 ∧ 3 ≤ len) ∨ (kind = 4 ∧ 7 ≤ len) ∨ (kind = 1 ∧ len = 7) ∨ (kind = 2 ∧ len = 11) ∨ (kind = 3 ∧ len = 15)

/-- DEST sets FILONG, NOSE_MEM or CUSTODY (R276). -/
def destReserved (attr : Nat) : Bool := bit attr 6 || bit attr 7 || bit attr 8

/-- Every bit of the first mask is in the second. -/
def within (a b : Nat) : Bool := a &&& b = a

/-- OUT_ATTR breaks R312 against its key slot. -/
def outAttrBad (attr keyAttr len : Nat) : Bool :=
  destReserved attr || !within (bits attr 13 10) (bits keyAttr 13 10) || (bit attr 16 && !bit keyAttr 16)
    || decide (4 * (bits attr 24 21 + 1) ≠ len) || decide (bits attr 1 0 ≠ 0 ∨ bits attr 15 14 ≠ 0 ∨ bit attr 17 ∨ bits attr 31 25 ≠ 0)

/-- The DEST bit of an engine: 2 AES0, 3 AES1, 4 HASH/KDF, 5 PKE (Table 7.4), for engine codes 1 to 4. -/
def destBit (engine : Nat) : Nat := engine + 1

/-- The engine of a job: AES jobs go where ENGINE and DEST allow, 0 where both do (R314); none where DEST excludes it. -/
def engineFor (alg asked attr : Nat) : Option Nat :=
  if algEngine alg ≠ 0 then (if bit attr (destBit (algEngine alg)) then some (algEngine alg) else none)
  else if asked ≠ 0 then (if bit attr (destBit asked) then some asked else none)
  else if bit attr 2 ∧ bit attr 3 then some 0
  else if bit attr 2 then some 1
  else if bit attr 3 then some 2
  else none

/-- A slot refuses a port's rank (R274). -/
def rankMissing (attr : Nat) (p : Port) : Bool := bit attr 0 && decide (p ≠ .kpr) && decide (bits attr 13 10 &&& p.rankBit = 0)

/-- A target slot that is filled or reserved; one that an order of this edge filled is left to the photo finish (R294). -/
def State.slotTaken (n : Nat) (s : State) : Bool := (s.slotValid n || (s.slot n).reserved) && (s.winner [objSlot n]).isNone

/-- CRY.SUBMIT (R302, R305 to R314, R319); a Keeper job that finds every slot occupied waits (R303). -/
def execCrySubmit (r : Req) (s : State) : Out :=
  .next (s.command 0x6000 r (fun o s =>
    let b := o.payload
    match descriptorFault o.port b with
    | some off => s.malformed o off
    | none =>
      let alg := byteAt b 0
      let op := byteAt b 1
      let k := byteAt b 2
      let indirect := bit (byteAt b 3) 0
      let toSlot := bit (byteAt b 3) 1
      let outSlot := byteAt b 4
      let p1 := u16 b 12
      let n := u32 b 16
      let text := if indirect then mread 0 s.cores.tcmSteward (u32 b 20) (p1 + n) else b.drop 32
      let param := text.take p1
      let data := text.drop p1
      let keyed := algKeyed alg op
      let attr := (s.slot k).attr
      let need := outLen alg op param data.length
      let small := !indirect && decide (alg = 0x28)
      if !small ∧ !paramSuits alg op param then s.malformed o 12
      else if !small ∧ !dataSuits alg data.length then s.malformed o 16
      else if indirect ∧ u32 b 28 < need then s.malformed o 28
      else if toSlot ∧ !kindLenListed (u32 b 8) then s.malformed o 8
      else if s.draining dCrypto then s.busyDrain o (((s.domain dCrypto).ticket).getD 0)
      else if !s.domainOn dCrypto then s.refuse o 0x0010
      else if (keyed ∧ 105 < k) ∨ (toSlot ∧ 105 < outSlot) then s.refuse o 0x0008
      else if keyed ∧ !s.slotValid k then s.refuse o 0x0002
      else if keyed ∧ rankMissing attr o.port then s.respond o cRank []
      else
        let engine := if keyed then engineFor alg (byteAt b 5) attr else some (algEngine alg)
        s.checks o
          [(engine.isNone, 0x0003),
           (keyed && !keySuits alg (bits attr 20 18) (bits attr 24 21), 0x0004),
           (toSlot && (s.slotTaken outSlot || outAttrBad (u32 b 8) attr need), 0x0005),
           (small, 0x0006), (hmacFiltered alg data, 0x0007),
           (decide (alg = 0x20 ∨ alg = 0x21) && decide (op = 0) && !s.drbgReady, 0x000A),
           (decide (o.port ≠ .kpr) && ((s.freeJobSlot [0, 1, 2, 3, 4, 5]).isNone || !s.cry.waiting.isEmpty), 0x0001)]
          fun s =>
            let objects := if toSlot then [objSlot outSlot] else []
            s.order o objects fun s =>
              match s.freeJobSlot (if o.port = .kpr then [6, 7, 0, 1, 2, 3, 4, 5] else [0, 1, 2, 3, 4, 5]) with
              | none => s.setOut { o with progress := .accepted }
              | some j =>
              let job : Job :=
                { cmd := some o.ref, alg := alg, op := op, keySlot := if keyed then k else 0xFF,
                  toSlot := if toSlot then some outSlot else none, outAttr := u32 b 8, indirect := indirect, outOff := u32 b 24,
                  engine := engine.getD 0, param := param, data := data, accepted := o.edge, rank := o.port.rank }
              let s := s.modCry fun c => { c with jobs := tins c.jobs j job }
              if toSlot then
                (s.modFlc fun f => { f with slots := tset {} f.slots outSlot { (tget {} f.slots outSlot) with reserved := true } }).takesEffect
                  o.port 0x6000 objects
              else s))

/-! ## Starting and completing -/

/-- An engine runs a job. -/
def State.engineBusy (e : Nat) (s : State) : Bool := s.cry.jobs.any fun x => x.2.engine = e ∧ x.2.started.isSome

/-- Whether job `a` stands before job `b` in a queue: Keeper jobs first, then by acceptance edge and port index (R314). -/
def Job.before (a b : Job) : Bool :=
  if a.work.isSome ≠ b.work.isSome then a.work.isSome
  else if a.accepted ≠ b.accepted then a.accepted < b.accepted
  else (match a.cmd, b.cmd with | some x, some y => decide (x.port.index < y.port.index) | _, _ => false)

/-- A queued job may run on engine `e`. -/
def Job.mayUse (e : Nat) (j : Job) : Bool := j.engine = e ∨ (j.engine = 0 ∧ (e = 1 ∨ e = 2))

/-- The engine on which a queued job starts: an idle one it may use (AES0 on a tie), with no earlier job queued for it (R314). -/
def State.startEngine (j : Job) (s : State) : Option Nat :=
  [1, 2, 3, 4].find? fun e => j.mayUse e && !s.engineBusy e
    && !(s.cry.jobs.any fun x => x.2.started.isNone && x.2.mayUse e && x.2.before j)

/-- The start edge of a job on engine `e`: the edge after its acceptance, or after the engine finished its last job (R314). -/
def State.startEdge (j : Job) (e : Nat) (s : State) : Nat := max j.accepted (tget 0 s.cry.freed e) + 1

/-- JOB_START: the job starts, and its key is loaded from its slot as the slot stands (R311, R314). A slot found empty stops
the job: 0x00D0 after DQ (R254), else 0x00D1 (R295). -/
def execJobStart (slot : Nat) (s : State) : Out :=
  .next (match tfind s.cry.jobs slot with
    | none => s
    | some j =>
      if j.started.isSome then s
      else match s.startEngine j with
      | none => s
      | some e =>
        let s := s.advanceTo (s.startEdge j e)
        let keyed := j.cmd.isSome && algKeyed j.alg j.op
        if keyed && !s.slotValid j.keySlot then
          s.stopJob slot cState (le 2 (if s.vlt.dqSeen then 0x00D0 else 0x00D1) ++ zeros 2)
        else
          let key := if keyed then s.slotKey j.keySlot else []
          let s := s.modCry fun c => { c with jobs := tins c.jobs slot { j with engine := e, started := some s.now, key := key } }
          if keyed then
            s.modFlc fun f =>
              let k := tget {} f.slots j.keySlot
              { f with slots := tset {} f.slots j.keySlot { k with attr := k.attr ||| 2 ^ 25 } }
          else s)

/-- The result head of Table 8.4. -/
def resultHead (result engine slot out cycles queued : Nat) : Bytes :=
  le 1 result ++ le 1 engine ++ le 1 slot ++ zeros 1 ++ le 4 out ++ le 4 cycles ++ le 4 (min (2 ^ 32 - 1) queued)

/-- The completion of a running port job: output delivered, slot filled or returned; the key register zeroed (R309, R311,
R312, R315). -/
def State.finishJob (slot : Nat) (j : Job) (start cycles : Nat) (c : CmdRef) (s : State) : State :=
  let (random, s) := if (j.alg = 0x20 ∨ j.alg = 0x21) ∧ j.op = 0 then s.generate 48 else ([], s)
  let (result, out) := jobRun j.alg j.op j.rank j.key j.param j.data random
  let bound := bit (s.slot j.keySlot).attr 17
  let head := resultHead result j.engine slot (if result = 0 then out.length else 0) cycles (start - j.accepted)
  let s := s.freeJob slot
  let s := match j.toSlot with
    | none => s
    | some n =>
      if result = 0 then
        (s.fillSlot n (j.outAttr + 16384 + 131072 * b2n bound) c.port.index out).event 5 (1 + slot) 0x0301 n (j.outAttr + 16385 + 131072 * b2n bound)
      else s
  let s := if j.indirect ∧ result = 0 ∧ j.toSlot.isNone then
      s.modCores fun x => { x with tcmSteward := mwrite 0 x.tcmSteward j.outOff out }
    else s
  s.respondRef c cOk (head ++ if j.indirect ∨ j.toSlot.isSome ∨ result ≠ 0 then [] else out)

/-- A job draws its k from the DRBG (R308). -/
def Job.draws (j : Job) : Bool := decide (j.alg = 0x20 ∨ j.alg = 0x21) && decide (j.op = 0)

/-- JOB_COMPLETE: a running job's output is complete: on its exact edge, or on the present one for a verify, whose time the
manual leaves to the data (R315 to R317). A signature whose k the DRBG cannot deliver is refused (R326). On the terminal edge of the claim timer or later it comes too late (R328). -/
def execJobComplete (slot : Nat) (s : State) : Out :=
  .next (match tfind s.cry.jobs slot with
    | none => s
    | some j =>
      match j.started, j.cmd with
      | some start, some c =>
        let len := bits (s.slot j.keySlot).attr 24 21
        let s := match jobCycles j.alg j.op len j.param j.data.length with
          | some n => s.advanceTo (start + n)
          | none => s
        if s.draining dCrypto ∧ (s.domain dCrypto).timer ≤ s.now then
          (s.stopJob slot 0x15 []).eventLate 5 (1 + slot) 0x0305 slot 0x15
        else if j.draws && !s.drbgReady then s.stopJob slot cState (le 2 0x000A ++ zeros 2)
        else s.finishJob slot j start ((jobCycles j.alg j.op len j.param j.data.length).getD (s.now - start)) c
      | _, _ => s)

/-! ## Other CRY commands -/

/-- The job of a port or session with a TAG. -/
def State.findJob (o : Outstanding) (tag : Nat) (s : State) : Option (Nat × Job) :=
  s.cry.jobs.find? fun x => x.2.cmd = some { port := o.port, session := o.session, tag := tag }

/-- The completion edge of a running job has come, where its time is exact: a cancel finds the job complete (R331). -/
def State.jobOver (j : Job) (s : State) : Bool :=
  match j.started, jobCycles j.alg j.op (bits (s.slot j.keySlot).attr 24 21) j.param j.data.length with
  | some start, some n => decide (start + n ≤ s.now)
  | _, _ => false

/-- CRY.GET_JOB. -/
def execCryGetJob (r : Req) (s : State) : Out :=
  .next (s.command 0x6001 r (fun o s =>
    s.wellFormed o 4 [(2, 2)] fun s =>
      match s.findJob o (u16 o.payload 0) with
      | none => s.done o ([0, 0xFF] ++ zeros 10)
      | some (slot, j) =>
        let ahead := (s.cry.jobs.filter fun x => x.2.engine = j.engine ∧ (x.2.started.isSome ∨ x.2.before j) ∧ x.1 ≠ slot).length
        match j.started with
        | none => s.done o (le 1 1 ++ le 1 slot ++ le 1 j.engine ++ le 1 ahead ++ zeros 8)
        | some e => s.done o (le 1 2 ++ le 1 slot ++ le 1 j.engine ++ zeros 1 ++ le 4 (s.now - e) ++ zeros 4)))

/-- CRY.CANCEL (R331). -/
def execCryCancel (r : Req) (s : State) : Out :=
  .next (s.command 0x6002 r (fun o s =>
    s.wellFormed o 4 [(2, 2)] fun s =>
      match (s.findJob o (u16 o.payload 0)).filter fun x => !s.jobOver x.2 with
      | none => s.done o (zeros 4)
      | some (slot, j) =>
        (s.stopJob slot cState (le 2 0x0020 ++ zeros 2)).done o (le 1 (if j.started.isSome then 2 else 1) ++ zeros 3)))

/-- CRY.RANDOM (R325, R326). -/
def execCryRandom (r : Req) (s : State) : Out :=
  .next (s.command 0x6003 r (fun o s =>
    let n := u16 o.payload 0
    s.formedBy o 4 [(decide (n = 0 ∨ 4096 < n), 0), (decide (1 < byteAt o.payload 2), 2)] [(3, 1)] fun s =>
      s.withDrbg o (bit (byteAt o.payload 2) 0) fun s =>
        let (bs, s) := s.generate n
        s.done o bs))

/-- KPR.ES_STAT. -/
def State.esStat (s : State) : Nat :=
  s.cry.es + 4 * s.cry.drbg + 16 * s.cry.retries + 256 * s.cry.discardRun + 1024 * s.cry.pool.length

/-- CRY.GET_HEALTH. -/
def execCryGetHealth (r : Req) (s : State) : Out :=
  .next (s.command 0x6004 r (fun o s =>
    s.wellFormed o 0 [] fun s =>
      s.done o (le 4 s.esStat ++ le 4 s.cry.rct ++ le 4 s.cry.apt ++ le 4 s.cry.conditioned ++ le 4 s.cry.reseeds
        ++ le 8 (if s.cry.reseeds = 0 then 0 else baton s.cry.lastReseed 5) ++ le 4 s.cryStat)))

/-! ## The entropy source -/

/-- A change of state of the source, logged in slot 5, source 9 (R324). -/
def State.setEs (es : Nat) (s : State) : State :=
  let old := s.cry.es
  let s := s.modCry fun c => { c with es := es, retries := if es = 1 then 0 else c.retries }
  s.event 5 9 0x0303 es (old + 256 * s.cry.retries)

/-- The DRBG is instantiated, or reseeded where it has been, from a new conditioned block (R324, R325). -/
def State.freshDrbg (block : Bytes) (s : State) : State :=
  s.modCry fun c =>
    { (if c.drbg = 0 then c.instantiate block s.devid else c.drbgUpdate (sized 48 block)) with
                             drbg := 1, reseeds := satInc (2 ^ 32 - 1) c.reseeds, lastReseed := s.now, requests := 0,
                             conditioned := satInc (2 ^ 32 - 1) c.conditioned }

/-- The raw bits of a block, low bit of each byte first. -/
def rawBits (raw : Bytes) : List Bool := raw.flatMap fun b => (List.range 8).map fun i => b.getLsbD i

/-- The Repetition Count Test over a block: last bit, run length and failures (R322). -/
def repetition : List Bool → Bool → Nat → Nat → Bool × Nat × Nat
  | [], last, run, fails => (last, run, fails)
  | b :: bs, last, run, fails =>
    let n := if b = last then run + 1 else 1
    if 41 ≤ n then repetition bs b 0 (fails + 1) else repetition bs b n fails

/-- The Adaptive Proportion Test over a block: the first bit's value occurs 800 times or more (R322). -/
def proportionFails (bs : List Bool) : Bool :=
  match bs with
  | [] => false
  | b :: _ => 800 ≤ (bs.filter (· = b)).length

/-- A failed start-up attempt: the third enters FAIL (R324). -/
def State.startupFails (s : State) : State :=
  let s := s.modCry fun c => { c with blocks := 0, attempts := c.attempts + 1 }
  if 3 ≤ s.cry.attempts then s.setEs 2 else s

/-- 1024 raw bits are tested, and conditioned or discarded (R322 to R324). `knownAnswers` says whether the
known-answer tests of the start-up pass. -/
def State.entropyBlock (raw : Bytes) (knownAnswers : Bool) (s : State) : State :=
  let bs := rawBits raw
  let (last, run, rctFails) := repetition bs s.cry.lastBit s.cry.run 0
  let aptFails := b2n (proportionFails bs)
  let ok := rctFails = 0 ∧ aptFails = 0
  let s := s.modCry fun c =>
    { c with lastBit := last, run := if ok then run else 0, rct := satAdd (2 ^ 32 - 1) c.rct rctFails, apt := satAdd (2 ^ 32 - 1) c.apt aptFails }
  if s.cry.es = 0 then
    if !ok then s.startupFails
    else if s.cry.blocks < 4 then s.modCry fun c => { c with blocks := c.blocks + 1 }
    else if knownAnswers then (s.freshDrbg (sha raw)).setEs 1
    else s.startupFails
  else if s.cry.es = 1 then
    if ok then
      s.modCry fun c =>
        if c.pool.length < 2 then { c with discardRun := 0, pool := c.pool ++ [sha raw], conditioned := satInc (2 ^ 32 - 1) c.conditioned }
        else { c with discardRun := 0 }
    else
      let s := s.modCry fun c => { c with discardRun := min 3 (c.discardRun + 1) }
      if 3 ≤ s.cry.discardRun then (s.modCry fun c => { c with drbg := 2 }).setEs 2 else s
  else s

/-- ENTROPY_BLOCK: the source runs while the Cadence does. -/
def execEntropyBlock (raw : Bytes) (knownAnswers : Bool) (s : State) : Out :=
  .next (if s.clk.running then s.entropyBlock raw knownAnswers else s)

/-- ENTROPY_FAIL_RETRY: on a 2^30-cycle tick in FAIL a start-up test runs (R324). -/
def execEntropyFailRetry (passes : Bool) (s : State) : Out :=
  .next (if s.cry.es = 2 then
      let s := s.atTick (2 ^ 30)
      if passes then
        let (block, s) := s.draw 48
        ((s.modCry fun c => { c with discardRun := 0 }).freshDrbg block).setEs 1
      else
        let s := s.modCry fun c => { c with retries := c.retries + 1 }
        if 8 ≤ s.cry.retries then s.setEs 3 else s
    else s)

/-- DRBG_RESEED: a due reseed takes a conditioned block (R325). -/
def execDrbgReseed (s : State) : Out :=
  .next (if s.drbgReady ∧ s.reseedDue ∧ !s.cry.pool.isEmpty then s.reseed else s)

end Sys2Proof.Machine
end

