-- ==== Sys2Proof/Machine/Keys.lean ====
section
/-! DEFINITION. The KEY commands, the Swirl and the measurement accumulator (chapter 7). -/

namespace Sys2Proof.Machine

/-! ## The measurement accumulator -/

/-- A measurement entry (Table 7.2). -/
def measurementEntry (kind plat image verdict version : Nat) (digest : Bytes) (rom : Nat) : Bytes :=
  le 1 kind ++ le 1 plat ++ le 1 image ++ le 1 verdict ++ le 4 version ++ sized 48 digest ++ le 2 rom ++ zeros 6

/-- An entry appended: MA = SHA-384(MA ‖ E), with its log record and its MA_APPEND event (R262). -/
def State.appendEntry (e : Bytes) (s : State) : State :=
  let s := s.modFlc fun f => { f with ma := sha (sized 48 f.ma ++ e), entries := satInc 255 f.entries }
  let s := s.modBoot fun b => { b with log := (b.log ++ [{ entry := e, baton := baton s.now 2 : Measured }]).take 255 }
  s.event 2 0 0x0607 (byteAt e 2 + 256 * byteAt e 1) (byteAt e 3)

/-! ## Filling slots -/

/-- Key bytes of a KIND from derived or random bytes: scalars reduced as R269 states. -/
def keyOfKind (kind len : Nat) (bs : Bytes) : Bytes :=
  if kind = 1 then scalarOf orderP256 32 bs else if kind = 2 then scalarOf orderP384 48 bs else bs.take (4 * (len + 1))

/-- Bytes a KIND and LEN take before reduction (R277). -/
def keyInput (kind len : Nat) : Nat := if kind = 1 then 40 else if kind = 2 then 56 else 4 * (len + 1)

/-- The public half that a KIND has (R286). -/
def publicHalf (kind : Nat) (key : Bytes) : Bytes :=
  if kind = 1 then publicOf sEcdsa256 65 key
  else if kind = 2 then publicOf sEcdsa384 97 key
  else if kind = 3 then publicOf 0x2C 1184 key
  else []

/-- KIND has a public half, so that a command that returns it needs the PKE (R267, R321). -/
def hasPublic (attr : Nat) : Bool := bits attr 20 18 ∈ [1, 2, 3]

/-- The bits of a request's ATTR that stand: DEST, RANKS, EXPORT, KIND and LEN. -/
def attrRequest : Nat := 0x1FD3FFC

/-- The fault of an ATTR field at `off` (R273). -/
def attrFault (b : Bytes) (off : Nat) : Option Nat :=
  let a := u32 b off
  if a &&& attrRequest ≠ a ∨ !kindLenListed a then some off else none

/-- A slot filled by a command, logged in the port's slot of Table 2.2's Keeper core. -/
def State.fillByCommand (o : Outstanding) (opcode n attr : Nat) (key : Bytes) (s : State) : State :=
  let s := (s.fillSlot n attr o.port.index key).takesEffect o.port opcode [objSlot n]
  s.event 2 0 0x0301 n (s.slot n).attr

/-- Slots 106 to 127 (R275). -/
def systemSlot (n : Nat) : Bool := 106 ≤ n

/-! ## KEY.GENERATE -/

/-- The value and the attributes beyond the request of a generated key: MODE 0, 1 and 2 (R276, R277). -/
def State.generated (o : Outstanding) (s : State) : (Bytes × Nat) × State :=
  let b := o.payload
  let mode := byteAt b 1
  let parent := if mode = 2 then 126 else byteAt b 2
  let attr := u32 b 4
  let kind := bits attr 20 18
  let len := bits attr 24 21
  let label := slice b 12 (u16 b 8)
  let ctx := slice b (12 + u16 b 8) (u16 b 10)
  if mode = 0 then
    let (bs, s) := s.generate (keyInput kind len)
    ((keyOfKind kind len bs, attr), s)
  else
    let tag := ascii (if mode = 2 then "TXH" else "TXU")
    let bs := acc (s.slotKey parent) (tag ++ label) (le 1 o.port.rank ++ ctx) (keyInput kind len)
    let bound := mode = 2 ∨ bit (s.slot parent).attr 17
    ((keyOfKind kind len bs, attr + 16384 + 131072 * b2n bound), s)

/-- The fill that KEY.GENERATE makes, and its response. -/
def State.keyGenerate (o : Outstanding) (s : State) : State :=
  let n := byteAt o.payload 0
  s.order o [objSlot n] fun s =>
    let ((key, attr), s) := s.generated o
    let s := s.fillByCommand o 0x5000 n attr key
    let pub := publicHalf (bits attr 20 18) key
    s.done o (le 4 (s.slot n).attr ++ le 2 pub.length ++ zeros 2 ++ pub)

/-- KEY.GENERATE (R276, R277). -/
def execKeyGenerate (r : Req) (s : State) : Out :=
  .next (s.command 0x5000 r (fun o s =>
    let b := o.payload
    let n := byteAt b 0
    let mode := byteAt b 1
    let parent := byteAt b 2
    let attr := u32 b 4
    let pAttr := (s.slot parent).attr
    if b.length < 12 then s.malformed o b.length
    else if 127 < n then s.malformed o 0
    else if 2 < mode then s.malformed o 1
    else if (mode ≠ 1 ∧ parent ≠ 0) ∨ 127 < parent then s.malformed o 2
    else if byteAt b 3 ≠ 0 then s.malformed o 3
    else match attrFault b 4 with
    | some off => s.malformed o off
    | none =>
      if 64 < u16 b 8 ∨ (mode = 0 ∧ u16 b 8 ≠ 0) then s.malformed o 8
      else if 256 < u16 b 10 ∨ (mode = 0 ∧ u16 b 10 ≠ 0) then s.malformed o 10
      else s.wellFormed o (12 + u16 b 8 + u16 b 10) [] fun s =>
        s.checks o [(systemSlot n, 0x0003), (s.slotTaken n, 0x0001), (destReserved attr, 0x000C)] fun s =>
          if mode = 1 ∧ rankMissing pAttr o.port then s.respond o cRank []
          else s.checks o
            [(decide (mode = 1) && !(bit pAttr 0 && (decide (bits pAttr 20 18 = 0) || decide (bits pAttr 20 18 = 4)) && bit pAttr 4), 0x0004),
             (decide (mode = 1) && (!within (bits attr 13 10) (bits pAttr 13 10) || (bit attr 16 && !bit pAttr 16)), 0x0005),
             (decide (mode = 2) && !s.slotValid 126, 0x0006)]
            fun s =>
              let run := fun s : State => if hasPublic attr then s.needsCrypto o (State.keyGenerate o) else s.keyGenerate o
              if mode = 0 then s.withDrbg o false run else run s))

/-! ## KEY.IMPORT and KEY.WRAP -/

/-- A KEK slot is usable (R279). -/
def kekUsable (attr : Nat) : Bool := bit attr 9 ∧ bits attr 20 18 = 0 ∧ bits attr 24 21 = 7

/-- A plain scalar lies in [1, n − 1] (R280). -/
def scalarInRange (kind : Nat) (key : Bytes) : Bool :=
  let v := beVal key
  if kind = 1 then 1 ≤ v ∧ v < orderP256 else if kind = 2 then 1 ≤ v ∧ v < orderP384 else true

/-- The fill of a plain import (R280). -/
def State.importPlain (o : Outstanding) (s : State) : State :=
  let b := o.payload
  let n := byteAt b 0
  s.order o [objSlot n] fun s =>
    let s := s.fillByCommand o 0x5001 n (u32 b 4 + 2 * 16384) (b.drop 12)
    s.done o (le 4 (s.slot n).attr)

/-- The fill of an unwrapped blob (R280). -/
def State.importBlob (o : Outstanding) (s : State) : State :=
  let b := o.payload
  let n := byteAt b 0
  let blob := b.drop 12
  let a := u32 blob 4
  let klen := u16 blob 20
  match gcmOpen (s.slotKey (byteAt b 2)) (slice blob 8 12) (blob.take 24) (slice blob 24 klen) (blob.drop (24 + klen)) with
  | none => s.refuse o 0x0009
  | some key =>
    s.order o [objSlot n] fun s =>
      let attr := (a &&& u32 b 4 &&& 0x13FFC) + (a &&& 0x1FC0000) + 3 * 16384
      let s := s.fillByCommand o 0x5001 n attr key
      s.done o (le 4 (s.slot n).attr)

/-- The first fault of a wrapped-key blob (R280, Table 7.6). -/
def blobFault (blob : Bytes) : Option Nat :=
  let a := u32 blob 4
  if blob.take 4 ≠ ascii "TXKW" then some 12
  else if a &&& attrRequest ≠ a ∨ !kindLenListed a then some 16
  else if u16 blob 20 ≠ 4 * (bits a 24 21 + 1) then some 32
  else if u16 blob 22 ≠ 0 then some 34
  else if blob.length ≠ 40 + u16 blob 20 then some 20
  else none

/-- KEY.IMPORT (R280). -/
def execKeyImport (r : Req) (s : State) : Out :=
  .next (s.command 0x5001 r (fun o s =>
    let b := o.payload
    let n := byteAt b 0
    let mode := byteAt b 1
    let kek := byteAt b 2
    let attr := u32 b 4
    let kAttr := (s.slot kek).attr
    if b.length < 12 then s.malformed o b.length
    else if 127 < n then s.malformed o 0
    else if 1 < mode then s.malformed o 1
    else if (mode = 0 ∧ kek ≠ 0) ∨ 127 < kek then s.malformed o 2
    else if byteAt b 3 ≠ 0 then s.malformed o 3
    else if (mode = 0 ∧ (attrFault b 4).isSome) ∨ (mode = 1 ∧ attr &&& 0x13FFC ≠ attr) then s.malformed o 4
    else if mode = 0 ∧ u16 b 8 ≠ 4 * (bits attr 24 21 + 1) then s.malformed o 8
    else s.wellFormed o (12 + u16 b 8) [(10, 2)] fun s =>
      match (if mode = 1 then blobFault (b.drop 12) else if scalarInRange (bits attr 20 18) (b.drop 12) then none else some 12) with
      | some off => s.malformed o off
      | none =>
        s.checks o [(systemSlot n, 0x0003), (s.slotTaken n, 0x0001), (destReserved attr, 0x000C)] fun s =>
          if mode = 0 then s.importPlain o
          else if !s.slotValid kek then s.refuse o 0x0002
          else if rankMissing kAttr o.port then s.respond o cRank []
          else if !kekUsable kAttr then s.refuse o 0x0007
          else s.importBlob o))

/-- KEY.WRAP (R278, R279). -/
def execKeyWrap (r : Req) (s : State) : Out :=
  .next (s.command 0x5002 r (fun o s =>
    let n := byteAt o.payload 0
    let kek := byteAt o.payload 1
    s.formedBy o 4 [(decide (127 < n), 0), (decide (127 < kek), 1)] [(2, 2)] fun s =>
      let a := (s.slot n).attr
      let kAttr := (s.slot kek).attr
      if !s.slotValid n ∨ !s.slotValid kek then s.refuse o 0x0002
      else if rankMissing a o.port ∨ rankMissing kAttr o.port then s.respond o cRank []
      else s.checks o [(!kekUsable kAttr, 0x0007), (!bit a 16, 0x0008)] fun s =>
        s.withDrbg o false fun s =>
          let (iv, s) := s.generate 12
          let key := s.slotKey n
          let head := ascii "TXKW" ++ le 4 (a &&& attrRequest) ++ iv ++ le 2 key.length ++ zeros 2
          let (ct, tag) := gcmSeal (s.slotKey kek) iv head key
          s.done o (head ++ ct ++ tag)))

/-! ## KEY.DESTROY, KEY.GET_ATTR, KEY.PROVENANCE -/

/-- KEY.DESTROY (R292, R293). -/
def execKeyDestroy (r : Req) (s : State) : Out :=
  .next (s.command 0x5003 r (fun o s =>
    let n := byteAt o.payload 0
    s.formedBy o 4 [(decide (127 < n), 0)] [(1, 3)] fun s =>
      if systemSlot n then s.refuse o 0x0003
      else if rankMissing (s.slot n).attr o.port then s.respond o cRank []
      else s.order o [objSlot n] fun s =>
        let filled := s.slotValid n
        let s := if filled then (s.cryptoDestroyed n).emptySlot n else s
        let s := if filled then s.event 2 0 0x0302 n else s
        (s.takesEffect o.port 0x5003 [objSlot n]).done o []))

/-- KEY.GET_ATTR. -/
def execKeyGetAttr (r : Req) (s : State) : Out :=
  .next (s.command 0x5004 r (fun o s =>
    let n := byteAt o.payload 0
    s.formedBy o 4 [(decide (127 < n), 0)] [(1, 3)] fun s =>
      let k : Slot := if s.slotValid n then s.slot n else {}
      s.done o (le 4 k.attr ++ le 8 k.baton ++ le 1 k.port ++ zeros 3)))

/-- The rank order of a port index. -/
def rankOfIndex (i : Nat) : Nat := if i = 0 then 1 else if i = 1 then 2 else if i = 2 then 3 else if i = 3 then 4 else if i = 6 then 6 else 5

/-- A provenance statement without its signature: D and MA_close are zero for a fill before the Formula and before Heart closure (Table 7.7,
R287). -/
def State.provenance (n : Nat) (nonce : Bytes) (s : State) : Bytes :=
  let k := s.slot n
  let key := k.key
  let pub := if hasPublic k.attr then publicHalf (bits k.attr 20 18) key else (hmac key (ascii "TXI kcv")).take 8
  ascii "TXPV" ++ [1] ++ le 1 n ++ le 2 pub.length ++ le 4 (k.attr - 2 ^ 25 * b2n (bit k.attr 25)) ++ le 8 k.baton ++ le 1 k.port
    ++ le 1 (rankOfIndex k.port) ++ zeros 2 ++ le 4 s.bootCount ++ s.devid ++ (if k.underFormula then s.formulaDigest else zeros 48)
    ++ (if k.underHeart then sized 48 s.flc.maClose else zeros 48) ++ nonce ++ pub

/-- KEY.PROVENANCE (R286). -/
def execKeyProvenance (r : Req) (s : State) : Out :=
  .next (s.command 0x5005 r (fun o s =>
    let n := byteAt o.payload 0
    s.formedBy o 36 [(decide (127 < n), 0)] [(1, 3)] fun s =>
      let listed := n ≤ 105 ∨ (119 ≤ n ∧ n ≤ 123)
      if ¬listed then s.refuse o 0x000B
      else if !s.slotValid n then s.refuse o 0x0002
      else if n ≤ 105 ∧ rankMissing (s.slot n).attr o.port then s.respond o cRank []
      else s.needsCrypto o fun s =>
        let text := s.provenance n (slice o.payload 4 32)
        let (k, s) := s.generate 48
        s.done o (text ++ sign sEcdsa384 96 (s.slotKey 122) (sha (ascii "TXI-PRV" ++ text)) k)))

/-! ## The Swirl -/

/-- A new Swirl exponent: it takes effect from the next edge that is a multiple of 2^n (R288, R291). -/
def State.setSwirl (n : Nat) (s : State) : State :=
  s.modFlc fun f => { f with swirlExp := n, swirlFrom := nextTick (2 ^ n) s.now }

/-- KEY.SET_SWIRL (R291, R299). -/
def execKeySetSwirl (r : Req) (s : State) : Out :=
  .next (s.command 0x5006 r (fun o s =>
    let n := byteAt o.payload 0
    s.formedBy o 4 [(decide (n < 16 ∨ 24 < n), 0)] [(1, 3)] fun s =>
      let s := s.setSwirl n
      s.done o (le 8 s.flc.swirlFrom)))

/-- One slot re-masked: both shares take the same fresh mask (R288). -/
def Slot.remask (m : Bytes) (k : Slot) : Slot :=
  { k with shareA := xorBytes (sized 64 k.shareA) m, shareB := xorBytes (sized 64 k.shareB) m }

/-- The mask of slot `k` of a pass whose random bytes begin at `base`. -/
def passMask (base k : Nat) : Bytes := fit 64 fun i => Config.randomByte (base + 64 * k + i)

/-- SWIRL_PASS: on a multiple of 2^n every slot is re-masked, filled or empty (R288, R289); the generator is reseeded when the
DRBG delivers, by a request of a length the manual leaves open, else MASK_STALE is set and logged once (R290). -/
def execSwirlPass (s : State) : Out :=
  let n := if ceilDiv s.now (2 ^ s.flc.swirlRun) * 2 ^ s.flc.swirlRun < s.flc.swirlFrom then s.flc.swirlRun else s.flc.swirlExp
  let s := s.atTick (2 ^ n)
  let base := s.random
  let stale := !s.drbgReady
  let s := if stale ∧ !s.flc.maskStale then s.event 2 0 0x0304 else s
  let s := { s with random := base + 64 * 128 }
  let s := if stale then s else
    let (k, s) := s.freeVal
    (s.generate (k % 4097)).2
  .next (s.modFlc fun f =>
    { f with slots := (List.range 128).map (fun k => (k, (tget ({} : Slot) f.slots k).remask (passMask base k))),
             maskStale := stale, swirlRun := n, passes := (f.passes + 1) % 65536 })

end Sys2Proof.Machine
end

