-- ==== Sys2Proof/Machine/Sillage.lean ====
section
/-! DEFINITION. The Sillage: records, commit, chain, batches, subscriptions and alerts (chapter 20). -/

namespace Sys2Proof.Machine

/-! ## Records -/

/-- The names of Table 20.2 marked (A). -/
def alertCodes : List Nat :=
  [0x0006, 0x000A, 0x000B, 0x0103, 0x0106, 0x0107, 0x0202, 0x0204, 0x0205, 0x0207, 0x0303, 0x0304, 0x0404, 0x050A, 0x0604, 0x0605,
   0x0708, 0x070F, 0x0906, 0x0A06, 0x0A07, 0x0A08, 0x0B05, 0x0C03, 0x0D01, 0x0D03]

/-- The names of Table 20.2 marked (C). -/
def criticalCodes : List Nat := [0x0007, 0x0009, 0x0203, 0x0405, 0x0905, 0x0D04]

/-- The severity of an event code: the mark of its name, else the default of its class (R701). -/
def severity (code : Nat) : Nat :=
  if code ∈ alertCodes then 2
  else if code ∈ criticalCodes then 3
  else if code / 256 = 1 then 3
  else if code / 256 ∈ [3, 5, 7, 8, 9] then 0
  else 1

/-- FLAGS of a record (Table 20.1). -/
def Rec.flags (r : Rec) : Nat :=
  b2n r.late + 2 * b2n r.superseded + 4 * b2n r.vault + 8 * b2n r.summary + 16 * severity r.code + 64 * b2n r.lateEntry

/-- The 32 bytes of a record (Table 20.1). -/
def Rec.bytes (seq : Nat) (r : Rec) : Bytes :=
  le 8 (baton r.cycle r.slot) ++ le 4 seq ++ le 2 r.code ++ le 1 r.flags ++ zeros 1 ++ le 2 r.source ++ le 2 r.arg0 ++ le 4 r.arg1 ++ le 8 r.arg2

/-- The place of a record under R70, as numbers compared in order. -/
def Rec.place (r : Rec) : List Nat :=
  [b2n (!r.vault), if r.vault then r.arg2 else r.cycle, r.slot, r.source, b2n r.late + b2n r.superseded, r.code]

/-- The first list stands before the second, element by element. -/
def placeBefore : List Nat → List Nat → Bool
  | a :: as, b :: bs => if a = b then placeBefore as bs else a < b
  | _, _ => false

/-- A record put in its place among others in order (R70). -/
def insertRec (r : Rec) : List Rec → List Rec
  | [] => [r]
  | x :: xs => if placeBefore r.place x.place then r :: x :: xs else x :: insertRec r xs

/-! ## Alerts (section 7) -/

/-- A latched alert code is set (R715). -/
def State.alert (index : Nat) (s : State) : State := s.modLog fun l => { l with latched := l.latched ||| 2 ^ index }

/-- Keeper firmware was refused (R339). -/
def State.kfRefused (s : State) : Bool := s.fus.romOnly && !bit s.fus.region 4 && decide (s.lifecycle ≠ 5)

/-- A junction stands above its limit (R690). -/
def State.thermal (s : State) : Bool := s.pwr.readings.any fun x => x.1 % 16 = 0 ∧ x.2.high

/-- The Steward core is held, by R52 or by its verdict after step 7 (R345). -/
def State.stewardFault (s : State) : Bool := s.cores.steward = .held

/-- KPR.LOG_ALERT.ACTIVE: the active codes by index of Table 20.5. -/
def State.alertActive (s : State) : Nat :=
  maskOf 18 fun k =>
    if k = 0 then s.vlt.dqSeen
    else if k = 1 then s.vlt.redFlag
    else if k ≤ 5 then bit s.log.latched k
    else if k = 6 then s.stewardFault
    else if k = 7 then 2 ≤ s.cry.es
    else if k = 8 then s.thermal
    else if k = 9 then s.vlt.vresFault
    else if k = 10 then s.frm.noFormula
    else if k ≤ 14 then s.fus.hold && bit s.fus.region (k - 11)
    else if k = 15 then s.fus.hold && s.fus.sense
    else if k = 16 then bit s.fus.region 4
    else s.kfRefused

/-- The codes of Table 20.5 by index. -/
def alertCodeList : List Nat :=
  [0x11, 0x12, 0x13, 0x14, 0x21, 0x22, 0x23, 0x24, 0x25, 0x26, 0x27, 0x31, 0x32, 0x33, 0x34, 0x35, 0x36, 0x37]

/-- The active code of lowest value, 0 for none. -/
def State.lowestAlert (s : State) : Nat :=
  ((List.range 18).find? fun k => bit s.alertActive k).elim 0 fun k => alertCodeList.getD k 0

/-- KPR.LOG_ALERT. -/
def State.logAlert (s : State) : Nat := s.alertActive + 2 ^ 24 * s.log.shown

/-- Units of 600 000 cycles that ALERTn is low and then released, for the start and each code bit from the top (R716). -/
def pulseTrain (code : Nat) : List (Nat × Nat) :=
  (4, 1) :: (List.range 8).map fun i => if bit code (7 - i) then (3, 1) else (1, 1)

/-- Whether a pulse train is low at a unit from its start. -/
def trainLow : List (Nat × Nat) → Nat → Bool
  | [], _ => false
  | (low, off) :: rest, u => if u < low then true else if u < low + off then false else trainLow rest (u - low - off)

/-- The ALERTn pin is driven low (R716): released before cycle 0 and in VAULT. -/
def State.alertnLow (s : State) : Bool :=
  s.clk.running && decide (s.log.shown ≠ 0) && trainLow (pulseTrain s.log.shown) ((s.now - s.log.frameStart) / 600000)

/-- PANELn is driven low exactly while the Red flag latch is set (R717). -/
def State.panelnLow (s : State) : Bool := s.vlt.redFlag

/-- ALERT_FRAME_START: a frame begins on a multiple of 28 800 000 and shows the lowest active code (R716, R722). -/
def execAlertFrameStart (s : State) : Out :=
  .next (if s.clk.running then
      let s := s.atTick 28800000
      s.modLog fun l => { l with shown := s.lowestAlert, frameStart := s.now }
    else s)

/-! ## Batches and seals (section 3) -/

/-- Records in the open batch. -/
def Sillage.openCount (l : Sillage) : Nat := l.nextSeq - l.openFirst

/-- The record with a SEQ that the ring holds. -/
def Sillage.find (l : Sillage) (seq : Nat) : Option Rec := (l.ring.find? fun x => x.1 = seq).map Prod.snd

/-- The seal block of a batch without its signature: bytes 0 to 95 of Table 20.3. -/
def State.sealHead (b : Batch) (s : State) : Bytes :=
  ascii "TXSL" ++ [1] ++ le 1 (b2n b.unsigned) ++ le 2 b.count ++ le 4 s.log.bootCount ++ le 4 b.firstSeq ++ le 8 b.firstBaton
    ++ le 8 b.lastBaton ++ s.devid ++ sized 48 b.chain

/-- The seal block (Table 20.3): its signature zero when UNSIGNED. -/
def State.sealBlock (b : Batch) (s : State) : Bytes := s.sealHead b ++ if b.unsigned then zeros 96 else sized 96 b.signature

/-- The open batch sealed on the present edge; a batch without records is never sealed (R706, R707). -/
def State.sealBatch (s : State) : State :=
  let l := s.log
  if l.openCount = 0 then s
  else
    let mark (seq : Nat) : Nat := match l.find seq with | some r => baton r.cycle r.slot | none => 0
    let signs := s.domainOn dCrypto && s.slotValid 122
    let b : Batch := { firstSeq := l.openFirst, count := l.openCount, firstBaton := mark l.openFirst, lastBaton := mark (l.nextSeq - 1),
                       prevChain := l.openPrev, chain := l.chain, unsigned := !signs, signing := signs }
    let s := s.modLog fun l => { l with sealed := l.sealed ++ [b], last := some b, openFirst := l.nextSeq, openPrev := l.chain }
    if signs then s.keeperJob (.batchSeal b.firstSeq) else s

/-- BATCH_SEAL_TIMEOUT: 2^32 cycles after the commit of its first record the open batch is sealed (R706). -/
def execBatchSealTimeout (s : State) : Out :=
  .next (if s.log.openCount = 0 then s else (s.advanceTo (s.log.openSince + 2 ^ 32)).sealBatch)

/-! ## Entry and commit (section 2, section 4) -/

/-- The store is in use (R708, R709, R711): Warden R is declared and the store has not stopped. -/
def State.storeInUse (s : State) : Bool := s.hasSect 0x03 4 && !s.log.store.stopped

/-- SEQs of the oldest record that is not free: a record is free once its batch is persisted, or sealed where no store is in
use (R708). -/
def State.oldestKept (s : State) : Nat :=
  if s.storeInUse then ((s.log.sealed.find? fun b => !b.persisted).map Batch.firstSeq).getD s.log.openFirst else s.log.openFirst

/-- Ring places that are not free. -/
def State.ringUsed (s : State) : Nat := s.log.nextSeq - s.oldestKept

/-- Free ring places of 2048. -/
def State.ringFree (s : State) : Nat := 2048 - s.ringUsed

/-- The oldest sealed batch is overwritten whole when space is needed, counted when it was not persisted (R708). -/
def State.makeRoom (s : State) : State :=
  if s.log.ring.length < 2048 then s
  else match s.log.sealed with
  | [] => s
  | b :: rest =>
    let keep (x : Nat × Rec) : Bool := b.firstSeq + b.count ≤ x.1
    s.modLog fun l => { l with ring := l.ring.filter keep, sealed := rest,
                               entry := { l.entry with discarded := if b.persisted then l.entry.discarded else satInc 1023 l.entry.discarded } }

/-- CHAIN at the commit of SEQ 0 (R705). -/
def State.chainStart (s : State) : Bytes := sha (ascii "TXI-SIL" ++ s.devid ++ le 4 s.log.bootCount)

/-- A subscription takes a committed record that is due to it, and keeps at most 64 (R713, R714). -/
def Subscription.take (now seq : Nat) (r : Rec) (u : Subscription) : Subscription :=
  if bit u.mask (r.code / 256) ∧ u.minSev ≤ severity r.code ∧ u.since < now then
    if u.due.length < 64 then { u with due := u.due ++ [(seq, r)] } else { u with skipped := satInc 255 u.skipped }
  else u

/-- A record takes the next SEQ, is chained and placed in the ring, and joins the open batch; the 120th seals it (R702, R705,
R706). -/
def State.placeRec (r : Rec) (s : State) : State :=
  let s := s.makeRoom
  let seq := s.log.nextSeq
  let before := if seq = 0 then s.chainStart else s.log.chain
  let first := s.log.openCount = 0
  let take := Subscription.take s.now seq r
  let s := s.modLog fun l =>
    { l with ring := l.ring ++ [(seq, r)], nextSeq := seq + 1, chain := sha (before ++ r.bytes seq),
             openSince := if first then s.now else l.openSince, openPrev := if first then before else l.openPrev,
             subs := l.subs.map take }
  if s.log.openCount = 120 then s.sealBatch else s

/-- The OVERFLOW record that precedes the next committed record (R708). -/
def State.overflowRec (s : State) : Rec :=
  let e := s.log.entry
  { cycle := s.now, slot := 2, source := 0, code := 0x0D01, arg0 := min 65535 e.dropHeld,
    arg1 := min 65535 e.dropLow + 65536 * min 65535 e.dropHigh, arg2 := e.dropFirst }

/-- A record dropped, counted by its severity (R708). -/
def State.dropRec (held : Bool) (r : Rec) (s : State) : State :=
  s.modLog fun l =>
    let e := l.entry
    let none := e.dropHeld + e.dropLow + e.dropHigh = 0
    let high := 2 ≤ severity r.code
    { l with entry := { e with dropFirst := if none then baton r.cycle r.slot else e.dropFirst,
                               dropHeld := e.dropHeld + b2n held,
                               dropLow := e.dropLow + b2n (!held && !high), dropHigh := e.dropHigh + b2n (!held && high),
                               low := if high then e.low else satInc 4095 e.low, high := if high then satInc 1023 e.high else e.high } }

/-- A record is committed, or dropped when the ring lacks room for its severity (R708). -/
def State.commitRec (r : Rec) (s : State) : State :=
  let free := s.ringFree
  if free = 0 ∨ (free ≤ 64 ∧ severity r.code < 2) then s.dropRec false r
  else
    let e := s.log.entry
    let s := if 64 < free ∧ e.dropHeld + e.dropLow + e.dropHigh ≠ 0 then
        (s.placeRec s.overflowRec).modLog fun l =>
          { l with entry := { l.entry with dropHeld := 0, dropLow := 0, dropHigh := 0, dropFirst := 0 } }
      else s
    let later (x : Option Rec) : Option Rec := match x with
      | none => some r
      | some y => if placeBefore y.place r.place then some r else some y
    (s.placeRec r).modLog fun l => { l with entry := { l.entry with latest := later l.entry.latest } }

/-- A record enters: it is held, or committed at once with LATE_ENTRY when one of a later place has been committed (R702). A
forced door's alert code becomes active (R715). -/
def State.enterRec (r : Rec) (s : State) : State :=
  let s := if r.code = 0x0A06 then s.alert 3 else s
  let e := s.log.entry
  let isLate := match e.latest with | some x => placeBefore r.place x.place | none => false
  if !e.begun then
    if 256 ≤ e.held.length then s.dropRec true r
    else s.modLog fun l => { l with entry := { l.entry with held := insertRec r l.entry.held } }
  else if isLate then s.commitRec { r with lateEntry := true }
  else s.modLog fun l => { l with entry := { l.entry with held := insertRec r l.entry.held } }

/-- Every record whose entry edge has come enters. -/
def State.enterDue (s : State) : State :=
  let due := s.log.entry.flight.filter fun x => x.1 ≤ s.now
  let s := s.modLog fun l => { l with entry := { l.entry with flight := l.entry.flight.filter fun x => s.now < x.1 } }
  due.foldl (fun s x => s.enterRec x.2) s

/-- The lowest number of a list. -/
def lowest : List Nat → Option Nat
  | [] => none
  | x :: xs => match lowest xs with | none => some x | some y => some (min x y)

/-- RECORD_ENTRY: the next record on its way reaches the Keeper, on its entry edge (R702). -/
def execRecordEntry (s : State) : Out :=
  .next (match lowest (s.log.entry.flight.map Prod.fst) with
    | none => s
    | some e => (s.advanceTo e).enterDue)

/-- Every held record 2048 cycles old is committed in its order (R702). -/
def State.commitDue (s : State) : State :=
  let isDue (r : Rec) : Bool := r.vault || decide (r.cycle + 2048 ≤ s.now)
  let due := s.log.entry.held.filter isDue
  let s := s.modLog fun l => { l with entry := { l.entry with held := l.entry.held.filter fun r => !isDue r } }
  due.foldl (fun s r => s.commitRec r) s

/-- RECORD_COMMIT: the next commit edge: records that enter on it go before, then every record 2048 cycles old is committed
(R702, R719). Before the gun nothing is committed. -/
def execRecordCommit (s : State) : Out :=
  .next (if s.log.entry.begun then
      match lowest (s.log.entry.held.map Rec.cycle) with
      | none => s
      | some c => ((s.advanceTo (c + 2048)).enterDue).commitDue
    else s)

/-- Commit begins, on the gun edge or with no-Formula operation: the held records in the order of R703, the BOOT record after the
imported ones with the Vault tick count read now and the boot count. -/
def State.beginCommit (s : State) : State :=
  if s.log.entry.begun then s
  else
    let s := s.enterDue
    let held := s.log.entry.held
    let boot := (held.filter fun r => r.code = 1).map fun r => { r with arg1 := s.log.bootCount, arg2 := s.vlt.tick }
    let order := held.filter Rec.vault ++ boot ++ held.filter fun r => !r.vault && decide (r.code ≠ 1)
    let s := s.modLog fun l => { l with entry := { l.entry with held := [], begun := true } }
    order.foldl (fun s r => s.commitRec r) s

/-! ## Signatures -/

/-- A batch with its signature, or UNSIGNED when its job stopped (R707). -/
def Batch.signed (first : Nat) (sig : Option Bytes) (b : Batch) : Batch :=
  if b.firstSeq = first then
    match sig with
    | some x => { b with signature := x, signing := false }
    | none => { b with unsigned := true, signing := false }
  else b

/-- The LOG.SEAL commands that wait for a batch get its block (LOG.SEAL). -/
def State.answerSeals (first : Nat) (s : State) : State :=
  match s.log.last with
  | none => s
  | some b =>
    let ready := s.log.waiters.filter fun w => w.2.2.2 = first
    let s := s.modLog fun l => { l with waiters := l.waiters.filter fun w => w.2.2.2 ≠ first }
    let batch := ((s.log.sealed.find? fun x => x.firstSeq = first)).getD b
    ready.foldl (fun s w => s.respondRef { port := w.1, session := w.2.1, tag := w.2.2.1 } cOk (s.sealBlock batch)) s

/-- The seal signature job of a batch ends. -/
def State.endSeal (first : Nat) (sig : Option Bytes) (s : State) : State :=
  let s := match s.cry.jobs.find? fun x => x.2.work = some (KeeperWork.batchSeal first) with
    | some x => s.freeJob x.1
    | none => s.modCry fun c => { c with waiting := c.waiting.filter fun w => decide (w ≠ KeeperWork.batchSeal first) }
  let s := s.modLog fun l => { l with sealed := l.sealed.map (Batch.signed first sig), last := l.last.map (Batch.signed first sig) }
  s.answerSeals first

/-- The signature job of a batch holds a job slot or waits for one (R302, R303). -/
def State.sealStands (first : Nat) (s : State) : Bool :=
  (s.cry.jobs.any fun x => x.2.work = some (KeeperWork.batchSeal first)) || s.cry.waiting.contains (KeeperWork.batchSeal first)

/-- Every seal whose signature job was stopped is UNSIGNED (R303, R707). -/
def State.dropSeals (s : State) : State :=
  (s.log.sealed.filter fun b => b.signing && !s.sealStands b.firstSeq).foldl (fun s b => s.endSeal b.firstSeq none) s

/-- The claim timer of CRYPTO ends: every running job stops (R320, R328). -/
def State.cryptoTimerEnds (s : State) : State :=
  if s.draining dCrypto ∧ (s.domain dCrypto).drop.isNone then
    let s := (s.advanceTo (s.domain dCrypto).timer).cryptoAbort.dropSeals
    s.modPwr fun p =>
      let d := tget {} p.domains dCrypto
      { p with domains := tset {} p.domains dCrypto { d with reachedT := true, drop := some (s.now + 17) } }
  else s

/-- CRYPTO_CLAIM_TIMEOUT. -/
def execCryptoClaimTimeout (s : State) : Out := .next s.cryptoTimerEnds

/-- SEAL_SIGNED: the oldest signature job in progress ends, with the ALIAS signature, or stopped (R707); a signature that the
DRBG cannot serve does not complete (R326; log entry 11). -/
def execSealSigned (stopped : Bool) (s : State) : Out :=
  .next (match s.log.sealed.find? Batch.signing with
    | none => s
    | some b =>
      if stopped || !s.slotValid 122 || !s.drbgReady then s.endSeal b.firstSeq none
      else
        let (k, s) := s.generate 48
        s.endSeal b.firstSeq (some (sign sEcdsa384 96 (s.slotKey 122) (sha (ascii "TXI-SLS" ++ s.sealHead b)) k)))

/-! ## Reading and subscribing -/

/-- KPR.LOG_STAT. -/
def State.logStat (s : State) : Nat :=
  min 2048 s.ringUsed + 2 ^ 12 * b2n s.storeInUse + 2 ^ 13 * b2n s.log.store.stopped + 2 ^ 14 * b2n (s.log.sealed.any Batch.signing)
    + 2 ^ 16 * s.log.openCount

/-- KPR.LOG_DROP. -/
def State.logDrop (s : State) : Nat := s.log.entry.low + 2 ^ 12 * s.log.entry.high + 2 ^ 22 * s.log.entry.discarded

/-- LOG.READ (R712). -/
def execLogRead (r : Req) (s : State) : Out :=
  .next (s.command 0xA000 r (fun o s =>
    let count := u16 o.payload 4
    s.formedBy o 8 [(decide (count = 0 ∨ 120 < count), 4)] [(6, 2)] fun s =>
      let oldest := match s.log.ring with | [] => s.log.nextSeq | x :: _ => x.1
      let first := max (u32 o.payload 0) oldest
      let recs := (s.log.ring.filter fun x => first ≤ x.1).take count
      s.done o (le 4 s.log.nextSeq ++ le 4 oldest ++ le 4 s.log.bootCount ++ le 2 recs.length ++ zeros 2
        ++ recs.flatMap fun x => x.2.bytes x.1)))

/-- LOG.SEAL (R706, R720). -/
def execLogSeal (r : Req) (s : State) : Out :=
  .next (s.command 0xA002 r (fun o s =>
    s.wellFormed o 0 [] fun s =>
      let s := s.sealBatch
      match s.log.last with
      | none => s.done o (zeros 192)
      | some b =>
        if b.signing then s.modLog fun l => { l with waiters := l.waiters ++ [(o.port, o.session, o.tag, b.firstSeq)] }
        else s.done o (s.sealBlock b)))

/-- LOG.GET_HEAD (R712). -/
def execLogGetHead (r : Req) (s : State) : Out :=
  .next (s.command 0xA003 r (fun o s =>
    s.wellFormed o 0 [] fun s =>
      s.done o (le 4 s.logStat ++ le 4 s.log.nextSeq ++ le 4 s.log.bootCount ++ le 4 ((s.log.last.map Batch.firstSeq).getD 0)
        ++ sized 48 s.log.chain ++ le 4 s.log.store.lastSsn ++ le 4 s.logDrop ++ le 4 s.logAlert ++ zeros 4)))

/-- A subscription of a port or session ends (R713). -/
def State.unsubscribe (p : Port) (session : Nat) (s : State) : State :=
  s.modLog fun l => { l with subs := l.subs.filter fun u => !(u.port = p ∧ u.session = session) }

/-- LOG.SUBSCRIBE (R713). -/
def execLogSubscribe (r : Req) (s : State) : Out :=
  .next (s.command 0xA004 r (fun o s =>
    s.wellFormed o 4 [] fun s =>
      let mask := u16 o.payload 0
      let sev := byteAt o.payload 2
      if 2 ^ 14 ≤ mask then s.malformed o 0
      else if 3 < sev then s.malformed o 2
      else if byteAt o.payload 3 ≠ 0 then s.malformed o 3
      else
        let s := s.unsubscribe o.port o.session
        if mask = 0 then s.done o (zeros 4)
        else
          let u : Subscription := { port := o.port, session := o.session, tag := o.tag, number := s.log.nextSub, mask := mask,
                                    minSev := sev, since := o.edge }
          (s.modLog fun l => { l with subs := l.subs ++ [u], nextSub := l.nextSub + 1 }).done o (le 4 u.number)))

/-- A delivery of a subscription waits in the Keeper for its answer path (R714). -/
def State.deliveryWaits (u : Subscription) (s : State) : Bool :=
  let is (f : Frame) : Bool := f.opcode = 0xA004 ∧ f.tag = u.tag ∧ bit f.flags 1
  match u.port with
  | .mb0 => s.mb.notices.any is
  | .stw => s.stw.waiting.any is
  | _ => false

/-- SUBSCRIPTION_DELIVERY: due records go out as a notice that belongs to no ticket (R714). -/
def execSubscriptionDelivery (port : Port) (session : Nat) (s : State) : Out :=
  .next (match s.log.subs.find? fun u => u.port = port ∧ u.session = session with
    | none => s
    | some u =>
      if u.due.isEmpty ∨ s.deliveryWaits u then s
      else
        let payload := le 4 u.number ++ le 1 u.due.length ++ le 1 u.skipped ++ zeros 2 ++ u.due.flatMap fun x => x.2.bytes x.1
        let clear (x : Subscription) : Subscription := if x.number = u.number then { x with due := [], skipped := 0 } else x
        (s.modLog fun l => { l with subs := l.subs.map clear }).notice port session
          { opcode := 0xA004, flags := 3, status := cOk, tag := u.tag, payload := payload })

/-- LOG.CLEAR_ALERT (R721). -/
def execLogClearAlert (r : Req) (s : State) : Out :=
  .next (s.command 0xA005 r (fun o s =>
    s.wellFormed o 4 [(1, 3)] fun s =>
      let code := byteAt o.payload 0
      let index := alertCodeList.idxOf code
      let latchedKind := decide (2 ≤ index) && decide (index ≤ 5)
      s.checks o [(decide (index < 18) && !latchedKind, 0x0002), (!latchedKind || !bit s.log.latched index, 0x0001)] fun s =>
        let s := s.modLog fun l => { l with latched := l.latched - 2 ^ index }
        (s.event 2 0 0x0D05 code).done o (le 4 s.logAlert)))

end Sys2Proof.Machine
end

