-- ==== Sys2Proof/Machine/Ports.lean ====
section
/-! DEFINITION. The mailbox, the service port, the Steward port, bulk transfers, timers and the port commands (chapter 3). -/

namespace Sys2Proof.Machine

/-! ## Discards -/

/-- A frame discarded at step 1 of Table 3.4 is logged (R100). -/
def State.logDiscard (p : Port) (session : Nat) (opcode : Nat) (s : State) : State :=
  s.event p.slot (portSource p session) 0x0503 opcode

/-- A frame discarded because an expiry on its edge came first (R118, R124, R147). -/
def State.logDiscardLate (p : Port) (session : Nat) (opcode : Nat) (s : State) : State :=
  s.eventLate p.slot (portSource p session) 0x0503 opcode

/-- A discard on MB0 counts in the STATUS byte and in one field of KPR.MB_ERR. -/
def State.mbDiscard (f : Mailbox → Mailbox) (s : State) : State :=
  s.modMb fun m => { (f m) with discards := satInc 255 m.discards }

def Mailbox.crcFault (m : Mailbox) : Mailbox := { m with errCrc := satInc 255 m.errCrc }
def Mailbox.abortFault (m : Mailbox) : Mailbox := { m with errAbort := satInc 255 m.errAbort }
def Mailbox.notReady (m : Mailbox) : Mailbox := { m with errNotReady := satInc 255 m.errNotReady }
def Mailbox.otherFault (m : Mailbox) : Mailbox := { m with errOther := satInc 255 m.errOther }

/-! ## EXT forwarding -/

/-- A forwarded frame takes an unreserved entry of the Keeper queue, or waits (R128). -/
def State.queueSteward (f : Frame) (s : State) : State :=
  if s.stw.waiting.isEmpty ∧ s.stwUnreserved < 32 then s.modStw fun q => { q with queue := q.queue ++ [f] }
  else s.modStw fun q => { q with waiting := q.waiting ++ [f] }

/-- An EXT command goes to the Steward under a fresh forward number, or is refused (R130, R193). -/
def State.forwardExt (o : Outstanding) (s : State) : State :=
  if s.featureOff 6 then s.refuse o 0x00FE
  else if !s.stewardOn then s.refuse o 0x0001
  else
    let n := s.stw.nextForward % 65536
    let fwd : Forward := { number := n, port := o.port, session := o.session, tag := o.tag, opcode := o.opcode }
    let s := s.modStw fun q => { q with nextForward := q.nextForward + 1, forwards := q.forwards ++ [fwd] }
    s.queueSteward { opcode := o.opcode, flags := 16, status := 0, tag := n, payload := o.payload }

/-- A forward ends: it is known no longer. -/
def State.endForward (n : Nat) (s : State) : State :=
  s.modStw fun q => { q with forwards := q.forwards.filter fun x => x.number ≠ n }

/-- A forwarded frame that has not entered the ring is withdrawn (R128). -/
def State.withdrawForward (n : Nat) (s : State) : State :=
  let keep (f : Frame) : Bool := !(bit f.flags 4 && decide (f.tag = n))
  (s.endForward n).modStw fun q => { q with queue := q.queue.filter keep, waiting := q.waiting.filter keep }

/-- The Steward's FWD answer completes the original command on its port (R130); on or after its terminal edge it comes too late
(R147). -/
def State.extAnswered (opcode number status : Nat) (payload : Bytes) (s : State) : State :=
  match s.stw.forwards.find? fun x => x.number = number ∧ x.opcode = opcode with
  | none => s.logDiscard .stw 0 opcode
  | some f =>
    match s.findOut f.port f.session f.tag with
    | none => (s.endForward number).logDiscard .stw 0 opcode
    | some o =>
      if o.deadline ≤ s.now then ((s.endForward number).expire o).logDiscardLate .stw 0 opcode
      else (s.endForward number).respond o status payload

/-- EXT_ANSWER. -/
def execExtAnswer (opcode forward status : Nat) (payload : Bytes) (s : State) : Out :=
  .next (s.extAnswered opcode forward status payload)

/-- EXT_COMMAND. -/
def execExtCommand (opcode : Nat) (r : Req) (s : State) : Out :=
  .next (if isExt opcode then s.command opcode r (fun o s => s.forwardExt o) else s)

/-- A frame that passed steps 1 and 2 is received; an EXT command is forwarded at once (R100, R130). -/
def State.receive (p : Port) (session : Nat) (f : Frame) (s : State) : State :=
  match s.accept p session f with
  | (s, none) => s
  | (s, some o) =>
    if isExt o.opcode then (s.setOut { o with progress := .begun }).forwardExt { o with progress := .begun } else s

/-! ## MB0 -/

/-- A frame's byte count is 12 + LENGTH (R100, R111). -/
def frameLengthOk (d : Bytes) : Bool := 12 ≤ d.length ∧ d.length = 12 + u16 d 4

/-- The frame a WRITE carried takes effect at select release (R111). -/
def State.mb0Frame (data : Bytes) (extraBits : Nat) (s : State) : State :=
  if extraBits % 8 ≠ 0 ∨ !frameLengthOk data then (s.mbDiscard Mailbox.abortFault).logDiscard .mb0 0 (u16 data 0)
  else if !crcPasses data then (s.mbDiscard Mailbox.crcFault).logDiscard .mb0 0 (u16 data 0)
  else if s.mb0Free = 0 then s.mbDiscard Mailbox.notReady
  else s.receive .mb0 0 (Frame.ofBytes (data.take (data.length - 4)))

/-- MB0_WRITE (R110, R111, R117). -/
def execMb0Write (transaction : Byte) (data : Bytes) (extraBits : Nat) (s : State) : Out :=
  .next (if transaction = 0x02 ∨ transaction = 0x32 then
      if !s.mb.isOpen then
        (s.mbDiscard Mailbox.notReady).modMb fun m => { m with drove0 := List.replicate data.length 0xB7 }
      else
        let drive : Bytes := if transaction = 0x02 then List.replicate data.length (if 0 < s.mb0Free then 0x5A else 0xB7) else []
        (s.modMb fun m => { m with drove0 := drive }).mb0Frame data extraBits
    else s.modMb fun m => m.otherFault)

/-- What a READ drives: the marker and the frame, then zeros; or the idle byte (R113). -/
def readBytes (frame : Option Bytes) (idle : Byte) (clocked : Nat) : Bytes :=
  match frame with
  | none => List.replicate clocked idle
  | some f => ((0x5A : Byte) :: f ++ zeros clocked).take clocked

/-- MB0_READ: `clocked` bytes after the dummy clocks (R113, R114). -/
def execMb0Read (clocked : Nat) (s : State) : Out :=
  .next (if !s.mb.isOpen then s.modMb fun m => { m with drove0 := List.replicate clocked 0xB7 }
    else match s.mb.queue with
    | [] => s.modMb fun m => { m with drove0 := readBytes none 0xB7 clocked }
    | f :: rest =>
      let text := withCrc f.bytes
      s.modMb fun m =>
        { m with drove0 := readBytes (some text) 0xB7 clocked, queue := if 1 + text.length ≤ clocked then rest else f :: rest })

/-- MB_RDYn is driven low (R114). -/
def State.mbRdynLow (s : State) : Bool := s.mb.isOpen && !s.mb.queue.isEmpty

/-- MB0_STATUS (R115). -/
def execMb0Status (s : State) : Out :=
  .next (if !s.mb.isOpen then s.modMb fun m => { m with drove0 := List.replicate 4 0xB7 }
    else
      let b0 := 1 + 2 * b2n (decide (0 < s.mb0Free)) + 4 * b2n (!s.mb.queue.isEmpty) + 8 * b2n (decide (0 < s.mb.discards))
      let bs := le 1 b0 ++ le 1 s.mb.queue.length ++ le 1 (s.outCount .mb0 0) ++ le 1 s.mb.discards
      s.modMb fun m => { m with drove0 := bs, discards := 0 })

/-- SELECT_CLASH (R109). -/
def execSelectClash (s : State) : Out := .next (s.modMb fun m => m.otherFault)

/-- MB0_NOTICE_ENQUEUE (R112). -/
def execMb0NoticeEnqueue (s : State) : Out :=
  .next (match s.mb.notices with
    | [] => s
    | f :: rest => if 0 < s.mb0Free then s.modMb fun m => { m with notices := rest, queue := m.queue ++ [f] } else s)

/-! ## Bulk transfers -/

/-- The open transfer of a port or session in a direction. -/
def State.transfer (p : Port) (session : Nat) (inbound : Bool) (s : State) : Option Bulk :=
  s.paths.bulks.find? fun b => b.port = p ∧ b.session = session ∧ b.inbound = inbound

/-- A transfer rewritten in place. -/
def State.setTransfer (b : Bulk) (s : State) : State :=
  let put (x : Bulk) : Bulk := if x.port = b.port ∧ x.session = b.session ∧ x.inbound = b.inbound then b else x
  s.modPaths fun q => { q with bulks := q.bulks.map put }

/-- MB1 carries the bulk frames of MB0 (R116). -/
def State.mb1In (s : State) : Bool := (s.transfer .mb0 0 true).isSome

/-- MB1_WRITE (R116, R117). -/
def execMb1Write (transaction : Byte) (data : Bytes) (extraBits : Nat) (s : State) : Out :=
  .next (if transaction = 0x02 ∨ transaction = 0x32 then
      let s := s.modMb fun m => { m with drove1 := if transaction = 0x02 then zeros data.length else [] }
      if !s.mb.isOpen ∨ !s.mb1In ∨ s.mb.slot.isSome then s.modMb fun m => m.notReady
      else if extraBits % 8 ≠ 0 then (s.modMb fun m => m.abortFault).logDiscard .mb1 0 0
      else s.modMb fun m => { m with slot := some data }
    else s.modMb fun m => m.otherFault)

/-- An outbound bulk frame has been consumed: the next is staged, and the transfer ends with its last (R107, R108). -/
def State.consumeOut (p : Port) (session : Nat) (s : State) : State :=
  match s.transfer p session false with
  | none => s
  | some b =>
    let s := match p, b.staged with
      | .svc, some f => s.modSvc fun v => { v with sent := svcPack 1 f }
      | .cus, some f =>
        let m (c : Custody) : CustodyOut := { session := session, type := 0x10, body := 1 :: f, address := (tget ({} : Session) c.sessions session).address }
        s.modCus fun c => { c with out := c.out ++ [m c] }
      | _, _ => s
    if b.data.isEmpty then s.closeBulk p session false
    else s.setTransfer { b.next with deadline := s.now + bulkIdle }

/-- MB1_READ (R116): the staged frame is consumed when the host clocked all of it. -/
def execMb1Read (clocked : Nat) (s : State) : Out :=
  .next (match s.mb.isOpen, (s.transfer .mb0 0 false).bind Bulk.staged with
    | true, some f =>
      let s := s.modMb fun m => { m with drove1 := readBytes (some f) 0 clocked }
      if 1 + f.length ≤ clocked then s.consumeOut .mb0 0 else s
    | _, _ => s.modMb fun m => { m with drove1 := zeros clocked })

/-- MB1_STATUS (R116). -/
def execMb1Status (s : State) : Out :=
  .next (if !s.mb.isOpen then s.modMb fun m => { m with drove1 := zeros 4 }
    else
      let b0 := 1 + 2 * b2n (s.mb1In && s.mb.slot.isNone) + 4 * b2n (((s.transfer .mb0 0 false).bind Bulk.staged).isSome)
      let seq := match s.transfer .mb0 0 true with | some b => b.seq | none => 0
      s.modMb fun m => { m with drove1 := le 1 b0 ++ zeros 1 ++ le 2 seq })

/-- The inbound bulk frame that waits on a port, taken from its slot. -/
def State.takeSlot (p : Port) (session : Nat) (s : State) : Option Bytes × State :=
  match p with
  | .mb0 | .mb1 => (s.mb.slot, s.modMb fun m => { m with slot := none })
  | .svc => (s.svc.slots.head?, s.modSvc fun v => { v with slots := v.slots.drop 1 })
  | .cus => (tfind s.cus.slots session, s.modCus fun c => { c with slots := tdel c.slots session })
  | _ => (none, s)

/-- A discarded bulk frame is counted in its port's counter and logged (R106). -/
def State.bulkDiscard (p : Port) (session : Nat) (crc : Bool) (s : State) : State :=
  let s := match p with
    | .mb0 | .mb1 => s.modMb fun m => if crc then m.crcFault else m.otherFault
    | .svc => s.modSvc fun v => { v with discards := satInc 255 v.discards }
    | .cus => s.modCus fun c => { c with dropped := c.dropped + 1 }
    | _ => s
  s.logDiscard (if p = .mb0 then .mb1 else p) session 0

/-- A bulk frame's own form: its length agrees with LENGTH, within the port's largest (R105). -/
def bulkFormOk (p : Port) (b : Bytes) : Bool :=
  let trailer := if p = .cus then 0 else 4
  8 + trailer ≤ b.length ∧ b.length = 8 + u16 b 4 + trailer ∧ u16 b 4 ≤ p.bulkMax

/-- A transfer's expiry: its data is discarded; an inbound command completes EXPIRED (R108). -/
def State.expireBulk (b : Bulk) (s : State) : State :=
  let s := s.closeBulk b.port b.session b.inbound
  if b.inbound then
    match s.findOut b.port b.session b.tag with
    | some o => s.expire o
    | none => s
  else s.logDiscard b.port b.session b.opcode

/-- BULK_FRAME_IN: the frame is accepted or discarded; the LAST one starts the command (R93, R106, R118). -/
def execBulkFrameIn (port : Port) (session : Nat) (s : State) : Out :=
  let (frame, s) := s.takeSlot port session
  .next (match frame with
    | none => s
    | some f =>
      match s.transfer port session true with
      | none => s.bulkDiscard port session false
      | some b =>
        if b.deadline ≤ s.now then (s.expireBulk b).logDiscardLate port session b.opcode
        else if !bulkFormOk port f ∨ (port ≠ .cus ∧ !crcPasses f) then s.bulkDiscard port session true
        else if u16 f 0 ≠ b.tag ∨ u16 f 2 ≠ b.seq ∨ 1 < byteAt f 6 ∨ byteAt f 7 ≠ 0 then s.bulkDiscard port session false
        else
          let data := b.data ++ slice f 8 (u16 f 4)
          if byteAt f 6 = 0 then s.setTransfer { b with data := data, seq := b.seq + 1, deadline := s.now + bulkIdle }
          else
            let s := s.closeBulk port session true
            match s.findOut port session b.tag with
            | none => s
            | some o =>
              let time := ((cmdInfo o.opcode).map CmdInfo.time).getD 1
              let o := { o with bulk := data, edge := s.now, progress := .accepted, deadline := s.now + s.timeoutCycles time }
              let s := (s.setOut o).logAccepted o
              if data.length ≠ b.total then s.malformed o 0 else s)

/-- BULK_FRAME_OUT_CONSUMED (R107). -/
def execBulkFrameOutConsumed (port : Port) (session : Nat) (s : State) : Out := .next (s.consumeOut port session)

/-- BULK_IDLE_EXPIRY (R108). -/
def execBulkIdleExpiry (port : Port) (session : Nat) (inbound : Bool) (s : State) : Out :=
  .next (match s.transfer port session inbound with
    | none => s
    | some b => (s.advanceTo b.deadline).expireBulk b)

/-! ## The response timer -/

/-- A command's timer ends: EXPIRED with no effect, or with LINK_LOST and a ticket where its link is lost (R143, R145). A forwarded
frame that has not entered the ring is withdrawn (R128). -/
def State.timerEnds (o : Outstanding) (s : State) : State :=
  let fwd := s.stw.forwards.find? fun x => x.port = o.port ∧ x.session = o.session ∧ x.tag = o.tag
  let s := match fwd with | some x => s.withdrawForward x.number | none => s
  match o.link with
  | some l =>
    if s.inSession l then s.expire o
    else
      let (n, s) := s.newTicket o
      (s.modPaths fun q => { q with lost := q.lost ++ [(n, l)] }).respond o cExpired (le 2 1 ++ le 4 n)
  | none => s.expire o

/-- RESPONSE_TIMER_EXPIRY; a command that awaits its bulk data has no timer yet (R93). -/
def execResponseTimerExpiry (port : Port) (session tag : Nat) (s : State) : Out :=
  .next (match s.findOut port session tag with
    | none => s
    | some o => if o.progress = .awaitsBulk then s else (s.advanceTo o.deadline).timerEnds o)

/-- The outcomes awaited on a link are settled with EXPIRED and LINK_LOST (R145). -/
def State.settleLost (l : Nat) (detail : Nat) (s : State) : State :=
  let mine := s.paths.lost.filter fun x => x.2 = l
  let s := s.modPaths fun q => { q with lost := q.lost.filter fun x => x.2 ≠ l }
  mine.foldl (fun s x => s.settleTicket x.1 cExpired (le 2 detail)) s

/-! ## The service port -/

/-- A packet discarded and counted (R119, R120). -/
def State.svcDiscard (s : State) : State := s.modSvc fun v => { v with discards := satInc 255 v.discards }

/-- In Keeper-ROM-only operation SVC answers three commands and refuses every other frame (R198). -/
def State.romAnswers (f : Frame) (s : State) : State :=
  if f.opcode ∈ [0x0001, 0x0002, 0x0003] then s.receive .svc 0 f
  else s.answerAtOnce .svc 0 f 1 cState (le 2 0x00F1 ++ zeros 2)

/-- A packet that comes on the edge of the port's close: the close comes first, and a frame in it is logged late (R124). -/
def State.svcPacketLate (packet : Bytes) (s : State) : State :=
  match cobsDecode (packet.length + 1) packet with
  | some (channel :: d) => if channel.toNat ≤ 1 then s.svcDiscard.logDiscardLate .svc 0 (if channel = 0 then u16 d 0 else 0) else s.svcDiscard
  | _ => s.svcDiscard

/-- SVC_PACKET: the packet without its delimiter (R119 to R121, R124). -/
def execSvcPacket (packet : Bytes) (s : State) : Out :=
  .next (if !s.svc.present ∧ s.svc.closedAt = some s.now then s.svcPacketLate packet
    else if !s.svc.present ∨ !s.svc.isOpen ∨ 2 ≤ s.svc.slots.length then s.svcDiscard
    else match cobsDecode (packet.length + 1) packet with
    | none => s.svcDiscard
    | some [] => s.svcDiscard
    | some (channel :: d) =>
      if 4110 < d.length + 1 ∨ 1 < channel.toNat then s.svcDiscard
      else if channel = 1 then s.modSvc fun v => { v with slots := v.slots ++ [d] }
      else if !frameLengthOk d ∨ !crcPasses d then s.svcDiscard.logDiscard .svc 0 (u16 d 0)
      else
        let f := Frame.ofBytes (d.take (d.length - 4))
        if s.fus.romOnly then s.romAnswers f else s.receive .svc 0 f)

/-- SVC_FRAMING_ERROR (R119). -/
def execSvcFramingError (s : State) : Out := .next s.svcDiscard

/-- SVC_PRESENT_LOW (R121, R122). -/
def execSvcPresentLow (s : State) : Out :=
  .next (s.modSvc fun v => { v with present := true, auth := v.auth || decide (s.lifecycle = 1) })

/-- A port's or session's transfers close, and its SPDM connection with them (R464); an inbound command completes EXPIRED (R121, R139). -/
def State.closeTransfers (p : Port) (session : Nat) (s : State) : State :=
  let mine := s.paths.bulks.filter fun b => b.port = p ∧ b.session = session
  let s := s.modWdn fun w => { w with spdm := tdel w.spdm (p.index * 8 + session) }
  mine.foldl (fun s b =>
    let s := s.closeBulk p session b.inbound
    if b.inbound then (match s.findOut p session b.tag with | some o => s.expire o | none => s) else s) s

/-- SVC_PRESENT_HIGH (R121). -/
def execSvcPresentHigh (s : State) : Out :=
  let s := s.modSvc fun v => { v with present := false, closedAt := some s.now, auth := false, nonce := none, slots := [] }
  .next (((s.closeTransfers .svc 0).unsubscribe .svc 0).event 15 4 0x0505)

/-- SVC_AUTH_LOCK_EXPIRY (R123). -/
def execSvcAuthLockExpiry (s : State) : Out :=
  .next (match s.svc.lockUntil with
    | none => s
    | some e => (s.advanceTo e).modSvc fun v => { v with lockUntil := none, failures := 0 })

/-! ## The Steward port -/

/-- A register write that is refused is logged with its address and value (R15). -/
def State.logRefusedWrite (core : CoreId) (addr : Nat) (value : Word) (s : State) : State :=
  s.event (if core = .keeper then 2 else 3) 0 0x0003 0 addr value.toNat

/-- Steward TCM. -/
def State.tcm (off n : Nat) (s : State) : Bytes := mread 0 s.cores.tcmSteward off n

/-- STW_DOORBELL (R125, R127, R130). -/
def execStwDoorbell (value : Word) (s : State) : Out :=
  let off := value.toNat % 2 ^ 17
  let s := if 2 ^ 17 ≤ value.toNat then s.event 3 0 0x0003 0 0x40000424 (value.toNat / 2 ^ 17 * 2 ^ 17) else s
  let n := u16 (s.tcm (off + 4) 2) 0
  .next (if !s.stewardOn then s
    else if off % 4 ≠ 0 then s.modStw fun q => { q with alignErr := true }
    else if 16 ≤ s.outCount .stw 0 then s.modStw fun q => { q with dbRefused := true }
    else if 0x20000 < off + 12 + n then s.modStw fun q => { q with rangeErr := true }
    else
      let d := s.tcm off (12 + n)
      if !crcPasses d then (s.modStw fun q => { q with crcErr := true }).logDiscard .stw 0 (u16 d 0)
      else
        let f := Frame.ofBytes (d.take (d.length - 4))
        let s := s.modStw fun q => { q with rang := true }
        if bit f.flags 4 ∧ isExt f.opcode then (s.acceptEdge .stw).extAnswered f.opcode f.tag f.status f.payload
        else s.receive .stw 0 f)

/-- STW_RSP_RING_WRITE (R127): refused and logged when it leaves Steward TCM or after the first accepted doorbell. -/
def execStwRspRingWrite (core : CoreId) (value : Word) (s : State) : Out :=
  let base := value.toNat % 2 ^ 17 / 4 * 4
  let size := max 0x800 (value.toNat / 2 ^ 17)
  .next (if s.stw.rang ∨ 0x20000 < base + 4 * size then s.logRefusedWrite core 0x40000420 value
    else s.modStw fun q => { q with ringBase := base, ringSizeW := size })

/-- A frame as the ring holds it: with its CRC, padded to a multiple of 4 (R126). -/
def ringFrame (f : Frame) : Bytes :=
  let b := withCrc f.bytes
  b ++ zeros ((4 - b.length % 4) % 4)

/-- Bytes of the ring that the Keeper may write: one word stays free, so that RD = WR means empty (log entry 9). -/
def State.ringSpace (s : State) : Nat :=
  let size := 4 * s.stw.ringSizeW
  size - (s.stw.ringWr + size - s.stw.ringRd % size) % size - 4

/-- Waiting notices and forwarded frames enter the Keeper queue while unreserved entries are free (R128). -/
def State.refillSteward (s : State) : State :=
  match s.stw.waiting with
  | [] => s
  | f :: rest => if s.stwUnreserved < 32 then s.modStw fun q => { q with queue := q.queue ++ [f], waiting := rest } else s

/-- STW_RING_DELIVER: the queue's head is written into the ring where space is freed, and the mailbox interrupt is raised (R126,
R128). -/
def execStwRingDeliver (s : State) : Out :=
  .next (match s.stw.queue with
    | [] => s
    | f :: rest =>
      let b := ringFrame f
      let size := 4 * s.stw.ringSizeW
      let fits := s.stw.ringWr + b.length ≤ size
      let need := if fits then b.length else size - s.stw.ringWr + b.length
      if !s.powered dSteward ∨ s.ringSpace < need then s
      else
        let at' := if fits then s.stw.ringWr else 0
        let base := s.stw.ringBase
        let mark (m : Memory) : Memory := if fits then m else mwrite 0 m (base + s.stw.ringWr) (List.replicate 4 0xFF)
        let s := s.modCores fun c => { c with tcmSteward := mwrite 0 (mark c.tcmSteward) (base + at') b, irqSteward := c.irqSteward ||| 1 }
        (s.modStw fun q => { q with queue := rest, ringWr := (at' + b.length) % size }).refillSteward)

/-! ## The port commands -/

/-- SYS.NOP. -/
def execSysNop (r : Req) (s : State) : Out :=
  .next (s.command 0x0001 r (fun o s => s.wellFormed o 0 [] fun s => s.done o []))

/-- The variant code (Table 5.2). -/
def State.variant (s : State) : Nat := fuseWord s.fus.latchA 4 / 16 % 16

/-- SYS.GET_VERSION; zero for firmware that does not run (R213). -/
def execSysGetVersion (r : Req) (s : State) : Out :=
  .next (s.command 0x0002 r (fun o s => s.wellFormed o 0 [] fun s =>
    let kf := s.boot.kfVersion
    let rev := if kf.isSome then s.boot.kfRev else 0
    s.done o (le 1 (s.part.romRev / 256) ++ le 1 s.part.romRev ++ le 1 (rev / 256) ++ le 1 rev ++ le 4 (kf.getD 0)
      ++ le 4 (if kf.isSome then s.boot.stwVersion else 0) ++ le 1 s.lifecycle ++ le 1 s.variant ++ zeros 2)))

/-- SYS.GET_PORT (R90). -/
def execSysGetPort (r : Req) (s : State) : Out :=
  .next (s.command 0x0003 r (fun o s => s.wellFormed o 0 [] fun s =>
    s.done o (le 1 o.port.index ++ le 1 o.port.rank ++ le 1 (s.outCount o.port o.session - 1) ++ le 1 (b2n s.svc.auth)
      ++ le 1 (if o.port = .cus then o.session else 0) ++ zeros 3)))

/-- SYS.SVC_CHALLENGE (R122). -/
def execSysSvcChallenge (r : Req) (s : State) : Out :=
  .next (s.command 0x0008 r (fun o s => s.wellFormed o 0 [] fun s =>
    s.withDrbg o false fun s =>
      let (nonce, s) := s.generate 32
      (s.modSvc fun v => { v with nonce := some nonce }).done o (nonce ++ s.devid)))

/-- Bytes of a certificate (R134). -/
def certLength : Nat := 5457

/-- A certificate is good under a root named by its key hash, its EPOCH not below the counter (R134). -/
def State.certGood (unit counter : Nat) (cert : Bytes) (s : State) : Bool :=
  let root := s.keyHash unit
  let text := sha (cert.take 2052)
  s.keyUsable unit && decide (cert.length = certLength) && decide (byteAt cert 0 = 1) && verify sEcdsa384 root text (slice cert 2052 96)
    && verify sMlDsa root text (slice cert 2148 3309) && decide (s.counterLive counter ≤ be16 cert 1)

/-- Both signatures under a certificate's keys over a message (R133, SYS.SVC_AUTH). -/
def certSigned (cert msg ec pq : Bytes) : Bool :=
  verify sEcdsa384 (slice cert 3 97) msg ec && verify sMlDsa (slice cert 100 1952) msg pq

/-- A failed SYS.SVC_AUTH: the third in a row begins the refusal of R123. -/
def State.authFails (o : Outstanding) (detail : Nat) (s : State) : State :=
  let s := s.modSvc fun v => { v with nonce := none, failures := v.failures + 1 }
  let s := if 3 ≤ s.svc.failures then s.modSvc fun v => { v with lockUntil := some (s.now + 2 ^ 35) } else s
  (s.event 4 2 0x050A o.opcode (cState + 65536 * detail) (baton o.edge 4)).refuse o detail

/-- The refusal of R123 is over on its terminal edge. -/
def State.authLockOver (s : State) : State :=
  match s.svc.lockUntil with
  | some e => if e ≤ s.now then s.modSvc fun v => { v with lockUntil := none, failures := 0 } else s
  | none => s

/-- SYS.SVC_AUTH (R123, R134). -/
def execSysSvcAuth (r : Req) (s : State) : Out :=
  .next (s.command 0x0009 r (fun o s =>
    s.wellFormed o 8 [] fun s =>
      let s := s.authLockOver
      if s.svc.lockUntil.isSome then s.refuse o 0
      else s.needsCrypto o fun s =>
        match s.svc.nonce with
        | none => s.authFails o 0x0003
        | some nonce =>
          let cert := o.bulk.take certLength
          let msg := sha (ascii "TXI-SVC" ++ s.devid ++ nonce)
          if !s.certGood 7 0x82 cert then s.authFails o 0x0001
          else if o.bulk.length ≠ certLength + 3405 ∨ !certSigned cert msg (slice o.bulk certLength 96) (o.bulk.drop (certLength + 96)) then
            s.authFails o 0x0002
          else
            let s := s.modSvc fun v => { v with nonce := none, failures := 0, auth := true }
            (s.event 4 2 0x0504 o.opcode cOk (baton o.edge 4)).done o []))

/-- SYS.TICKET_STATUS (R103). -/
def execSysTicketStatus (r : Req) (s : State) : Out :=
  .next (s.command 0x000A r (fun o s =>
    s.wellFormed o 4 [] fun s =>
      match tfind s.paths.tickets (u32 o.payload 0) with
      | some t =>
        if t.port = o.port ∧ t.session = o.session then
          s.done o (le 1 (if t.sent then 2 else 1) ++ le 1 (if t.sent then t.final else 0) ++ zeros 2)
        else s.done o (zeros 4)
      | none => s.done o (zeros 4)))

end Sys2Proof.Machine
end

