-- ==== Sys2Proof/Machine/WardenTables.lean ====
section
/-! DEFINITION. What a Warden port reads of its Formula sections, of its flash's SFDP and of its descriptors: opcode shapes, the
checks at HOLD, and the decisions (chapters 10 and 11). -/

namespace Sys2Proof.Machine

/-! ## The WARDEN_PORT section (section 4.3 of the Formula) -/

def wAddrBytes (b : Bytes) : Nat := byteAt b 1
def wModes (b : Bytes) : Nat := u16 b 2
def wSck (b : Bytes) : Nat := u32 b 4
def wLog2 (b : Bytes) : Nat := byteAt b 8
def wSubst (b : Bytes) : Nat := byteAt b 9
def wReviewUs (b : Bytes) : Nat := u16 b 10
def wBusyMs (b : Bytes) : Nat := u16 b 12
def wCustomCount (b : Bytes) : Nat := byteAt b 14

/-- Bit `k` of OPC_ENABLE. -/
def wOpcEnabled (b : Bytes) (k : Nat) : Bool := bit (byteAt b (16 + k / 8)) (k % 8)

/-- Custom entry `n`. -/
def wCustom (b : Bytes) (n : Nat) : Bytes := slice b (64 + 8 * n) 8

/-- The protocol of a port: 0 single, 1 quad, 2 octal-STR, 3 octal-DTR (R371). -/
def wProto (b : Bytes) : Nat := if bit (wModes b) 5 then 1 else if bit (wModes b) 8 then 2 else if bit (wModes b) 9 then 3 else 0

/-! ## Opcodes -/

/-- A read of flash data. -/
def shRead (addr dummy al dl : Nat) : Shape := { kind := .passData, cls := 0, addr := addr, dummy := dummy, alanes := al, dlanes := dl }

/-- A capture of a class. -/
def shCap (cls addr al dl lo hi : Nat) (erase : Nat := 0) : Shape :=
  { kind := .capture, cls := cls, addr := addr, alanes := al, dlanes := dl, minLen := lo, maxLen := hi, erase := erase }

/-- The lanes of a protocol's opcode, as a power of 2. -/
def protoLanes (proto : Nat) : Nat := if proto = 0 then 0 else if proto = 1 then 2 else 3

/-- Table 10.6, reads: opcode, protocol, MODES bit, shape. -/
def builtinReads : List (Nat × Nat × Nat × Shape) :=
  [(0x03, 0, 0, shRead 0xFF 0 0 0), (0x13, 0, 0, shRead 4 0 0 0), (0x0B, 0, 0, shRead 0xFF 8 0 0), (0x0C, 0, 0, shRead 4 8 0 0),
   (0x3B, 0, 1, shRead 0xFF 8 0 1), (0x3C, 0, 1, shRead 4 8 0 1), (0xBB, 0, 2, shRead 0xFF 4 1 1), (0xBC, 0, 2, shRead 4 4 1 1),
   (0x6B, 0, 3, shRead 0xFF 8 0 2), (0x6C, 0, 3, shRead 4 8 0 2), (0xEB, 0, 4, shRead 0xFF 6 2 2), (0xEC, 0, 4, shRead 4 6 2 2),
   (0xEB, 1, 5, shRead 0xFF 6 2 2), (0xEC, 1, 5, shRead 4 6 2 2), (0xEC, 2, 8, shRead 4 16 3 3), (0xEE, 3, 9, shRead 4 20 3 3),
   (0x8B, 0, 6, shRead 0xFF 8 0 3), (0x7C, 0, 6, shRead 4 8 0 3), (0xCB, 0, 7, shRead 0xFF 16 3 3), (0xCC, 0, 7, shRead 4 16 3 3)]

/-- Table 10.6, programs whose mode must be enabled. -/
def builtinPrograms : List (Nat × Nat × Nat × Shape) :=
  [(0x02, 0, 0, shCap 1 0xFF 0 0 1 512), (0x12, 0, 0, shCap 1 4 0 0 1 512), (0x32, 0, 3, shCap 1 0xFF 0 2 1 512),
   (0x34, 0, 3, shCap 1 4 0 2 1 512), (0x02, 1, 5, shCap 1 0xFF 2 2 1 512), (0x12, 1, 5, shCap 1 4 2 2 1 512),
   (0x12, 2, 8, shCap 1 4 3 3 1 512), (0x12, 3, 9, shCap 1 4 3 3 1 512)]

/-- Table 10.6, the opcodes that any mode of a listed protocol carries; the 5Ah shape is R375's. -/
def builtinOther (proto op : Nat) : Option Shape :=
  let n := protoLanes proto
  let spi := proto ≤ 1
  let octal := 2 ≤ proto
  let sr : Shape := { kind := .answer, cls := 4, dlanes := n }
  if op = 0x4B ∧ proto = 0 then some { kind := .passReg, cls := 6, dummy := 32 }
  else if op = 0x48 ∧ proto = 0 then some { kind := .passReg, cls := 5, addr := 3, dummy := 8 }
  else if op = 0x05 then some (if octal then { sr with addr := 4, dummy := 8, alanes := n } else sr)
  else if op ∈ [0x35, 0x15] ∧ spi then some sr
  else if op = 0x9F then some { kind := .answer, cls := 6, dlanes := n }
  else if op = 0x5A then
    some { kind := .answer, cls := 6, addr := if octal then 4 else 3, dummy := if proto = 3 then 20 else 8, alanes := n, dlanes := n }
  else if op = 0x06 ∨ (op = 0x50 ∧ spi) then some { kind := .swallow, setsWel := true }
  else if op = 0x04 then some { kind := .swallow }
  else if op = 0x01 then some (shCap 4 (if octal then 4 else 0) n n 1 2)
  else if op ∈ [0x31, 0x11] ∧ spi then some (shCap 4 0 n n 1 1)
  else if op = 0x42 ∧ proto = 0 then some (shCap 5 3 n n 1 256)
  else if op = 0x44 ∧ proto = 0 then some (shCap 5 3 n n 0 0)
  else if (op = 0x20 ∧ spi) ∨ op = 0x21 then some (shCap 2 (if op = 0x20 then 0xFF else 4) n n 0 0 4096)
  else if op ∈ [0x52, 0x5C] ∧ spi then some (shCap 2 (if op = 0x52 then 0xFF else 4) n n 0 0 32768)
  else if (op = 0xD8 ∧ spi) ∨ op = 0xDC then some (shCap 2 (if op = 0xD8 then 0xFF else 4) n n 0 0 65536)
  else if op ∈ [0x60, 0xC7] then some (shCap 3 0 n n 0 0)
  else if op ∈ [0x66, 0x99] then some (shCap 7 0 n n 0 0)
  else if op ∈ [0xB9, 0xAB] then some (shCap 8 0 n n 0 0)
  else none

/-- A built-in opcode of a protocol: the MODES bit it needs, if any, and its shape (R379). -/
def builtin (proto op : Nat) : Option (Option Nat × Shape) :=
  match (builtinReads ++ builtinPrograms).find? fun r => r.1 = op ∧ r.2.1 = proto with
  | some r => some (some r.2.2.1, r.2.2.2)
  | none => (builtinOther proto op).map fun x => (none, x)

/-- The shape of a custom entry (Table 10.11). -/
def customShape (e : Bytes) : Shape :=
  let cls := byteAt e 1 % 16
  let kind := byteAt e 1 / 16
  let len := u16 e 6
  let wk : WKind := if kind = 0 then .passData else if kind = 1 then .passReg else if kind ≤ 3 then .capture else .swallow
  { kind := wk, cls := cls, addr := byteAt e 3, dummy := byteAt e 4 % 32, alanes := bits (byteAt e 2) 3 2,
    dlanes := bits (byteAt e 2) 5 4, minLen := if kind = 2 then 1 else 0, maxLen := if kind = 2 then len else 0,
    erase := if cls = 2 then 1024 * len else 0, setsWel := kind = 4 }

/-- The shape a port gives an opcode; none is kind DENY (R378, R380, R399). -/
def shapeOf (b : Bytes) (op : Nat) : Option Shape :=
  if wOpcEnabled b op then (builtin (wProto b) op).map Prod.snd
  else ((List.range (wCustomCount b)).find? fun n => byteAt (wCustom b n) 0 = op).map fun n => customShape (wCustom b n)

/-- An opcode reads flash or register data straight from the flash. -/
def Shape.passes (x : Shape) : Bool := x.kind = .passData || x.kind = .passReg

/-- The opcodes that share an opcode's prefix (R381). -/
def prefixMates (proto op : Nat) : List Nat :=
  if proto = 0 then [op / 2 * 2, op / 2 * 2 + 1] else if proto = 1 then (List.range 16).map fun k => op / 16 * 16 + k else [op]

/-- The prefix of an opcode is passable on the port (R381). -/
def passable (b : Bytes) (op : Nat) : Bool :=
  (prefixMates (wProto b) op).any fun k => match shapeOf b k with | some x => x.passes | none => false

/-- Address bytes of a shape on the port. -/
def addrLen (b : Bytes) (x : Shape) : Nat := if x.addr = 0xFF then wAddrBytes b else x.addr

/-- SCK periods of a command of a shape with `n` data bytes (section 2 of the chapter). -/
def sckPeriods (b : Bytes) (x : Shape) (n : Nat) : Nat :=
  let proto := wProto b
  let half := if proto = 3 then 2 else 1
  let opc := if proto = 0 then 8 else if proto = 1 then 2 else if proto = 2 then 2 else 1
  opc + ceilDiv (8 * addrLen b x / 2 ^ x.alanes) half + x.dummy + ceilDiv (ceilDiv (8 * n) (2 ^ x.dlanes)) half

/-- SCK periods as cycles, rounded up to a whole edge. -/
def sckCycles (b : Bytes) (periods : Nat) : Nat := if wSck b = 0 then 0 else ceilDiv (periods * 600000) (wSck b)

/-! ## SFDP (Table 10.4; JESD216) -/

/-- The pointer and length in DWORDs of a parameter table, by its ID. -/
def sfdpTable (d : Bytes) (ident : Nat) : Option (Nat × Nat) :=
  let at' (i : Nat) : Nat := 8 + 8 * i
  ((List.range (byteAt d 6 + 1)).find? fun i => byteAt d (at' i) + 256 * byteAt d (at' i + 7) = ident).map fun i =>
    (leVal (slice d (at' i + 4) 3), byteAt d (at' i + 3))

/-- DWORD `k` of the Basic Flash Parameter Table; zero beyond its end. -/
def bfpt (d : Bytes) (k : Nat) : Nat :=
  match sfdpTable d 0xFF00 with
  | some (ptr, n) => if k ≤ n then u32 d (ptr + 4 * (k - 1)) else 0
  | none => 0

/-- The density in bytes. -/
def sfdpDensity (d : Bytes) : Nat :=
  let w := bfpt d 2
  if bit w 31 then 2 ^ (w % 2 ^ 31) / 8 else (w + 1) / 8

/-- Whether ADDR_BYTES is supported. -/
def sfdpAddrOk (d : Bytes) (n : Nat) : Bool :=
  let c := bits (bfpt d 1) 18 17
  if n = 3 then c ≤ 1 else c = 1 ∨ c = 2

/-- The declared dummy and mode clocks of a mode, none where the mode is not declared. -/
def sfdpClocks (d : Bytes) (mode : Nat) : Option Nat :=
  let half (w hi : Nat) : Nat := let v := w / 2 ^ (16 * hi) % 65536; v % 32 + v / 32 % 8
  let declared (flag : Bool) (w hi : Nat) : Option Nat := if flag then some (half w hi) else none
  let profile := (sfdpTable d 0xFF05).isSome
  match mode with
  | 0 => some 8
  | 1 => declared (bit (bfpt d 1) 16) (bfpt d 4) 0
  | 2 => declared (bit (bfpt d 1) 20) (bfpt d 4) 1
  | 3 => declared (bit (bfpt d 1) 22) (bfpt d 3) 1
  | 4 => declared (bit (bfpt d 1) 21) (bfpt d 3) 0
  | 5 => declared (bit (bfpt d 5) 4) (bfpt d 7) 1
  | 6 => declared (decide (bfpt d 17 / 65536 ≠ 0)) (bfpt d 17) 1
  | 7 => declared (decide (bfpt d 17 % 65536 ≠ 0)) (bfpt d 17) 0
  | 8 => if profile then some 16 else none
  | 9 => if profile then some 20 else none
  | _ => none

/-- The dummy and mode periods of a read: for a built-in opcode of a mode that SFDP declares, what it declares (R379). -/
def readDummy (b d : Bytes) (op : Nat) (sh : Shape) : Nat :=
  match (if wOpcEnabled b op then builtin (wProto b) op else none) with
  | some (some m, _) => if m = 0 then sh.dummy else (sfdpClocks d m).getD sh.dummy
  | _ => sh.dummy

/-- Erase sizes declared, as powers of 2. -/
def sfdpErases (d : Bytes) : List Nat :=
  ([bfpt d 8 % 65536, bfpt d 8 / 65536, bfpt d 9 % 65536, bfpt d 9 / 65536].filter fun w => w % 256 ≠ 0).map fun w => w % 256

/-- The page size; 256 where DWORD 11 is absent. -/
def sfdpPage (d : Bytes) : Nat := if bfpt d 11 = 0 then 256 else 2 ^ bits (bfpt d 11) 7 4

/-- The capture limit of PG: the lower of the page size and 512 bytes. -/
def pageLimit (d : Bytes) : Nat := min (sfdpPage d) 512

/-- The QE bit that QER names reads 0. -/
def qeClear (d : Bytes) (sr1 sr2 : Nat) : Bool :=
  let q := bits (bfpt d 15) 22 20
  if q = 0 then false else if q = 2 then !bit sr1 6 else if q = 3 then !bit sr2 7 else !bit sr2 1

/-- Erase opcodes of Table 10.6 with their sizes as powers of 2. -/
def eraseOpcodes : List (Nat × Nat) := [(0x20, 12), (0x21, 12), (0x52, 15), (0x5C, 15), (0xD8, 16), (0xDC, 16)]

/-- The fault code of Table 10.4: that of the first failing item, or 0. -/
def holdFault (b : Bytes) (r : HoldReads) : Nat :=
  let d := sized 256 r.sfdp
  let modes := (List.range 10).filter fun m => bit (wModes b) m
  let modeBad (m : Nat) : Bool := match sfdpClocks d m with | none => true | some c => decide (c = 0 ∧ 50000 < wSck b)
  if slice d 0 4 ≠ ascii "SFDP" then 2
  else if (match sfdpTable d 0xFF00 with | none => true | some (_, n) => decide (n < 9)) then 3
  else if sfdpDensity d ≠ 2 ^ wLog2 b then 4
  else if !sfdpAddrOk d (wAddrBytes b) then 5
  else if modes.any modeBad then 6
  else if eraseOpcodes.any fun e => wOpcEnabled b e.1 && !(sfdpErases d).contains e.2 then 6
  else if [3, 4, 5].any (fun m => bit (wModes b) m) && qeClear d (byteAt r.status 0) (byteAt r.status 1) then 7
  else if r.phasesPass.isEmpty then 1
  else 0

/-- Length of the run of passing phases from phase `k`, wrapping. -/
def phaseRun (ok : Nat → Bool) : Nat → Nat → Nat
  | _, 0 => 0
  | k, n + 1 => if ok (k % 4) then 1 + phaseRun ok (k + 1) n else 0

/-- The middle phase of the longest run of passing phases; of two middles, the later (R375, step 5). -/
def phaseChoice (pass : List Nat) : Nat :=
  let ok (k : Nat) : Bool := pass.contains k
  let run (k : Nat) : Nat := phaseRun ok k 4
  let best := [1, 2, 3].foldl (fun b k => if run b < run k then k else b) 0
  (best + run best / 2) % 4

/-! ## Descriptors (Table 11.1) -/

/-- What an unlisted descriptor reads as. -/
def noDescriptor : Bytes := zeros 16

def dBase (d : Bytes) : Nat := u32 d 0
def dLimit (d : Bytes) : Nat := u32 d 4
def dType (d : Bytes) : Nat := byteAt d 8
def dHandoff (d : Bytes) : Bool := bit (byteAt d 9) 0

/-- The decision field of a phase: LAUNCH in phase 3, RUN otherwise. -/
def dField (d : Bytes) (phase pos : Nat) : Nat := u16 d (if phase = 3 then 10 else 12) / 4 ^ pos % 4

/-- Position of a class in an ADDRESS descriptor, and in a CLASS descriptor (Table 11.2). -/
def addrPos (cls : Nat) : Nat := if cls = 0 then 0 else if cls = 1 then 1 else if cls = 2 then 2 else 3
def classPos (cls : Nat) : Nat := if cls < 3 then 0 else cls - 3

/-- The descriptor that decides a granule: the TYPE 1 descriptor of lowest index that contains it (R410). -/
def descriptorOf (t : Sparse Bytes) (a : Nat) : Option Bytes :=
  (t.find? fun e => dType e.2 = 1 ∧ dBase e.2 ≤ a ∧ a ≤ dLimit e.2).map Prod.snd

/-- The decision of a granule in an address-decided class: 0 DENY, 1 ALLOW, 2 REVIEW. -/
def decideAddr (t : Sparse Bytes) (phase cls a : Nat) : Nat :=
  match descriptorOf t a with
  | some d => dField d phase (addrPos cls)
  | none => 0

/-- The decision of a class-decided command. -/
def decideClass (t : Sparse Bytes) (phase cls : Nat) : Nat :=
  match t.find? fun e => dType e.2 = 2 with
  | some e => dField e.2 phase (classPos cls)
  | none => 0

/-- Decisions of several granules taken together (R411). -/
def combine (ds : List Nat) : Nat := if ds.contains 0 then 0 else if ds.contains 2 then 2 else 1

/-- Granule addresses from `a` on, `n` of them. -/
def granules (a n : Nat) : List Nat := (List.range n).map fun k => a / 4096 * 4096 + 4096 * k

/-- Whether a shape is decided by address (R392, R400). -/
def Captured.byAddress (c : Captured) : Bool := 0 < c.addrBytes && c.cls ∈ [0, 1, 2, 5]

/-- The descriptors' decision on a capture (R392, R410, R411). -/
def captureDecision (t : Sparse Bytes) (phase log2 : Nat) (c : Captured) : Nat :=
  if c.cls = 3 then combine (decideClass t phase 3 :: (granules 0 (2 ^ log2 / 4096)).map (decideAddr t phase 2))
  else if c.byAddress then
    if c.erase = 0 then decideAddr t phase c.cls c.addr
    else combine ((granules (c.addr / c.erase * c.erase) (max 1 (c.erase / 4096))).map (decideAddr t phase c.cls))
  else decideClass t phase c.cls

/-- The offset of the first fault of a descriptor, if any (R409; R429 on Warden R). -/
def regionFault (wardenR : Bool) (log2 : Nat) (d : Bytes) : Option Nat :=
  let field (off last : Nat) (review : Nat → Bool) : Option Nat :=
    let v := u16 d off
    let bad (k : Nat) : Bool := let f := v / 4 ^ k % 4; f = 3 || (last ≤ k && f ≠ 0) || (f = 2 && (!review k || wardenR)) || (wardenR && off = 10 && f ≠ 0)
    ((List.range 8).find? bad).map fun k => off + k / 4
  let firstOf (l : List (Option Nat)) : Option Nat := l.findSome? id
  match dType d with
  | 0 => firstNonZero d 0 16
  | 1 =>
    firstOf [if dBase d % 4096 ≠ 0 then some 0 else none, if dLimit d % 4096 ≠ 4095 then some 4 else none,
      if dLimit d < dBase d ∨ 2 ^ log2 ≤ dLimit d then some 4 else none,
      if 1 < byteAt d 9 ∨ (wardenR ∧ byteAt d 9 ≠ 0) then some 9 else none,
      field 10 4 (fun k => k ≠ 0), field 12 4 (fun k => k ≠ 0), firstNonZero d 14 2]
  | 2 =>
    firstOf [firstNonZero d 0 8, if byteAt d 9 ≠ 0 then some 9 else none, field 10 7 (fun k => k ≠ 3), field 12 7 (fun k => k ≠ 3),
      firstNonZero d 14 2]
  | _ => some 8

/-! ## The BOOT section (section 4.9 of the Formula) -/

def bPort (b : Bytes) : Nat := byteAt b 0
def bOrder (b : Bytes) : Nat := byteAt b 1
def bImages (b : Bytes) : Nat := byteAt b 2
def bWaits (b : Bytes) : Bool := bit (byteAt b 3) 0
def bDelayUs (b : Bytes) : Nat := u32 b 4
def bPgoodMs (b : Bytes) : Nat := u16 b 8
def bKeys (b : Bytes) : Nat := byteAt b 10
def bKey (b : Bytes) (k : Nat) : Bytes := slice b (16 + 48 * k) 48

/-- Image record `i`, and its fields. -/
def bImage (b : Bytes) (i : Nat) : Bytes := slice b (16 + 48 * bKeys b + 32 * i) 32
def iAddr (r : Bytes) : Nat := u32 r 0
def iLen (r : Bytes) : Nat := u32 r 4
def iPinAddr (r : Bytes) : Nat := u32 r 8
def iPinLen (r : Bytes) : Nat := u32 r 12
def iScheme (r : Bytes) : Nat := byteAt r 16
def iKey (r : Bytes) : Nat := byteAt r 17
def iCounter (r : Bytes) : Nat := byteAt r 18
def iPolicy (r : Bytes) : Nat := byteAt r 19
def iGolden (r : Bytes) : Nat := byteAt r 20

/-- The BOOT section of a platform. -/
def State.bootBody (p : Nat) (s : State) : Bytes := s.sect 0x0A p

/-- The platform has a BOOT section. -/
def State.hasBoot (p : Nat) (s : State) : Bool := s.hasSect 0x0A p

/-- The platform whose flash a port holds. -/
def State.platOf (port : Nat) (s : State) : Option Nat := (List.range 4).find? fun p => s.hasBoot p && bPort (s.bootBody p) == port

/-- Pinned pages of a BOOT section's images below `i`. -/
def pinPages (b : Bytes) (i : Nat) : Nat := ((List.range i).map fun k => iPinLen (bImage b k) / 4096).sum

/-- First pinned page of an image (R348). -/
def State.pinFirst (plat image : Nat) (s : State) : Nat :=
  ((List.range plat).map fun p => pinPages (s.bootBody p) (bImages (s.bootBody p))).sum + pinPages (s.bootBody plat) image

/-- The pinned page that a flash address of a port maps to (R422), committed or not. -/
def State.pinPage (port a : Nat) (s : State) : Option Nat :=
  match s.platOf port with
  | none => none
  | some p =>
    let b := s.bootBody p
    let inside (i : Nat) : Bool := let r := bImage b i; iPinAddr r ≤ a && a < iPinAddr r + iPinLen r
    ((List.range (bImages b)).find? inside).map fun i => s.pinFirst p i + (a - iPinAddr (bImage b i)) / 4096

end Sys2Proof.Machine
end

