-- ==== Sys2Proof/Machine/Warden.lean ====
section
/-! DEFINITION. The Warden ports: host transactions, Warden-own operations, reviews, phases and descriptor tables (chapters 10
and 11). -/

namespace Sys2Proof.Machine

/-! ## Ports -/

def State.wport (p : Nat) (s : State) : WPort := tget {} s.wdn.ports p

def State.modPort (p : Nat) (f : WPort → WPort) (s : State) : State :=
  s.modWdn fun w => { w with ports := tset {} w.ports p (f (tget {} w.ports p)) }

/-- The applied Formula declares the port. -/
def State.portDeclared (p : Nat) (s : State) : Bool := s.hasSect 0x03 p

/-- Bytes with a word written at an offset inside them. -/
def withWord (b : Bytes) (off v : Nat) : Bytes := if off + 4 ≤ b.length then b.take off ++ le 4 v ++ b.drop (off + 4) else b

/-- The port's WARDEN_PORT section, with the custom entries as RLY.WDN_CUSTOM holds them (R399). -/
def State.portBody (p : Nat) (s : State) : Bytes :=
  (s.wdn.custom.filter fun x => x.1 / 128 = p).foldl (fun b x => withWord b (64 + 4 * (x.1 % 128)) x.2) (s.sect 0x03 p)

/-- Edge on which an order of this edge is applied on the Relay (Table 1.3). -/
def State.relayEdge (s : State) : Nat := s.now + 31

/-- An event of a port: slot 6, or slot 7 for Warden R (Table 2.2). -/
def State.wardenAt (t p code : Nat) (a0 : Nat := 0) (a1 : Nat := 0) (a2 : Nat := 0) (s : State) : State :=
  if p = 4 then s.logAt t 7 0 code a0 a1 a2 else s.logAt t 6 p code a0 a1 a2

def State.wardenEvent (p code : Nat) (a0 : Nat := 0) (a1 : Nat := 0) (a2 : Nat := 0) (s : State) : State :=
  s.wardenAt s.now p code a0 a1 a2

/-- The flash behind a port, and `n` bytes of it. -/
def State.flash (p : Nat) (s : State) : Memory := tget [] s.wdn.flash p
def State.flashRead (p a n : Nat) (s : State) : Bytes := mread 0xFF (s.flash p) a n
def State.setFlash (p : Nat) (m : Memory) (s : State) : State := s.modWdn fun w => { w with flash := tset [] w.flash p m }

/-- A program: bits only fall. -/
def nor (m : Memory) (a : Nat) (bs : Bytes) : Memory := mwrite 0xFF m a (List.zipWith (· &&& ·) bs (mread 0xFF m a bs.length))

/-- The flash is busy (R393). -/
def WPort.busy (q : WPort) : Bool := q.op.isSome

/-- A command is in hand beyond which only one is held (R394, R396, R419). -/
def WPort.engaged (q : WPort) : Bool := q.undecided.isSome || q.allowed.isSome || q.op.isSome || q.review.isSome

/-- The synthesized WIP (R394). -/
def WPort.wip (q : WPort) : Bool := q.engaged || q.held.isSome

/-- The synthesized WEL. -/
def WPort.welNow (q : WPort) : Bool := q.wip || q.wel

/-- Status register 1 as the host receives it (R390). -/
def WPort.status1 (q : WPort) : Nat := q.sr1 / 4 * 4 + b2n q.wip + 2 * b2n q.welNow

/-- A substitute runner is in force on the port. -/
def State.runnerOn (p : Nat) (s : State) : Bool := s.wdn.runners.any fun r => r.port = p ∧ r.inForce

/-- The runner in force that maps an address of the port (R451). -/
def State.mappedBy (p a : Nat) (s : State) : Option Runner :=
  s.wdn.runners.find? fun r => r.port = p ∧ r.inForce ∧ r.addr ≤ a ∧ a < r.addr + r.span ∧ ¬(r.pinAddr ≤ a ∧ a < r.pinAddr + r.pinLen)

/-- The port serves its host: released, in LAUNCH or RUN, with the Cadence and its domain (R367, R413, R37). -/
def State.hostServed (p : Nat) (s : State) : Bool :=
  decide (3 ≤ (s.wport p).phase) && (match s.platOf p with | some q => !s.heldLow q | none => false) && !(s.link 0).dark
    && s.powered (dWarden p) && !(s.wport p).holdDue

/-- A phase change, logged (R414). -/
def State.setPhase (p phase t : Nat) (s : State) : State :=
  (s.modPort p fun q => { q with phase := phase, phaseBaton := baton t 6 }).wardenAt t p 0x070D phase

/-! ## Decisions on captures -/

/-- The table a capture is bound to (R426). -/
def WPort.tableOf (c : Captured) (q : WPort) : Sparse Bytes := if c.old then q.shadow else q.live

/-- The decision on a capture with the overrides of Table 11.5. -/
def State.decision (p : Nat) (c : Captured) (s : State) : Nat :=
  let q := s.wport p
  let d := captureDecision (q.tableOf c) q.phase (wLog2 (s.portBody p)) c
  if !s.inSession 0 then 0
  else if s.redFlag ∧ d = 2 then 0
  else if s.runnerOn p ∧ c.cls ∈ [1, 2, 3, 4, 5] then 0
  else d

/-- First decided address: zero for class-decided commands (R419). -/
def Captured.decided (c : Captured) : Nat :=
  if !c.byAddress then 0 else if c.erase = 0 then c.addr else c.addr / c.erase * c.erase

/-- A capture is decided on edge `t` (R392, R419). -/
def State.decideCapture (p : Nat) (c : Captured) (t : Nat) (s : State) : State :=
  match s.decision p c with
  | 0 => (s.modPort p fun q => { q with wel := false }).wardenAt t p 0x0706 c.opcode c.decided
  | 1 => s.modPort p fun q => { q with allowed := some { c with edge := t } }
  | _ =>
    let n := ((s.wport p).reviewNo + 1) % 65536
    let r : Review := { cmd := c, addr := c.decided, deadline := t + wReviewUs (s.portBody p) * 600 }
    let s := s.modPort p fun q =>
      { q with review := some r, reviewNo := n, reviewExpired := false, opened := satInc 255 q.opened }
    (s.modCores fun k => { k with irqSteward := k.irqSteward ||| 2 }).wardenAt t p 0x0709 c.opcode c.decided n

/-- The held command is decided on the edge after `t`, the edge on which what was ahead of it ended (R396, R420). -/
def State.decideHeld (p t : Nat) (s : State) : State :=
  let q := s.wport p
  match q.held with
  | some c => if q.engaged then s else (s.modPort p fun q => { q with held := none }).decideCapture p c (t + 1)
  | none => s

/-- HOST_CAPTURE_RELEASE: the complete command in the write buffer is decided (R392). -/
def execHostCaptureRelease (port : Nat) (s : State) : Out :=
  onObject (port < 4) (match (s.wport port).undecided with
    | none => s
    | some c => ((s.modPort port fun q => { q with undecided := none }).decideCapture port c s.now).decideHeld port s.now)

/-! ## Host transactions -/

/-- A command denied by its opcode (R380). -/
def State.denyOpcode (p op : Nat) (s : State) : State :=
  (s.modPort p fun q => { q with deniedOpc := satInc 255 q.deniedOpc }).wardenEvent p 0x0702 op

/-- Data bits that leave before the decision: they show the pattern (R386, R389). -/
def lateBits (b : Bytes) (x : Shape) (dummy periodPs : Nat) : Nat :=
  let need := if x.kind = .passData then 10000 else 3333
  let gap2 := (2 * dummy + 1) * periodPs
  let step2 := if wProto b = 3 then periodPs else 2 * periodPs
  if 2 * need ≤ gap2 ∨ step2 = 0 then 0 else ceilDiv (2 * need - gap2) step2 * 2 ^ x.dlanes

/-- A byte whose first `n` bits show the pattern. -/
def lateByte (n subst : Nat) (v : Byte) : Byte := BitVec.ofNat 8 (subst / 2 ^ (8 - n) * 2 ^ (8 - n) + v.toNat % 2 ^ (8 - n))

/-- Data with its first bits late. -/
def lateData (n subst : Nat) (bs : Bytes) : Bytes := bs.zipIdx.map fun x => lateByte (min 8 (n - 8 * x.2)) subst x.1

/-- Where one byte of a PASS_DATA read comes from: 0 PATTERN by denial, 1 FLASH, 2 PINNED, 3 GOLDEN, 4 PATTERN while the
flash is busy or in deep power-down (R395, R417, R423). -/
def State.readSource (p cls a : Nat) (s : State) : Nat :=
  let q := s.wport p
  let off := q.busy || q.deepPd
  let pinned := match s.pinPage p a with | some k => s.wdn.committed.contains k | none => false
  if decideAddr q.live q.phase cls a ≠ 1 then 0
  else if (s.mappedBy p a).isSome then (if off then 4 else 3)
  else if pinned then 2
  else if off then 4
  else 1

/-- The byte of a source. -/
def State.sourceByte (p a src subst : Nat) (s : State) : Byte :=
  match src with
  | 1 => tget 0xFF (s.flash p) a
  | 2 => tget 0 s.wdn.pool (4096 * (s.pinPage p a).getD 0 + a % 4096)
  | 3 =>
    match s.mappedBy p a with
    | some r => tget 0xFF (s.flash 4) (r.base + a % 2 ^ r.windowLog2)
    | none => BitVec.ofNat 8 subst
  | _ => BitVec.ofNat 8 subst

/-- Reads while the flash is busy are logged once and counted; in deep power-down only counted (R395). -/
def State.busyReads (p op : Nat) (any : Bool) (s : State) : State :=
  if !any then s
  else
    let s := s.modPort p fun q => { q with busyRead := satInc 255 q.busyRead }
    if (s.wport p).busy then s.wardenEvent p 0x0707 op else s

/-- A denied read is logged once with the first denied address and counted (R387). -/
def State.deniedReads (p op : Nat) (first : Option Nat) (s : State) : State :=
  match first with
  | none => s
  | some a => (s.modPort p fun q => { q with deniedRead := satInc 255 q.deniedRead }).wardenEvent p 0x0701 op a

/-- A PASS_DATA read of whole bytes (R386 to R388, R404, R415). -/
def State.passData (p : Nat) (x : HostXfer) (sh : Shape) (s : State) : State :=
  let b := s.portBody p
  let q := s.wport p
  if x.addrBytes < addrLen b sh ∨ x.dataClocks = 0 then s.modPort p fun q => { q with drove := [] }
  else
    let start := if wProto b = 3 then x.addr / 2 * 2 else x.addr
    let addrs := (List.range x.dataClocks).map fun i => (start + i) % 2 ^ wLog2 b
    let srcs := addrs.map fun a => (a, s.readSource p sh.cls a)
    let raw := srcs.map fun y => s.sourceByte p y.1 y.2 (wSubst b)
    let late := lateBits b sh (readDummy b q.sfdp x.opcode sh) x.periodPs
    let denied := (srcs.find? fun y => y.2 = 0).map Prod.fst
    let handoff := decide (q.phase = 3) && (match srcs.head? with | some y => decide (y.2 ≠ 0) | none => false)
      && (match descriptorOf q.live start with | some d => dHandoff d | none => false)
    let s := s.modPort p fun q => { q with drove := lateData late (wSubst b) raw }
    let s := (s.deniedReads p x.opcode denied).busyReads p x.opcode (srcs.any fun y => y.2 = 4)
    if handoff then s.setPhase p 4 (s.now + 1) else s

/-- A PASS_REG read: what the flash's register gives is the flash's own (R387, R412). -/
def State.passReg (p : Nat) (x : HostXfer) (sh : Shape) (s : State) : State :=
  let b := s.portBody p
  let q := s.wport p
  if x.addrBytes < addrLen b sh ∨ x.dataClocks = 0 then s.modPort p fun q => { q with drove := [] }
  else
    let pattern : Bytes := List.replicate x.dataClocks (BitVec.ofNat 8 (wSubst b))
    if decideClass q.live q.phase sh.cls ≠ 1 then
      (s.modPort p fun q => { q with drove := pattern }).deniedReads p x.opcode (some x.addr)
    else if q.busy || q.deepPd then (s.modPort p fun q => { q with drove := pattern }).busyReads p x.opcode true
    else
      let raw := fit x.dataClocks fun i => Config.freeByte (s.free + i)
      let late := lateBits b sh sh.dummy x.periodPs
      let s := s.modPort p fun q => { q with drove := lateData late (wSubst b) raw }
      { s with free := s.free + x.dataClocks }

/-- The answer of an ANSWER command: the shadow or a cache (R377, R390). -/
def WPort.answer (op addr n : Nat) (q : WPort) : Bytes :=
  let repeated (v : Nat) : Bytes := List.replicate n (BitVec.ofNat 8 v)
  if op = 0x05 then repeated q.status1
  else if op = 0x35 then repeated q.sr2
  else if op = 0x15 then repeated q.sr3
  else if op = 0x9F then (sized 8 q.ident ++ List.replicate n 0xFF).take n
  else ((sized 256 q.sfdp).drop addr ++ List.replicate n 0xFF).take n

/-- One more aborted, ignored or lost capture. -/
def WPort.abort (q : WPort) : WPort := { q with aborted := satInc 255 q.aborted }

/-- A capture at its select release: complete, ignored, aborted, held or lost (R391, R396, R398). -/
def State.capture (p : Nat) (x : HostXfer) (sh : Shape) (wasArmed : Bool) (s : State) : State :=
  let b := s.portBody p
  let q := s.wport p
  let n := x.data.length
  let hi := if sh.cls = 1 then min sh.maxLen (pageLimit q.sfdp) else sh.maxLen
  let complete := x.aligned ∧ x.addrBytes = addrLen b sh ∧ sh.minLen ≤ n ∧ n ≤ hi ∧ ¬(wProto b = 3 ∧ n % 2 = 1)
  let feeding : Bool := match q.op with | some o => decide (s.now < o.release) && decide (n ≠ 0) | none => false
  let c : Captured := { opcode := x.opcode, cls := sh.cls, addr := x.addr, addrBytes := x.addrBytes, data := x.data, erase := sh.erase,
                        old := false, edge := s.now }
  if ¬complete then s.modPort p fun q => q.abort
  else if x.opcode = 0x66 ∧ sh.cls = 7 then s.modPort p fun q => { q with armed := true }
  else if (sh.cls ∉ [7, 8] ∧ !q.welNow) ∨ (x.opcode = 0x99 ∧ !wasArmed) then s.modPort p fun q => q.abort
  else if !q.engaged then s.modPort p fun q => { q with undecided := some c }
  else if q.held.isSome ∨ feeding then s.modPort p fun q => q.abort
  else s.modPort p fun q => { q with held := some c }

/-- The guard: a passable prefix sampled too late withholds the final opcode edge, and the command is of kind DENY (R381). -/
def guardLate (b : Bytes) (op periodPs : Nat) : Bool := passable b op && decide (periodPs < if wProto b = 3 then 10000 else 5000)

/-- A select period faster than SCK_KHZ by more than 0.42 ns (R373). -/
def overspeed (b : Bytes) (periodPs : Nat) : Bool := (periodPs + 420) * wSck b < 1000000000

/-- A host select period (R378 to R398). -/
def State.hostTransaction (p : Nat) (x : HostXfer) (s : State) : State :=
  let b := s.portBody p
  let wasArmed := (s.wport p).armed
  let s := s.modPort p fun q => { q with armed := false, drove := [] }
  let s := if overspeed b x.periodPs then
      (s.modPort p fun q => { q with deniedOpc := satInc 255 q.deniedOpc }).wardenEvent p 0x0703 x.opcode
    else s
  let extended := wProto b < 2 ∨ x.extension = 255 - x.opcode
  match (if extended ∧ !(s.wport p).dead ∧ !guardLate b x.opcode x.periodPs then shapeOf b x.opcode else none) with
  | none => s.denyOpcode p x.opcode
  | some sh =>
    match sh.kind with
    | .answer => s.modPort p fun q => { q with drove := q.answer x.opcode x.addr x.dataClocks }
    | .swallow => s.modPort p fun q => { q with wel := sh.setsWel }
    | .capture => s.capture p x sh wasArmed
    | .passData => s.passData p x sh
    | .passReg => s.passReg p x sh

/-- HOST_TRANSACTION: a host select period; a port that does not serve its host ignores it (R367). -/
def execHostTransaction (port : Nat) (x : HostXfer) (s : State) : Out :=
  onObject (port < 4) (if s.hostServed port then s.hostTransaction port x else s)

/-! ## Warden-own operations -/

/-- Bytes that an operation writes or erases: first address and length. -/
def ownRange (b : Bytes) (page : Nat) (c : Captured) : Nat × Nat :=
  match c.cls with
  | 1 => (c.addr / page * page, page)
  | 2 => (c.addr / c.erase * c.erase, c.erase)
  | 3 => (0, 2 ^ wLog2 b)
  | _ => (0, 0)

/-- A page program wraps within its page (R392). -/
def programPage (page addr : Nat) : Nat → Bytes → Memory → Memory
  | _, [], m => m
  | i, v :: vs, m => programPage page addr (i + 1) vs (nor m (addr / page * page + (addr + i) % page) [v])

/-- The effect of a command on the flash's array. -/
def ownEffect (b : Bytes) (page : Nat) (c : Captured) (m : Memory) : Memory :=
  match c.cls with
  | 1 => programPage page c.addr 0 c.data m
  | 2 | 3 => mclear m (ownRange b page c).1 (ownRange b page c).2
  | _ => m

/-- Committed pinned pages that an operation makes stale, each logged once (R425). -/
def State.makeStale (p : Nat) (c : Captured) (s : State) : State :=
  let (a, n) := ownRange (s.portBody p) (sfdpPage (s.wport p).sfdp) c
  let hit (k : Nat) : Bool :=
    s.wdn.committed.contains k && ((granules a (ceilDiv n 4096)).any fun g => s.pinPage p g == some k)
  let fresh := ((s.wdn.committed.filter hit).filter fun k => !(s.wport p).stale.contains k).dedup
  fresh.foldl (fun s k => (s.modPort p fun q => { q with stale := q.stale ++ [k] }).wardenEvent p 0x070E c.opcode k) s

/-- The flash takes a command on the select release of its step 2. -/
def State.landOp (p : Nat) (s : State) : State :=
  match (s.wport p).op with
  | none => s
  | some o =>
    if o.landed ∨ s.now < o.release then s
    else
      let s := s.modPort p fun q => { q with op := some { o with landed := true } }
      s.setFlash p (ownEffect (s.portBody p) (sfdpPage (s.wport p).sfdp) o.cmd (s.flash p))

/-- OWN_OP_START: the allowed command starts on its start edge (R393, Table 10.10). -/
def execOwnOpStart (port : Nat) (s : State) : Out :=
  onObject (port < 4) (match (s.wport port).allowed with
    | none => s
    | some c =>
      let s := s.advanceTo (c.edge + 1)
      let b := s.portBody port
      let sh := (shapeOf b c.opcode).getD {  kind := .capture }
      let wren := sckPeriods b { kind := .swallow } 0 + 2
      let first := if c.cls = 7 ∨ c.cls = 8 then (if c.cls = 7 then wren else 0) else wren
      let release := s.now + sckCycles b (first + sckPeriods b sh c.data.length)
      let ready := if c.cls = 7 ∨ c.opcode = 0xAB then some (release + 18000)
        else if c.cls = 8 ∨ c.cls = 9 then some release else none
      let op : OwnOp := { cmd := c, start := s.now, release := release, ready := ready }
      let s := s.modPort port fun q => { q with allowed := none, op := some op }
      (s.makeStale port c).wardenEvent port 0x0704 c.opcode c.addr)

/-- The busy timer's terminal edge (R397). -/
def State.busyDeadline (p : Nat) (o : OwnOp) (s : State) : Nat := o.release + wBusyMs (s.portBody p) * 600000

/-- The busy timer expires: the flash is reset, its page or block is left undefined, and the read-back follows (R397). -/
def State.busyExpires (p : Nat) (o : OwnOp) (s : State) : State :=
  let s := (s.advanceTo (s.busyDeadline p o)).landOp p
  let b := s.portBody p
  let (a, n) := ownRange b (sfdpPage (s.wport p).sfdp) o.cmd
  let lost := fit n fun i => Config.freeByte (s.free + i)
  let s := s.setFlash p (mwrite 0xFF (s.flash p) a lost)
  let s := { s with free := s.free + n }
  let reset := sckCycles b (2 * sckPeriods b { kind := .swallow } 0 + 2) + 18000
  let s := s.modPort p fun q => { q with op := some { o with landed := true, failed := true, ready := some (s.now + reset) } }
  s.wardenEvent p 0x0708 o.cmd.opcode o.cmd.addr

/-- OWN_OP_POLL: a status poll's result is presented (R393, R402). -/
def execOwnOpPoll (port : Nat) (status : Byte) (s : State) : Out :=
  onObject (port < 4) (match (s.wport port).op with
    | none => s
    | some o =>
      if o.ready.isSome then s
      else
        let b := s.portBody port
        let poll := sckCycles b (sckPeriods b ((builtin (wProto b) 0x05).map Prod.snd |>.getD { kind := .answer }) 1)
        let edge := o.release + 4096 * (o.polls + 1) + poll
        if s.busyDeadline port o ≤ edge then
          let s := s.busyExpires port o
          if status.getLsbD 0 ∨ edge ≠ s.busyDeadline port o then s else s.eventLate 6 port 0x0705 o.cmd.opcode o.cmd.addr
        else
          let s := (s.advanceTo edge).landOp port
          let ready := if status.getLsbD 0 then none else some s.now
          s.modPort port fun q => { q with sr1 := if status.getLsbD 0 then q.sr1 else status.toNat, op := some { o with landed := true, polls := o.polls + 1, ready := ready } })

/-- BUSY_TIMEOUT (R397). While a COPY recovery runs on the port, it cuts one of the recovery's operations (Table 12.2). -/
def execBusyTimeout (port : Nat) (s : State) : Out :=
  onObject (port < 5) (match (s.wport port).op with
    | some o => if o.ready.isSome then s else s.busyExpires port o
    | none =>
      match s.wdn.running with
      | some r =>
        if r.policy = 1 ∧ bPort (s.bootBody r.plat) = port then
          (s.modWdn fun w => { w with running := some { r with cut := true } }).wardenEvent port 0x0708
        else s
      | none => s)

/-- OWN_OP_READY: the busy time ends; the shadow is read back for SR and RST and after a timeout; a held command is decided
(R393, R394, R396). -/
def execOwnOpReady (port : Nat) (status : Bytes) (s : State) : Out :=
  onObject (port < 4) (match (s.wport port).op with
    | none => s
    | some o =>
      match o.ready with
      | none => s
      | some e =>
        let s := (s.advanceTo e).landOp port
        let back := o.failed ∨ o.cmd.cls = 4 ∨ o.cmd.cls = 7
        let s := s.modPort port fun q =>
          { q with op := none, wel := false, deepPd := (q.deepPd || decide (o.cmd.opcode = 0xB9)) && decide (o.cmd.opcode ≠ 0xAB),
                   sr1 := if back then byteAt status 0 else q.sr1, sr2 := if back then byteAt status 1 else q.sr2,
                   sr3 := if back then byteAt status 2 else q.sr3 }
        (s.wardenEvent port 0x0705 o.cmd.opcode o.cmd.addr).decideHeld port s.now)

/-! ## Reviews -/

/-- An open review resolves DENY (R420): its record, and its counter. -/
def State.denyReview (p code t : Nat) (byExpiry : Bool) (s : State) : State :=
  match (s.wport p).review with
  | none => s
  | some r =>
    let s := s.modPort p fun q =>
      { q with review := none, wel := false, reviewExpired := byExpiry,
               denied := if byExpiry then q.denied else satInc 255 q.denied,
               expired := if byExpiry then satInc 255 q.expired else q.expired }
    (s.wardenAt t p code r.cmd.opcode r.addr (s.wport p).reviewNo).decideHeld p t

/-- REVIEW_EXPIRY (R420). -/
def execReviewExpiry (port : Nat) (s : State) : Out :=
  onObject (port < 4) (match (s.wport port).review with
    | none => s
    | some r => let s := s.advanceTo r.deadline; s.denyReview port 0x070C s.now true)

/-- Link 0 leaves SESSION, or the lockdown message is applied: open reviews resolve DENY (R420). -/
def State.denyReviews (s : State) : State := [0, 1, 2, 3].foldl (fun s p => s.denyReview p 0x070B s.now false) s

/-! ## Phases -/

/-- The port enters HOLD: an open review resolves DENY, a command in hand is discarded and runners of the port end (R416, R450). -/
def State.enterHold (p t : Nat) (s : State) : State :=
  let s := s.modPort p fun q => if q.held.isSome ∨ q.undecided.isSome ∨ q.allowed.isSome then q.abort else q
  let s := s.modPort p fun q => { q with held := none, undecided := none, allowed := none, holdDue := true }
  let s := s.denyReview p 0x070B t false
  let s := s.modWdn fun w => { w with runners := w.runners.filter fun r => r.port ≠ p }
  s.setPhase p 0 t

/-- The HOLD procedure's steps 1 to 6: caches, shadow, phase and fault (R375, R376). -/
def State.holdSteps (p : Nat) (r : HoldReads) (s : State) : State :=
  let b := s.portBody p
  let f := holdFault b r
  let s := s.modPort p fun q =>
    { q with holdDue := false, holdDone := true, sfdp := sized 256 r.sfdp, ident := sized 8 r.id, sr1 := byteAt r.status 0,
             sr2 := byteAt r.status 1, sr3 := byteAt r.status 2, wel := false, deepPd := false, armed := false,
             phaseSel := phaseChoice r.phasesPass, fault := f, sfdpOk := f = 0, dead := decide (3 ≤ q.phase ∧ f ≠ 0) }
  if f = 0 then s else s.wardenEvent p 0x070F f

/-! ## Registers -/

/-- RLY.WDN_WIRE[p]. -/
def State.wdnWire (p : Nat) (s : State) : Nat :=
  let q := s.wport p
  (if s.portDeclared p then wProto (s.portBody p) else 0) + 4 * q.phaseSel + 16 * b2n q.sfdpOk + 32 * q.fault + 512 * b2n q.busy
    + 1024 * b2n q.held.isSome + 2048 * b2n q.deepPd + 4096 * b2n q.welNow + 8192 * b2n q.armed

/-- RLY.WDN_SHADOW[p]. -/
def State.wdnShadow (p : Nat) (s : State) : Nat :=
  let q := s.wport p
  q.status1 + 256 * q.sr2 + 65536 * q.sr3

/-- RLY.WDN_WCNT[p]. -/
def State.wdnWcnt (p : Nat) (s : State) : Nat :=
  let q := s.wport p
  q.deniedRead + 256 * q.busyRead + 65536 * q.aborted + 16777216 * q.deniedOpc

/-- PHASE: 4 for Warden R from the seal (R429). -/
def State.phaseOf (p : Nat) (s : State) : Nat := if p = 4 then (if s.frm.isSealed ∧ s.portDeclared 4 then 4 else 0) else (s.wport p).phase

/-- RETIRING (R427). -/
def WPort.retires (q : WPort) : Bool := q.retiring || q.copying.isSome

/-- RLY.WDN_PHASE[p]. -/
def State.wdnPhase (p : Nat) (s : State) : Nat :=
  let q := s.wport p
  s.phaseOf p + 8 * b2n (s.runnerOn p) + 16 * b2n q.retires + 65536 * q.commits

/-- RLY.WDN_REVIEW[p] and RLY.WDN_REVIEW_ADDR[p]. -/
def State.wdnReview (p : Nat) (s : State) : Nat :=
  let q := s.wport p
  match q.review with
  | some r => 1 + 2 * r.cmd.cls + 256 * r.cmd.opcode + 65536 * q.reviewNo
  | none => 65536 * q.reviewNo
def State.wdnReviewAddr (p : Nat) (s : State) : Nat := match (s.wport p).review with | some r => r.addr | none => 0

/-- RLY.WDN_RCNT[p]. -/
def State.wdnRcnt (p : Nat) (s : State) : Nat :=
  let q := s.wport p
  q.opened + 256 * q.approved + 65536 * q.denied + 16777216 * q.expired

/-- First page, committed pages and stale pages of a port's platform. -/
def State.pinCounts (p : Nat) (s : State) : Nat × Nat × Nat :=
  match s.platOf p with
  | none => (0, 0, 0)
  | some q => (s.pinFirst q 0, (s.plat q).pages, min 255 (s.wport p).stale.length)

/-- RLY.WDN_PIN[p]. -/
def State.wdnPin (p : Nat) (s : State) : Nat :=
  let (f, n, k) := s.pinCounts p
  f % 256 + 256 * (n % 256) + 65536 * k

/-! ## Commands -/

/-- A command whose work lies on a partner die waits while its link is not in SESSION: its row, presented again after a relink, takes it up;
else its timer decides (R145). -/
def State.viaLink (o : Outstanding) (l : Nat) (body : State → State) (s : State) : State :=
  if s.inSession l then body s else s.setOut { o with link := some l, progress := .accepted }

/-- A WDN command on port byte 0: MALFORMED above 4, then its checks (Table 11.6). -/
def State.wdnCommand (o : Outstanding) (len : Nat) (fields : List (Bool × Nat)) (zeroRanges : List (Nat × Nat)) (body : Nat → State → State)
    (s : State) : State :=
  s.formedBy o len ((decide (4 < byteAt o.payload 0), 0) :: fields) zeroRanges fun s => body (byteAt o.payload 0) s

/-- WDN.GET_SFDP. -/
def execWdnGetSfdp (r : Req) (s : State) : Out :=
  .next (s.command 0x3006 r (fun o s =>
    let off := u16 o.payload 2
    let n := u16 o.payload 4
    s.wdnCommand o 8 [(decide (255 < off), 2), (decide (n = 0 ∨ 256 < off + n), 4)] [(1, 1), (6, 2)] fun p s =>
      s.checks o [(!s.portDeclared p, 0x0001), (!(s.wport p).holdDone, 0x0002)] fun s =>
      s.viaLink o 0 fun s =>
        let q := s.wport p
        s.done o (le 1 p ++ le 1 (wProto (s.portBody p)) ++ le 1 (b2n q.sfdpOk) ++ le 1 q.fault ++ sized 8 q.ident ++ zeros 4
          ++ slice (sized 256 q.sfdp) off n)))

/-- WDN.GET_PORT. -/
def execWdnGetPort (r : Req) (s : State) : Out :=
  .next (s.command 0x3000 r (fun o s =>
    s.wdnCommand o 4 [] [(1, 3)] fun p s =>
      s.checks o [(!s.portDeclared p, 0x0001)] fun s =>
      s.viaLink o 0 fun s =>
        let q := s.wport p
        let flags := b2n (s.runnerOn p) + 2 * b2n q.retires + 4 * b2n q.review.isSome + 8 * b2n q.busy + 16 * b2n q.held.isSome
          + 32 * b2n q.sfdpOk
        let (first, pages, stale) := s.pinCounts p
        let (cls, opc, left) := match q.review with
          | some v => (v.cmd.cls, v.cmd.opcode, v.deadline - s.relayEdge)
          | none => (0xFF, 0, 0)
        s.done o (le 1 p ++ le 1 (s.phaseOf p) ++ le 1 flags ++ le 1 cls ++ le 2 q.reviewNo ++ le 1 opc ++ zeros 1
          ++ le 4 (s.wdnReviewAddr p) ++ le 4 left ++ le 2 first ++ le 2 pages ++ le 2 stale ++ le 2 q.commits ++ le 8 q.phaseBaton)))

/-- The photo-finish objects of descriptor tables: one descriptor, or a port's commit (R434). -/
def objDescriptor (p n : Nat) : Nat × Nat := objTable (8 + 256 * p + n)
def objCommit (p : Nat) : Nat × Nat := objTable p

/-- WDN.SET_REGION (R409, R426, R434). -/
def execWdnSetRegion (r : Req) (s : State) : Out :=
  .next (s.command 0x3001 r (fun o s =>
    s.wdnCommand o 20 [] [(2, 2)] fun p s =>
      let n := byteAt o.payload 1
      let d := slice o.payload 4 16
      s.checks o [(!s.portDeclared p, 0x0001)] fun s =>
      s.viaLink o 0 fun s =>
      s.checks o [((s.wport p).retires, 0x0006)] fun s =>
        match regionFault (p = 4) (wLog2 (s.portBody p)) d with
        | some off => s.malformed o (4 + off)
        | none =>
          let second := dType d = 2 ∧ (s.wport p).shadow.any fun e => dType e.2 = 2 ∧ e.1 ≠ n
          s.checks o [(second, 0x0007)] fun s =>
          s.order o [objDescriptor p n] fun s =>
            let s := s.takesEffect o.port o.opcode [objDescriptor p n]
            (s.modPort p fun q => { q with shadow := tset noDescriptor q.shadow n d }).done o []))

/-- Commands in hand become bound to the old table (R426). -/
def WPort.bindOld (q : WPort) : WPort :=
  let old (c : Captured) : Captured := { c with old := true }
  let rev (r : Review) : Review := { r with cmd := old r.cmd }
  { q with undecided := q.undecided.map old, held := q.held.map old, review := q.review.map rev }

/-- A command bound to the old table is still undecided (R427). -/
def WPort.oldBound (q : WPort) : Bool :=
  let old (c : Option Captured) : Bool := match c with | some x => x.old | none => false
  old q.undecided || old q.held || old (q.review.map Review.cmd)

/-- WDN.COMMIT: the live and shadow tables are exchanged on the commit edge (R426, R434). -/
def execWdnCommit (r : Req) (s : State) : Out :=
  .next (s.command 0x3002 r (fun o s =>
    s.wdnCommand o 4 [] [(1, 3)] fun p s =>
      s.checks o [(!s.portDeclared p, 0x0001)] fun s =>
      s.viaLink o 0 fun s =>
      s.order o [objCommit p] fun s =>
      s.checks o [((s.wport p).retires, 0x0006)] fun s =>
        let s := s.takesEffect o.port o.opcode [objCommit p]
        let s := s.modPort p fun q =>
          { q.bindOld with live := q.shadow, shadow := q.live, retiring := true, commits := satInc 65535 q.commits }
        s.done o (le 8 (baton s.relayEdge (if p = 4 then 7 else 6)))))

/-- RETIRE_END: no command is bound to the old table, and the new table is copied (R427). -/
def execRetireEnd (port : Nat) (s : State) : Out :=
  onObject (port < 5) (
    let q := s.wport port
    if q.retiring ∧ !q.oldBound then
      s.modPort port fun q => { q with retiring := false, shadow := q.live, copying := some (s.now + 1 + 511) }
    else s)

/-- SHADOW_COPY_DONE (R427). -/
def execShadowCopyDone (port : Nat) (s : State) : Out :=
  onObject (port < 5) (match (s.wport port).copying with
    | none => s
    | some e => (s.advanceTo e).modPort port fun q => { q with copying := none })

/-- The photo-finish object of a review (R431). -/
def objReview (p n : Nat) : Nat × Nat := (12, 65536 * p + n)

/-- An answer is presented at the Relay (R420, R430). -/
def State.answerReview (o : Outstanding) (p : Nat) (approve : Bool) (r : Review) (s : State) : State :=
  let t := s.relayEdge
  if r.deadline ≤ t then
    let s := s.denyReview p 0x070C r.deadline true
    let late : Rec := { cycle := t, slot := 6, source := p, code := if approve then 0x070A else 0x070B, late := true, arg0 := r.cmd.opcode,
                        arg1 := r.addr, arg2 := (s.wport p).reviewNo }
    (s.putRec late).refuse o 0x0005
  else
    let s := s.takesEffect o.port o.opcode [objReview p (s.wport p).reviewNo]
    let s := if approve then
        let s := s.modPort p fun q =>
          { q with review := none, allowed := some { r.cmd with edge := t }, approved := satInc 255 q.approved }
        s.wardenAt t p 0x070A r.cmd.opcode r.addr (s.wport p).reviewNo
      else s.denyReview p 0x070B t false
    s.done o (le 8 (baton t 6))

/-- WDN.REVIEW_ANSWER (R420, R421, R430, R431). -/
def execWdnReviewAnswer (r : Req) (s : State) : Out :=
  .next (s.command 0x3003 r (fun o s =>
    let v := byteAt o.payload 1
    let n := u16 o.payload 2
    s.wdnCommand o 4 [(decide (1 < v), 1)] [] fun p s =>
      s.checks o [(decide (p = 4), 0x0002), (!s.portDeclared p, 0x0001), (decide (v = 1) && s.redRefuses o, 0x0040)] fun s =>
      s.viaLink o 0 fun s =>
      s.order o (objReview p n :: if v = 1 then o.lockObjs else []) fun s =>
        let q := s.wport p
        match q.review with
        | some v' => if q.reviewNo = n then s.answerReview o p (v = 1) v' else s.refuse o 0x0004
        | none => s.refuse o (if q.reviewNo = n ∧ q.reviewExpired ∧ n ≠ 0 then 0x0005 else 0x0004)))

/-- WDN.GET_COUNTERS. -/
def execWdnGetCounters (r : Req) (s : State) : Out :=
  .next (s.command 0x3004 r (fun o s =>
    s.wdnCommand o 4 [] [(1, 3)] fun p s =>
      s.checks o [(!s.portDeclared p, 0x0001)] fun s =>
      s.viaLink o 0 fun s =>
        s.done o (le 4 (s.wdnWcnt p) ++ le 4 (s.wdnRcnt p) ++ le 4 (s.wdnPin p) ++ le 4 (s.wdnPhase p))))

end Sys2Proof.Machine
end

