-- ==== Sys2Proof/Machine/Domains.lean ====
section
/-! DEFINITION. What every block reads of the power domains, the track map and the die windows: the end of a drain, mapped
functions, the Infield pool's partitions, and access faults (chapters 1, 4, 19 and 21). -/

namespace Sys2Proof.Machine

/-- Z of Table 19.5: cycles from the drain end to the drop. -/
def drainZ (n : Nat) : Nat :=
  if n = 1 then 16385 else if n = 2 then 17 else if n = 3 then 655361 else if 6 ≤ n ∧ n ≤ 10 then 2 else if 17 ≤ n then 64 else 1

/-- The conditions kept of the domains that have changed on edge `t`, with one more (R694). -/
def Power.keepsBefore (t n : Nat) (p : Power) : List (Nat × Condition) :=
  let kept := if p.beforeEdge = t then p.before else []
  if kept.any (fun e => e.1 = n) then kept else kept ++ [(n, (tget ({} : Domain) p.domains n).condition)]

/-- A domain's record is rewritten; the condition from before the edge is kept while the edge lasts (R694). -/
def State.setDomain (n : Nat) (d : Domain) (s : State) : State :=
  s.modPwr fun p => { p with domains := tset {} p.domains n d, before := p.keepsBefore s.now n, beforeEdge := s.now }

/-- The condition of a domain from before this edge (R694). -/
def State.conditionBefore (n : Nat) (s : State) : Condition :=
  match s.pwr.before.find? fun e => s.pwr.beforeEdge = s.now ∧ e.1 = n with
  | some e => e.2
  | none => (tget ({} : Domain) s.pwr.domains n).condition

/-- A drain ends on edge `t`: the rail or clock drops Z later (R682). -/
def State.drainEnds (n t : Nat) (reachedT : Bool) (s : State) : State :=
  s.setDomain n { s.domain n with reachedT := reachedT, drop := some (t + drainZ n) }

/-- CLAIM_US in force (section 4.10 of the Formula). -/
def State.claimUs (s : State) : Nat := if s.hasSect 0x0B 0 then u16 (s.sect 0x0B 0) 4 else 500

/-! ## The track map -/

/-- The function of multipurpose ball `m`; 0 in the default state (R734). -/
def State.ballFunc (m : Nat) (s : State) : Nat := byteAt (s.sect 0x02 0) (2 * m)

/-- A function code is mapped in a TRACK_MAP section. -/
def mapsCode (b : Bytes) (code : Nat) : Bool := (List.range 96).any fun m => byteAt b (2 * m) = code

/-- A function code is mapped by the applied Formula. -/
def State.mapped (code : Nat) (s : State) : Bool := mapsCode (s.sect 0x02 0) code

/-- A MAC is enabled when its RGMII and MDIO functions are all mapped (R157): 0 SITE, 1 PLAT. -/
def macMapped (b : Bytes) (mac : Nat) : Bool := (List.range 14).all fun k => mapsCode b (0xB0 + 16 * mac + k)
def State.macOn (mac : Nat) (s : State) : Bool := macMapped (s.sect 0x02 0) mac

/-- The role of a Lane engine (R472): 0 UNUSED, 1 MASTER, 2 TARGET. -/
def laneCode (e off : Nat) : Nat := 0xD0 + 0x18 * e + off
def laneRole (b : Bytes) (e : Nat) : Nat := if mapsCode b (laneCode e 0) then 1 else if mapsCode b (laneCode e 0x0D) then 2 else 0
def State.laneRole (e : Nat) (s : State) : Nat := Machine.laneRole (s.sect 0x02 0) e

/-! ## The Infield pool -/

/-- First bank of a partition: 0 PINNED, 1 REGION, 2 SLOWPATH, 3 MIRROR, 4 LANE, 5 STEWARD (R159). -/
def infieldFirst (b : Bytes) (part : Nat) : Nat := ((List.range part).map fun k => byteAt b k).sum
def infieldBanks (b : Bytes) (part : Nat) : Nat := byteAt b part

/-- The first pool byte of a partition of the applied Formula, and its length. -/
def State.partition (part : Nat) (s : State) : Nat × Nat :=
  let b := s.sect 0x04 0
  (infieldFirst b part * 0x8000, infieldBanks b part * 0x8000)

/-- The area of a Lane engine: first pool byte and banks (R474). -/
def State.laneArea (e : Nat) (s : State) : Nat × Nat :=
  let (a, n) := s.partition 4
  let banks := n / 0x8000
  let first := ceilDiv banks 2
  if e = 0 then (a, first) else (a + first * 0x8000, banks - first)

/-- Bytes of the Infield pool. -/
def State.poolRead (a n : Nat) (s : State) : Bytes := mread 0 s.wdn.pool a n
def State.poolWrite (a : Nat) (bs : Bytes) (s : State) : State := s.modWdn fun w => { w with pool := mwrite 0 w.pool a bs }

/-! ## Accesses of the cores -/

/-- Baton slot of a core's own events. -/
def coreSlot (core : CoreId) : Nat := if core = .keeper then 2 else 3

/-- An access that is not granted: an access-fault exception on the core, logged for the Steward (R46). -/
def State.accessFault (core : CoreId) (addr : Nat) (s : State) : State :=
  match core with
  | .keeper => s.modCores fun c => { c with faultKeeper := some addr }
  | .steward => (s.modCores fun c => { c with faultSteward := some addr }).event 3 0 0x0005 0 addr

/-- Reserved bits written nonzero: carried out for the other fields and logged with the mask (R15). -/
def State.logReserved (core : CoreId) (addr mask : Nat) (s : State) : State :=
  if mask = 0 then s else s.event (coreSlot core) 0 0x0003 0 addr mask

/-- A register access of a core to the Relay: the Steward needs the RLY window open (R42, R46); none is applied while link 0
is not in SESSION (R501). -/
def State.relayAccess (core : CoreId) (addr : Nat) (body : State → State) (s : State) : State :=
  if core = .steward ∧ !s.cores.winRly then s.accessFault core addr
  else if !s.inSession 0 then s
  else body s

/-- A result handed back to the reading core. -/
def State.readResult (core : CoreId) (v : Nat) (s : State) : State :=
  match core with
  | .keeper => s.modCores fun c => { c with readKeeper := BitVec.ofNat 32 v }
  | .steward => s.modCores fun c => { c with readSteward := BitVec.ofNat 32 v }

end Sys2Proof.Machine
end

