-- ==== Sys2Proof/Machine/Pacer.lean ====
section
/-! DEFINITION. Pacer buckets and heats (chapter 14), with what a Bank reads of its Formula sections and how its records and answers travel. -/

namespace Sys2Proof.Machine

/-! ## Banks -/

def State.bank (b : Nat) (s : State) : Bank := tget {} s.banks b
def State.modBank (b : Nat) (f : Bank → Bank) (s : State) : State := { s with banks := tset {} s.banks b (f (tget {} s.banks b)) }
def State.comp (n : Nat) (s : State) : Comp := tget {} s.comps n
def State.modComp (n : Nat) (f : Comp → Comp) (s : State) : State := { s with comps := tset {} s.comps n (f (tget {} s.comps n)) }

/-- The Formula declares Bank `b`. -/
def State.bankDeclared (b : Nat) (s : State) : Bool := s.hasSect 0x07 b
/-- Its BANK and PROFILES sections (R161, R603). -/
def State.bankBody (b : Nat) (s : State) : Bytes := s.sect 0x07 b
def State.profile (b k : Nat) (s : State) : Bytes := slice (s.sect 0x08 b) (16 * k) 16

/-- Row, column and COMP byte of compartment `n` (R599). -/
def compRow (n : Nat) : Nat := n % 256 / 16
def compCol (n : Nat) : Nat := n % 16
def State.compByte (n : Nat) (s : State) : Nat := byteAt (s.bankBody (n / 256)) (16 + n % 256)
def State.compPresent (n : Nat) (s : State) : Bool := bit (s.compByte n) 4
def State.compDual (n : Nat) (s : State) : Bool := bit (s.compByte n) 5
def State.compBolt (n : Nat) (s : State) : Bool := bit (s.compByte n) 6
def State.compProfile (n : Nat) (s : State) : Bytes := s.profile (n / 256) (s.compByte n % 16)

/-- The present compartments of a Bank, ascending. -/
def State.present (b : Nat) (s : State) : List Nat := ((List.range 256).map (256 * b + ·)).filter fun n => s.compPresent n

/-- Fields of a profile (Table 17.1). -/
def pfType (p : Bytes) : Nat := byteAt p 0
def pfPeak (p : Bytes) : Nat := u16 p 2
def pfOn (p : Bytes) : Nat := u16 p 4 * 600
def pfMin (p : Bytes) : Nat := u16 p 6 * 600
def pfEnergy (p : Bytes) : Nat := u32 p 8
def pfHeat (p : Bytes) : Nat := u16 p 12
def pfRelock (p : Bytes) : Nat := byteAt p 14 * 600000000
def pfAjar (p : Bytes) : Nat := byteAt p 15 * 600000000

/-- Edge on which an order of this edge is applied on a Bank (Table 1.3). -/
def State.bankEdge (s : State) : Nat := s.now + 33

/-- Most records that a Bank holds for delivery (R34). -/
def heldMax : Nat := 64

/-- A record of Bank `b`, stamped on edge `t`: on its way, or held by the Bank while its link is not in SESSION (R34). -/
def State.bankLog (b t src code : Nat) (a0 : Nat := 0) (a1 : Nat := 0) (a2 : Nat := 0) (late : Bool := false) (s : State) : State :=
  let r : Rec := { cycle := t, slot := 10 + b, source := src, code := code, late := late, arg0 := a0, arg1 := a1, arg2 := a2 }
  if s.inSession (1 + b) then s.putRec r
  else s.modBank b fun k => if k.held.length < heldMax then { k with held := k.held ++ [r] } else { k with heldLost := k.heldLost + 1 }

/-- The final code of a ticket as Bank `b` gives it: sent now, or held with the Bank's records (R34, R145). -/
def State.bankAnswer (b ticket code : Nat) (result : Bytes) (s : State) : State :=
  if s.inSession (1 + b) then s.settleTicket ticket code result
  else s.modBank b fun k => { k with answers := k.answers ++ [(ticket, code, result)] }

/-- What a Bank held is delivered after a relink with its state intact (R34). -/
def State.bankDeliver (b : Nat) (s : State) : State :=
  let k := s.bank b
  let late := k.held.map fun r => (s.now + 33, r)
  let s := s.modLog fun l => { l with entry := { l.entry with flight := l.entry.flight ++ late } }
  let s := k.answers.foldl (fun s a => s.settleTicket a.1 a.2.1 a.2.2) s
  s.modBank b fun k => { k with held := [], answers := [] }

/-! ## Buckets -/

def State.bucket (die n : Nat) (s : State) : Bucket := tget {} s.pcr.buckets (1024 * die + n)
def State.setBucket (die n : Nat) (k : Bucket) (s : State) : State :=
  { s with pcr := { s.pcr with buckets := tset {} s.pcr.buckets (1024 * die + n) k } }

/-- The records of a PACER section (section 4.11 of the Formula). -/
def pacerRecs (b : Bytes) : List Bytes := (List.range (u16 b 0)).map fun i => slice b (8 + 16 * i) 16

/-- The buckets that the applied Formula lists for a die. -/
def State.bucketRecs (die : Nat) (s : State) : List Bytes := pacerRecs (s.sect 0x0E die)

/-- Fields of a bucket record. -/
def bkNum (r : Bytes) : Nat := u16 r 0
def bkTick (r : Bytes) : Nat := byteAt r 2
def bkUnit (r : Bytes) : Nat := byteAt r 3
def bkRate (r : Bytes) : Nat := u32 r 4
def bkCeil (r : Bytes) : Int := signed 32 (u32 r 8)
def bkDebt (r : Bytes) : Int := signed 32 (u32 r 12)

/-- The record of a bucket, when it exists (R166, R509). -/
def State.bucketRec (die n : Nat) (s : State) : Option Bytes := (s.bucketRecs die).find? fun r => bkNum r = n

/-- A bucket as the Formula sets it: LEVEL at CEIL and FRAC zero (R510). -/
def Bucket.ofRec (r : Bytes) : Bucket := { level := bkCeil r, rate := bkRate r, ceil := bkCeil r, debt := bkDebt r }

/-- The PACER section of a die is applied (R510). -/
def State.applyPacer (die : Nat) (s : State) : State :=
  let kept := s.pcr.buckets.filter fun e => e.1 / 1024 ≠ die
  let s := { s with pcr := { s.pcr with buckets := kept } }
  (s.bucketRecs die).foldl (fun s r => s.setBucket die (bkNum r) (Bucket.ofRec r)) s

/-- The least LEVEL (R514). -/
def levelMin : Int := -(2 ^ 31 : Nat)

/-- One refill by INC (R511). -/
def Bucket.refill (inc : Nat) (k : Bucket) : Bucket :=
  let sum := k.frac + inc
  let up := k.level + (sum / 65536 : Nat)
  if k.ceil ≤ up then { k with level := k.ceil, frac := 0 } else { k with level := up, frac := sum % 65536 }

/-- The last temperature reading presented before this edge, in quarters of a degree (R512, R689, R697). -/
def State.lastReading (die channel : Nat) (s : State) : Nat :=
  let r := tget {} s.pwr.readings (16 * die + channel)
  if r.edge = s.now ∧ r.presented then r.before else r.value

/-- The governor settings of a Bank that this edge uses (R688, R697). -/
def State.bankGovernor (b : Nat) (s : State) : Int × Int × Nat :=
  let g := tget { knee := 110, stop := 140, floor := 9000 } s.pwr.bankGov b
  if s.now < g.since + 1 ∧ g.since ≠ 0 then g.was else (g.knee, g.stop, g.floor)

/-- INC of a UNIT 2 bucket, scaled by temperature (R512). -/
def heatScale (t knee stop : Int) : Nat :=
  if t ≤ 4 * knee then 256 else if 4 * stop ≤ t then 0 else (256 * (4 * stop - t) / (4 * (stop - knee))).toNat

/-- INC of a bucket on this edge. -/
def State.bucketInc (die unit rate : Nat) (s : State) : Nat :=
  if die ≠ 0 ∧ unit = 2 then
    let (knee, stop, _) := s.bankGovernor (die - 1)
    rate * heatScale (signed 16 (s.lastReading (1 + die) 0)) knee stop / 256
  else rate

/-- A partner die runs with the Cadence: its FILONG domain is on and it is not held. -/
def State.dieRuns (die : Nat) (s : State) : Bool := s.powered (dFilong die) && !(s.link die).held && !(s.link die).dark

/-- BUCKET_TICK: the first tick of the bucket on or after this edge that has not happened (R511). -/
def execBucketTick (die num : Nat) (s : State) : Out :=
  onObject (die < 5 ∧ num < 512) (match s.bucketRec die num with
    | none => s
    | some r =>
      if !s.dieRuns die then s
      else
        let s := s.advanceTo (s.bucket die num).ticked
        let p := 2 ^ bkTick r
        let s := if s.now = (s.bucket die num).ticked then s.advanceTo (nextTick p s.now) else s.atTick p
        let k := s.bucket die num
        s.setBucket die num { k.refill (s.bucketInc die (bkUnit r) k.rate) with ticked := s.now })

/-- The level that a debit of this edge is judged by (R513, R528). -/
def Bucket.judged (t : Nat) (k : Bucket) : Int := if k.written = t ∧ t ≠ 0 then min k.level k.unwritten else k.level

/-- A debit of `c` is admitted after `already` admitted on the same edge (R513); `k` is the bucket before any of them. -/
def Bucket.admits (t already c : Nat) (k : Bucket) : Bool := 0 < k.judged t ∧ k.debt ≤ k.judged t - already - c

def Bucket.debit (c : Nat) (k : Bucket) : Bucket := { k with level := max levelMin (k.level - c) }
def Bucket.refuse (k : Bucket) : Bucket := { k with refused := satInc 0xFFFFFFFF k.refused }

/-- A rate change on edge `t` (R516). -/
def Bucket.change (rate : Nat) (ceil debt : Int) (t : Nat) (k : Bucket) : Bucket :=
  { k with rate := rate, ceil := ceil, debt := debt, frac := 0, level := max debt (min ceil k.level), written := t, unwritten := k.level }

/-- A FORGIVE on edge `t` (R517). -/
def Bucket.forgive (level : Int) (t : Nat) (k : Bucket) : Bucket :=
  { k with level := level, frac := 0, written := t, unwritten := k.level }

/-- Baton slot of a die: its Bank's, or that of Warden R for the Relay. -/
def dieSlot (die : Nat) : Nat := if die = 0 then 7 else 9 + die

/-- A record of a Pacer: the level before and after stand in ARG2. -/
def State.pacerLog (die t code n : Nat) (before after : Int) (s : State) : State :=
  let a2 := unsigned 32 before + 2 ^ 32 * unsigned 32 after
  if die = 0 then s.logAt t 7 0 code n 0 a2 else s.bankLog (die - 1) t 1024 code n 0 a2

/-- The largest amount that a profile of a Bank debits from a bucket of its UNIT (R515, R518). -/
def largestDebit (profiles : Bytes) (unit : Nat) : Nat :=
  ((List.range 16).map fun k =>
    let p := slice profiles (16 * k) 16
    if unit = 1 then pfEnergy p else pfHeat p).foldl max 0

/-- CEIL − DEBT admits every profile of the Bank (R518); a Relay bucket has no such bound. -/
def State.boundKept (die unit : Nat) (ceil debt : Int) (s : State) : Bool :=
  die = 0 ∨ ((largestDebit (s.sect 0x08 (die - 1)) unit : Nat) : Int) ≤ ceil - debt

/-! ## Heats -/

/-- The next heat edge of a Bank, under the interval in force (R519, R532). -/
def Bank.nextHeat (t : Nat) (k : Bank) : Nat :=
  let from_ := max t (k.lastHeat + 1)
  let old := ceilDiv from_ (k.heatWas * 600) * (k.heatWas * 600)
  if old ≤ k.heatFrom then old else ceilDiv (max from_ (k.heatFrom + 1)) (k.heatUs * 600) * (k.heatUs * 600)

/-- The class of a request (Table 2.5). -/
def PulseReq.cls (r : PulseReq) : Nat := if r.unlock then 4 else 2

/-- The order of R521. -/
def reqBefore (a b : Nat × PulseReq) : Bool :=
  if a.2.cls ≠ b.2.cls then a.2.cls < b.2.cls else if a.2.cause ≠ b.2.cause then a.2.cause < b.2.cause else a.1 < b.1

/-- A request put in its place. -/
def insertReq (x : Nat × PulseReq) : List (Nat × PulseReq) → List (Nat × PulseReq)
  | [] => [x]
  | y :: ys => if reqBefore x y then x :: y :: ys else y :: insertReq x ys

/-- The requests of a Bank, by compartment. -/
def State.requests (b : Nat) (s : State) : List (Nat × PulseReq) :=
  s.comps.filterMap fun e => if e.1 / 256 = b then e.2.req.map fun r => (e.1, r) else none

/-- A pulse of the Bank runs on edge `t` (R531, R601). -/
def PulseReq.runs (t : Nat) (r : PulseReq) : Bool := r.start.isSome && decide (t < r.ends)
def State.pulseRuns (b t : Nat) (s : State) : Bool := (s.requests b).any fun x => x.2.runs t

/-- Pending requests that a heat on `t` may consider, in the order of R521. -/
def State.pendingReqs (b t : Nat) (s : State) : List (Nat × PulseReq) :=
  ((s.requests b).filter fun x => x.2.start.isNone ∧ x.2.applied < t).foldl (fun l x => insertReq x l) []

/-- E_AVAIL in µJ (R524). -/
def State.energyAvail (b : Nat) (s : State) : Nat :=
  let body := s.bankBody b
  let (_, _, floor) := s.bankGovernor b
  let v := s.lastReading (2 + b) 2 * u16 body 10
  if v ≤ 100 * floor then 0 else u16 body 12 * 100 * (v * v - 10000 * (floor * floor)) / 20000000000

/-- What a heat has admitted so far. -/
structure Admission where
  taken : List Nat := []
  current : Nat := 0
  energy : Nat := 0
  heat : Nat := 0
  /-- reason of Table 14.2 that ended it -/
  ended : Nat := 0
  deriving DecidableEq, Repr

/-- One candidate tried (R523). -/
def admitOne (rowMa avail : Nat) (t : Nat) (energyBuckets heatBuckets : List Bucket) (a : Admission) (x : Nat × Bytes) : Admission :=
  let (n, p) := x
  if a.ended ≠ 0 then a
  else if rowMa < a.current + pfPeak p then { a with ended := 5 }
  else if avail < a.energy + pfEnergy p then { a with ended := 6 }
  else if !(energyBuckets.all fun k => k.admits t a.energy (pfEnergy p)) then { a with ended := 7 }
  else if !(heatBuckets.all fun k => k.admits t a.heat (pfHeat p)) then { a with ended := 8 }
  else { taken := a.taken ++ [n], current := a.current + pfPeak p, energy := a.energy + pfEnergy p, heat := a.heat + pfHeat p }

/-- The buckets of a Bank with a UNIT, by number. -/
def State.unitBuckets (b unit : Nat) (s : State) : List (Nat × Bucket) :=
  ((s.bucketRecs (1 + b)).filter fun r => bkUnit r = unit).map fun r => (bkNum r, s.bucket (1 + b) (bkNum r))

/-- The debits of a heat, and the refusals of the candidate that ended it (R513, R515). -/
def State.debitUnit (b unit total : Nat) (refused : Option Nat) (s : State) : State :=
  (s.unitBuckets b unit).foldl (fun s x =>
    let no := match refused with | some c => !x.2.admits s.now total c | none => false
    let k := x.2.debit total
    s.setBucket (1 + b) x.1 (if no then k.refuse else k)) s

/-- The skips counted since the last record are logged, when a new reason or a dispatch ends them (R527). -/
def State.endSkips (b : Nat) (s : State) : State :=
  let k := s.bank b
  if k.skips = 0 then s
  else (s.modBank b fun k => { k with skips := 0 }).bankLog b s.now 1024 0x0902 0 k.skip k.skips

/-- A heat is skipped for a reason of Table 14.2 (R527). -/
def State.skipHeat (b reason : Nat) (s : State) : State :=
  let s := if (s.bank b).skip = reason then s else s.endSkips b
  s.modBank b fun k => { k with skip := reason, skips := k.skips + 1, skipped := satInc 65535 k.skipped }

/-- The pulses of a heat start (R525, R601). -/
def State.dispatch (b : Nat) (a : Admission) (s : State) : State :=
  let row := match a.taken with | n :: _ => compRow n | [] => 0
  let mask := (a.taken.map fun n => 2 ^ compCol n).sum
  let s := (s.endSkips b).modBank b fun k => { k with row := row, dispatched := satInc 65535 k.dispatched, skip := 0 }
  let start (p : Bytes) (r : PulseReq) : PulseReq := { r with start := some s.now, ends := s.now + pfOn p }
  let s := a.taken.foldl (fun s n => s.modComp n fun c => { c with req := c.req.map (start (s.compProfile n)) }) s
  s.bankLog b s.now 1024 0x0901 row mask

/-- A heat edge with requests pending (R520 to R527). -/
def State.heat (b : Nat) (pend : List (Nat × PulseReq)) (s : State) : State :=
  let k := s.bank b
  let cands := if k.lockdown then pend.filter fun x => !x.2.unlock else pend
  if s.pulseRuns b s.now then s.skipHeat b 1
  else if k.halted then s.skipHeat b 2
  else if s.restarting then s.skipHeat b 3
  else match cands with
    | [] => s.skipHeat b 4
    | first :: _ =>
      let row := (cands.filter fun x => compRow x.1 = compRow first.1).map fun x => (x.1, s.compProfile x.1)
      let eb := (s.unitBuckets b 1).map Prod.snd
      let hb := (s.unitBuckets b 2).map Prod.snd
      let a := row.foldl (admitOne (u16 (s.bankBody b) 8) (s.energyAvail b) s.now eb hb) {}
      let next := (row.map Prod.snd).drop a.taken.length
      let want (reason : Nat) (f : Bytes → Nat) : Option Nat := if a.ended = reason then next.head?.map f else none
      let s := (s.debitUnit b 1 a.energy (want 7 pfEnergy)).debitUnit b 2 a.heat (want 8 pfHeat)
      if a.taken.isEmpty then s.skipHeat b a.ended else s.dispatch b a

/-- A heat edge with requests pending of a Bank that may not dispatch because of its link or domain: the first reason of
Table 14.2 that applies is recorded, and where none does the skip is only counted (R520, R527). -/
def State.heatBarred (b : Nat) (pend : List (Nat × PulseReq)) (s : State) : State :=
  let k := s.bank b
  if s.pulseRuns b s.now then s.skipHeat b 1
  else if k.halted then s.skipHeat b 2
  else if s.restarting then s.skipHeat b 3
  else if k.lockdown && pend.all (fun x => x.2.unlock) then s.skipHeat b 4
  else s.modBank b fun k => { k with skipped := satInc 65535 k.skipped }

/-- HEAT_EDGE: the Bank's next heat edge. A Bank whose link is not in SESSION, or whose domain drains or is off, dispatches
nothing (R34, R520, R620). -/
def execHeatEdge (bank : Nat) (s : State) : Out :=
  onObject (bank < 4) (
    if !s.bankDeclared bank ∨ !s.dieRuns (1 + bank) ∨ !s.powered (dBank bank) then s
    else
      let s := s.advanceTo ((s.bank bank).nextHeat s.now)
      let s := s.modBank bank fun k => { k with lastHeat := s.now }
      let pend := s.pendingReqs bank s.now
      if pend.isEmpty then s
      else if !s.inSession (1 + bank) ∨ !s.domainOn (dBank bank) then s.heatBarred bank pend
      else s.heat bank pend)

/-! ## Registers -/

/-- BNK[b].PCR_HEAT. -/
def State.pcrHeat (b : Nat) (s : State) : Nat :=
  let k := s.bank b
  let n := ((s.requests b).filter fun x => x.2.start.isNone).length
  k.heatUs + 16384 * b2n k.halted + 32768 * b2n (s.pulseRuns b s.now) + 65536 * k.row + 2 ^ 20 * k.skip + 2 ^ 24 * min 31 n

/-- PCR_LEVEL, PCR_RATE, PCR_CEIL, PCR_DEBT, PCR_CFG and PCR_REFUSED of a bucket; zero where it does not exist. -/
def State.pcrReg (die n i : Nat) (s : State) : Nat :=
  match s.bucketRec die n with
  | none => 0
  | some r =>
    let k := s.bucket die n
    match i with
    | 0 => unsigned 32 k.level
    | 1 => k.rate
    | 2 => unsigned 32 k.ceil
    | 3 => unsigned 32 k.debt
    | 4 => k.frac + 65536 * bkTick r + 2 ^ 21 * bkUnit r + 2 ^ 23
    | 5 => k.refused
    | _ => 0

/-- A staging register. -/
def State.pcrStage (die i : Nat) (s : State) : Nat := tget 0 s.pcr.stage (4 * die + i)
def State.setPcrStage (die i v : Nat) (s : State) : State :=
  { s with pcr := { s.pcr with stage := tset 0 s.pcr.stage (4 * die + i) v } }

/-- A Bank window that no die stands behind (R28, R46). -/
def State.dieAbsent (die : Nat) (s : State) : Bool := die ≠ 0 ∧ (s.part.banks < die ∨ (s.link die).state = .absent)

/-- Address of PCR_GO of a die in the core address map. -/
def pcrGoAddr (die : Nat) : Nat := 0x4104F00C + 0x1000000 * die

/-- A write of PCR_GO by the Keeper core, the only core that reaches it. -/
def State.pcrGo (core : CoreId) (die : Nat) (v : Word) (body : Nat → Bytes → State → State) (s : State) : State :=
  if core = .steward ∨ s.dieAbsent die then s.accessFault core (pcrGoAddr die)
  else if !s.inSession die then s
  else
    let s := s.logReserved core (pcrGoAddr die) (v.toNat / 1024 * 1024)
    let n := v.toNat % 512
    match s.bucketRec die n with
    | none => s
    | some r => body n r s

/-- PCR_GO_RATE: OP 0, a rate change from the staging registers, as the command's (R516, R518). A staged change that the
command would refuse changes nothing. -/
def execPcrGoRate (core : CoreId) (die : Nat) (value : Word) (s : State) : Out :=
  onObject (die < 5) (s.pcrGo core die (value &&& ~~~0x200#32) (fun n r s =>
    let ceil := signed 32 (s.pcrStage die 1)
    let debt := signed 32 (s.pcrStage die 2)
    if ceil ≤ 0 ∨ 0 < debt ∨ !s.boundKept die (bkUnit r) ceil debt then s
    else
      let k := s.bucket die n
      let k' := k.change (s.pcrStage die 0) ceil debt s.now
      (s.setBucket die n k').pacerLog die s.now 0x0903 n k.level k'.level))

/-- PCR_GO_FORGIVE: OP 1, LEVEL from the staging register (R517). -/
def execPcrGoForgive (core : CoreId) (die : Nat) (value : Word) (s : State) : Out :=
  onObject (die < 5) (s.pcrGo core die (value &&& ~~~0x200#32) (fun n _ s =>
    let level := signed 32 (s.pcrStage die 1)
    let k := s.bucket die n
    if level < k.debt ∨ k.ceil < level then s
    else (s.setBucket die n (k.forgive level s.now)).pacerLog die s.now 0x0904 n k.level level))

/-! ## Commands -/

/-- The checks that every PCR command on a bucket makes: 0x0001, then 0x0004 (Table 14.3). -/
def State.bucketChecks (o : Outstanding) (die n : Nat) (body : Bytes → State → State) (s : State) : State :=
  match s.bucketRec die n with
  | none =>
    s.refuse o (if 1 ≤ die ∧ die ≤ s.part.banks ∧ !s.bankDeclared (die - 1) then 0x0004 else 0x0001)
  | some r => if !s.inSession die then s.refuse o 0x0004 else body r s

/-- Edge on which an order of this edge is applied on a die. -/
def State.dieEdge (die : Nat) (s : State) : Nat := if die = 0 then s.relayEdge else s.bankEdge

/-- PCR.GET_BUCKET. -/
def execPcrGetBucket (r : Req) (s : State) : Out :=
  .next (s.command 0xB000 r (fun o s =>
    s.wellFormed o 4 [(1, 1)] fun s =>
      let die := byteAt o.payload 0
      let n := u16 o.payload 2
      s.bucketChecks o die n fun r s =>
        let k := s.bucket die n
        s.done o (le 1 die ++ le 1 (bkUnit r) ++ le 1 (bkTick r) ++ zeros 1 ++ le 2 n ++ le 2 k.frac ++ le 4 (unsigned 32 k.level)
          ++ le 4 k.rate ++ le 4 (unsigned 32 k.ceil) ++ le 4 (unsigned 32 k.debt) ++ le 4 k.refused)))

/-- PCR.SET_RATE (R516, R518, R529). -/
def execPcrSetRate (r : Req) (s : State) : Out :=
  .next (s.command 0xB001 r (fun o s =>
    let die := byteAt o.payload 0
    let n := u16 o.payload 2
    let ceil := signed 32 (u32 o.payload 8)
    let debt := signed 32 (u32 o.payload 12)
    s.formedBy o 16 [(decide (ceil ≤ 0), 8), (decide (0 < debt), 12)] [(1, 1)] fun s =>
      s.bucketChecks o die n fun r s =>
        s.order o [objBucket die n] fun s =>
        s.checks o [(!s.boundKept die (bkUnit r) ceil debt, 0x0002)] fun s =>
          let s := s.takesEffect o.port o.opcode [objBucket die n]
          let t := s.dieEdge die
          let k := s.bucket die n
          let k' := k.change (u32 o.payload 4) ceil debt t
          ((s.setBucket die n k').pacerLog die t 0x0903 n k.level k'.level).done o
            (le 4 (unsigned 32 k'.level) ++ le 8 (baton t (dieSlot die)))))

/-- PCR.FORGIVE (R517, R529). -/
def execPcrForgive (r : Req) (s : State) : Out :=
  .next (s.command 0xB002 r (fun o s =>
    s.wellFormed o 8 [(1, 1)] fun s =>
      let die := byteAt o.payload 0
      let n := u16 o.payload 2
      let level := signed 32 (u32 o.payload 4)
      s.bucketChecks o die n fun _ s =>
        let k := s.bucket die n
        s.order o [objBucket die n] fun s =>
        s.checks o [(decide (level < k.debt ∨ k.ceil < level), 0x0003)] fun s =>
          let s := s.takesEffect o.port o.opcode [objBucket die n]
          let t := s.dieEdge die
          ((s.setBucket die n (k.forgive level t)).pacerLog die t 0x0904 n k.level level).done o
            (le 4 (unsigned 32 k.level) ++ le 4 (unsigned 32 level))))

/-- PCR.SET_HEAT (R532). -/
def execPcrSetHeat (r : Req) (s : State) : Out :=
  .next (s.command 0xB003 r (fun o s =>
    let b := byteAt o.payload 0
    let us := u16 o.payload 2
    s.formedBy o 4 [(decide (3 < b), 0), (decide (us < 250 ∨ 10000 < us), 2)] [(1, 1)] fun s =>
      s.checks o [(!s.bankDeclared b || !s.inSession (1 + b), 0x0004)] fun s =>
        s.order o [objBucket (1 + b) 512] fun s =>
          let s := s.takesEffect o.port o.opcode [objBucket (1 + b) 512]
          let t := s.bankEdge
          let s := s.modBank b fun k => { k with heatWas := k.heatUs, heatFrom := t, heatUs := us }
          s.done o (le 8 (nextTick (us * 600) t))))

end Sys2Proof.Machine
end

