-- ==== Sys2Proof/Machine/Compartments.lean ====
section
/-! DEFINITION. Bank dies and compartments: the actuator matrix, the sense matrix, the compartment states and the Keeper's
policies (chapter 17). -/

namespace Sys2Proof.Machine

/-! ## States -/

def stLocked : Nat := 0
def stUnlockPending : Nat := 1
def stUnlocked : Nat := 2
def stOpen : Nat := 3
def stUnlatched : Nat := 4
def stRelockPending : Nat := 5
def stFault : Nat := 7
def stDisabled : Nat := 8

/-- The code a compartment reports (R609). -/
def Comp.code (c : Comp) : Nat := if c.state = stLocked ∧ c.freeze then 6 else c.state

/-- The code, or NOT_PRESENT. -/
def State.compCode (n : Nat) (s : State) : Nat := if s.compPresent n then (s.comp n).code else 15

/-- The profile's type is PULSE (R604). -/
def State.isPulse (n : Nat) (s : State) : Bool := pfType (s.compProfile n) = 1

/-- The bolt condition: a PULSE compartment without a bolt contact is thrown (R612). -/
def State.boltThrown (n : Nat) (s : State) : Bool := if s.compBolt n then (s.comp n).bolt else true

/-- The power state applied on the Bank on an edge is WATCH (R668, R698). -/
def Bank.inWatch (t : Nat) (k : Bank) : Bool := if t < k.watchFrom then k.watchWas else k.watch

/-- A power state is applied on a Bank from edge `t`. -/
def State.applyWatch (b t : Nat) (watch : Bool) (s : State) : State :=
  s.modBank b fun k => { k with watch := watch, watchFrom := t, watchWas := k.inWatch s.now }

/-- The scan period in force (R606). -/
def State.scanPeriod (b : Nat) (s : State) : Nat :=
  (if (s.bank b).inWatch s.now then byteAt (s.bankBody b) 5 else byteAt (s.bankBody b) 4) * 600000

/-- The debounce length (R607), and the verify timer's (R611). -/
def State.debounceLen (b : Nat) (s : State) : Nat := byteAt (s.bankBody b) 6 * 600000
def State.verifyLen (b : Nat) (s : State) : Nat := s.debounceLen b + 2 * s.scanPeriod b

/-- A record of a compartment, in its Bank's slot. -/
def State.compLog (n t code a0 a1 cause : Nat) (late : Bool := false) (s : State) : State :=
  s.bankLog (n / 256) t n code a0 a1 cause late

/-- The Bank's slot. -/
def compSlot (n : Nat) : Nat := 10 + n / 256

/-- A request is issued (R610); one that falls due while an earlier pulse still runs is issued when that pulse ends. -/
def State.issueReq (n : Nat) (unlock : Bool) (t cause : Nat) (s : State) : State :=
  let r : PulseReq := { unlock := unlock, cause := cause, applied := t }
  s.modComp n fun c => match c.req with | some q => if q.start.isSome then c else { c with req := some r } | none => { c with req := some r }

/-- A request not dispatched is cancelled; a dispatched one runs to its end (R610). -/
def Comp.cancelReq (c : Comp) : Comp := match c.req with | some r => if r.start.isNone then { c with req := none } else c | none => c

/-- The request is pending: not dispatched. -/
def Comp.reqPending (c : Comp) : Bool := match c.req with | some r => r.start.isNone | none => false

/-- The state is reported to the Keeper (R612). -/
def State.reportState (n : Nat) (s : State) : State :=
  if s.inSession (1 + n / 256) then s.modComp n fun c => { c with last := c.code } else s

/-- A change of state on edge `t`: the timers of the state left stop, those of the new one start, and the change is logged and
reported (R612, Table 17.5). -/
def State.setComp (n st fault t cause : Nat) (s : State) : State :=
  let before := (s.comp n).code
  let p := s.compProfile n
  let relock := if st = stUnlocked then some (t + pfRelock p) else none
  let ajar := if st = stOpen ∧ pfAjar p ≠ 0 then some (t + pfAjar p) else none
  let s := s.modComp n fun c =>
    { c with state := st, cause := fault, relock := relock, ajar := ajar, verify := none }
  if (s.comp n).code = before then s else (s.compLog n t 0x0A01 before (s.comp n).code cause).reportState n

/-- CLOSED_UNLATCHED with its entry action: a relock request, or the verify timer of a PULSE latch (Table 17.3). -/
def State.enterUnlatched (n t cause : Nat) (s : State) : State :=
  let s := s.setComp n stUnlatched 0 t cause
  if s.isPulse n then s.modComp n fun c => { c with verify := some (t + s.verifyLen (n / 256)) }
  else (s.setComp n stRelockPending 0 t cause).issueReq n false t (baton t (compSlot n))

/-- The derived state of R613. -/
def State.deriveComp (n t cause : Nat) (s : State) : State :=
  let c := s.comp n
  if !c.door then s.setComp n stOpen 0 t cause
  else if !s.boltThrown n then s.enterUnlatched n t cause
  else s.setComp n stLocked 0 t cause

/-! ## Notices -/

/-- The result of a notice with final code OK (section 12). -/
def State.okResult (n result t : Nat) (s : State) : Bytes :=
  le 1 result ++ le 1 (s.comp n).code ++ zeros 2 ++ le 8 (baton t (compSlot n))

/-- The result of one with final code REFUSED_STATE. -/
def refusedResult (detail : Nat) : Bytes := le 2 detail ++ zeros 2

/-- The OPEN that awaits its notice is answered. -/
def State.openNotice (n code : Nat) (result : Bytes) (s : State) : State :=
  match (s.comp n).openTicket with
  | none => s
  | some k => (s.modComp n fun c => { c with openTicket := none }).bankAnswer (n / 256) k code result

/-- Every RELOCK that awaits its notice is answered. -/
def State.relockNotice (n code : Nat) (result : Bytes) (s : State) : State :=
  let ks := (s.comp n).relockTickets
  ks.foldl (fun s k => s.bankAnswer (n / 256) k code result) (s.modComp n fun c => { c with relockTickets := [] })

def State.openOk (n result t : Nat) (s : State) : State := s.openNotice n cOk (s.okResult n result t)
def State.openRefused (n detail : Nat) (s : State) : State := s.openNotice n cState (refusedResult detail)
def State.relockOk (n result t : Nat) (s : State) : State := s.relockNotice n cOk (s.okResult n result t)
def State.relockRefused (n detail : Nat) (s : State) : State := s.relockNotice n cState (refusedResult detail)

/-- An undispatched unlock request is cancelled, logged, and its OPEN answered (Table 17.3, R250). -/
def State.cancelUnlock (n t cause code : Nat) (result : Bytes) (s : State) : State :=
  let c := s.comp n
  if c.state = stUnlockPending ∧ c.reqPending then
    let s := (s.modComp n Comp.cancelReq).compLog n t 0x0A0B c.code stLocked cause
    (s.setComp n stLocked 0 t cause).openNotice n code result
  else s

/-- An UNLOCKED compartment relocks: a PULSE latch by its bolt, the others by a relock request with a Baton of the cause
(Table 17.3). -/
def State.relockUnlocked (n t cause : Nat) (s : State) : State :=
  if s.isPulse n then
    if s.boltThrown n then (s.setComp n stLocked 0 t cause).relockOk n 2 t
    else (s.setComp n stFault 3 t cause).relockRefused n 0x0004
  else (s.setComp n stRelockPending 0 t cause).issueReq n false t cause

/-- The relock request of an UNLOCKED BISTABLE or MOTOR_TO_STOP compartment (R610, Table 17.7). -/
def State.relockIfOpenable (n t cause : Nat) (s : State) : State :=
  if (s.comp n).state = stUnlocked ∧ !s.isPulse n then s.relockUnlocked n t cause else s

/-! ## Timers -/

/-- The verify timer's terminal edge (Table 17.3). -/
def State.verifyExpires (n : Nat) (s : State) : State :=
  match (s.comp n).verify with
  | none => s
  | some t =>
    let cause := baton t (compSlot n)
    let s := s.modComp n fun c => { c with verify := none }
    let c := s.comp n
    if c.state = stUnlockPending then
      (((s.compLog n t 0x0A08 c.code stLocked cause).setComp n stLocked 0 t cause).openRefused n 0x0012)
    else if c.state = stUnlatched then s.setComp n stFault 3 t cause
    else if c.state = stRelockPending then (s.setComp n stFault 4 t cause).relockRefused n 0x0004
    else s

/-- The relock timer's terminal edge. -/
def State.relockExpires (n : Nat) (s : State) : State :=
  match (s.comp n).relock with
  | none => s
  | some t => (s.modComp n fun c => { c with relock := none }).relockUnlocked n t (baton t (compSlot n))

/-- The ajar timer's terminal edge; it does not restart. -/
def State.ajarExpires (n : Nat) (s : State) : State :=
  match (s.comp n).ajar with
  | none => s
  | some t => (s.modComp n fun c => { c with ajar := none }).compLog n t 0x0A0A stOpen stOpen (baton t (compSlot n))

/-- A terminal edge has come by edge `t`. -/
def dueBy (t : Nat) (x : Option Nat) : Bool := match x with | some e => e ≤ t | none => false

/-- The state's timers that ended on or before edge `t` come first (R76, R623, R626). -/
def State.settleTimers (n t : Nat) (s : State) : State :=
  let s := if dueBy t (s.comp n).relock then s.relockExpires n else s
  let s := if dueBy t (s.comp n).verify then s.verifyExpires n else s
  if dueBy t (s.comp n).ajar then s.ajarExpires n else s

/-! ## Contacts -/

/-- A door opens (Table 17.3). -/
def State.doorOpens (n t : Nat) (s : State) : State :=
  let c := s.comp n
  let cause := baton t (compSlot n)
  let forced (s : State) : State := s.compLog n t 0x0A06 c.code stOpen cause
  if c.state = stLocked then (forced s).setComp n stOpen 0 t cause
  else if c.state = stUnlockPending then
    if c.reqPending then (((forced s).modComp n Comp.cancelReq).setComp n stOpen 0 t cause).openRefused n 0x0017
    else let s := s.setComp n stOpen 0 t cause; s.openOk n 0 t
  else if c.state = stUnlocked ∨ c.state = stUnlatched then s.setComp n stOpen 0 t cause
  else if c.state = stRelockPending then
    (((s.modComp n Comp.cancelReq).compLog n t 0x0A09 c.code stOpen cause).setComp n stOpen 0 t cause).relockRefused n 0x000B
  else s

/-- A door closes. -/
def State.doorCloses (n t : Nat) (s : State) : State :=
  let cause := baton t (compSlot n)
  if (s.comp n).state ≠ stOpen then s
  else if !s.boltThrown n then s.enterUnlatched n t cause
  else if s.isPulse n then s.setComp n stLocked 0 t cause
  else s.setComp n stFault 5 t cause

/-- A bolt is withdrawn. -/
def State.boltWithdrawn (n t : Nat) (s : State) : State :=
  let c := s.comp n
  let cause := baton t (compSlot n)
  if c.state = stLocked ∧ c.req.isNone then (s.compLog n t 0x0A07 c.code stUnlatched cause).enterUnlatched n t cause
  else if c.state = stUnlockPending ∧ c.verify.isSome then let s := s.setComp n stUnlocked 0 t cause; s.openOk n 0 t
  else s

/-- A bolt is thrown. -/
def State.boltThrows (n t : Nat) (s : State) : State :=
  let c := s.comp n
  let cause := baton t (compSlot n)
  if c.state = stUnlatched then s.setComp n stLocked 0 t cause
  else if c.state = stRelockPending ∧ c.verify.isSome then let s := s.setComp n stLocked 0 t cause; s.relockOk n 0 t
  else s

/-- The event code of a contact that has become `v` (R607). -/
def contactCode (bolt v : Bool) : Nat := match bolt, v with
  | false, false => 0x0A02 | false, true => 0x0A03 | true, true => 0x0A04 | true, false => 0x0A05

/-- A debounced state changes on edge `t`: logged, and the transitions it drives follow. On the terminal edge of the verify
timer it has no more effect than its late record (R626). -/
def State.contactChange (n t : Nat) (bolt v : Bool) (s : State) : State :=
  let late := bolt ∧ (s.comp n).verify = some t
  let s := s.settleTimers n t
  let code := (s.comp n).code
  let s := s.modComp n fun c => if bolt then { c with bolt := v } else { c with door := v }
  let s := s.compLog n t (contactCode bolt v) code code (baton t (compSlot n)) late
  if late then s
  else match bolt, v with
    | false, false => s.doorOpens n t
    | false, true => s.doorCloses n t
    | true, true => s.boltThrows n t
    | true, false => s.boltWithdrawn n t

/-- A contact's debounce timer, debounced state and last sample. -/
def Comp.timerOf (bolt : Bool) (c : Comp) : Option Nat := if bolt then c.boltTimer else c.doorTimer
def Comp.debounced (bolt : Bool) (c : Comp) : Bool := if bolt then c.bolt else c.door
def Comp.sample (bolt : Bool) (c : Comp) : Bool := if bolt then c.rawBolt else c.rawDoor
def Comp.setTimer (bolt : Bool) (t : Option Nat) (c : Comp) : Comp := if bolt then { c with boltTimer := t } else { c with doorTimer := t }
def Comp.setSample (bolt v : Bool) (c : Comp) : Comp := if bolt then { c with rawBolt := v } else { c with rawDoor := v }

/-- A debounce timer reaches its terminal edge (R607). -/
def State.debounceEnds (n : Nat) (bolt : Bool) (s : State) : State :=
  match (s.comp n).timerOf bolt with
  | none => s
  | some t =>
    let s := s.modComp n (Comp.setTimer bolt none)
    let v := (s.comp n).sample bolt
    if v = (s.comp n).debounced bolt then s else s.contactChange n t bolt v

/-- DEBOUNCE_EXPIRY (R607). -/
def execDebounceExpiry (comp : Nat) (bolt : Bool) (s : State) : Out :=
  onObject (comp < 1024) (match (s.comp comp).timerOf bolt with
    | none => s
    | some t => (s.advanceTo t).debounceEnds comp bolt)

/-- A running MOTOR_TO_STOP pulse sees its target: it ends on the next edge (R608). -/
def State.stopSample (n : Nat) (thrown : Bool) (s : State) : State :=
  let p := s.compProfile n
  let stop (r : PulseReq) : PulseReq :=
    match r.start with
    | some h => if h + pfMin p ≤ s.now ∧ s.now < r.ends ∧ thrown ≠ r.unlock then { r with ends := min r.ends (s.now + 1) } else r
    | none => r
  if pfType p = 2 then s.modComp n fun c => { c with req := c.req.map stop } else s

/-- One sample of a contact (R607, R625). -/
def State.takeSample (n : Nat) (bolt v : Bool) (s : State) : State :=
  let b := n / 256
  if !(s.bank b).synced then s.modComp n (Comp.setSample bolt v)
  else
    let timer := (s.comp n).timerOf bolt
    let late := timer = some s.now
    let s := if dueBy s.now timer then s.debounceEnds n bolt else s
    let s := if late ∧ v ≠ (s.comp n).debounced bolt then
        s.compLog n s.now (contactCode bolt v) (s.comp n).code (s.comp n).code (baton s.now (compSlot n)) true
      else s
    s.modComp n fun c =>
      let t := if v = c.debounced bolt then none
        else match c.timerOf bolt with | some t => some t | none => some (s.now + s.debounceLen b)
      (c.setSample bolt v).setTimer bolt t

/-- The contacts of one compartment, from the returns of its row: 0 is closed (R605). -/
def State.senseComp (n : Nat) (returns : BitVec 32) (s : State) : State :=
  let c := compCol n
  let s := s.takeSample n false (!returns.getLsbD (2 * c))
  if s.compBolt n then
    let thrown := !returns.getLsbD (2 * c + 1)
    (s.takeSample n true thrown).stopSample n thrown
  else s

/-- The first complete scan sets every debounced state; a RESYNC fault clears on any complete scan (R607, Table 17.3). -/
def State.completeScan (b : Nat) (s : State) : State :=
  let first := !(s.bank b).synced
  let s := s.modBank b fun k => { k with synced := true, scans := (k.scans + 1) % 65536 }
  (s.present b).foldl (fun s n =>
    let s := if first then s.modComp n fun c => { c with door := c.rawDoor, bolt := c.rawBolt } else s
    if (s.comp n).state = stFault ∧ (s.comp n).cause = 1 then s.deriveComp n s.now (baton s.now (compSlot n)) else s) s

/-- The next sample edge of row `row` (R606): after edge `last`, on or after `t`. -/
def sampleEdge (p row t last : Nat) : Nat :=
  let off := 1024 * (row + 1) - 1
  ceilDiv (max t (last + 1) - off) p * p + off

/-- SENSE_SCAN_ROW: the row's sample edge (R605 to R608). -/
def execSenseScanRow (bank row : Nat) (returns : BitVec 32) (s : State) : Out :=
  onObject (bank < 4 ∧ row < 16) (
    let rows := byteAt (s.bankBody bank) 0
    if !s.bankDeclared bank ∨ rows ≤ row ∨ !s.dieRuns (1 + bank) ∨ !s.powered (dBank bank) then s
    else
      let s := s.advanceTo (sampleEdge (s.scanPeriod bank) row s.now (s.bank bank).lastSample)
      let k := s.bank bank
      let seen := if row = 0 then 1 else if row = k.seen then k.seen + 1 else 0
      let s := s.modBank bank fun k => { k with seen := seen, lastSample := s.now }
      let s := ((s.present bank).filter fun n => compRow n = row).foldl (fun s n => s.senseComp n returns) s
      if row + 1 = rows ∧ seen = rows then s.completeScan bank else s)

/-- RELOCK_TIMER_EXPIRY. -/
def execRelockTimerExpiry (comp : Nat) (s : State) : Out :=
  onObject (comp < 1024) (match (s.comp comp).relock with
    | none => s
    | some t => (s.advanceTo t).relockExpires comp)

/-- AJAR_TIMER_EXPIRY. -/
def execAjarTimerExpiry (comp : Nat) (s : State) : Out :=
  onObject (comp < 1024) (match (s.comp comp).ajar with
    | none => s
    | some t => (s.advanceTo t).ajarExpires comp)

/-- VERIFY_TIMER_EXPIRY. -/
def execVerifyTimerExpiry (comp : Nat) (s : State) : Out :=
  onObject (comp < 1024) (match (s.comp comp).verify with
    | none => s
    | some t => (s.advanceTo t).verifyExpires comp)

/-! ## Pulses -/

/-- The Bank's claim is released when no pulse runs and none is pending: its drain ends on the next edge (R620, R682). -/
def State.bankClaim (b : Nat) (s : State) : State :=
  let d := s.domain (dBank b)
  if d.condition = .drain ∧ d.drop.isNone ∧ (s.requests b).isEmpty then s.drainEnds (dBank b) (s.now + 1) false else s

/-- A pulse ends (Table 17.3): a PULSE latch is released, the others verify. -/
def State.pulseEnds (n : Nat) (r : PulseReq) (s : State) : State :=
  let c := s.comp n
  let t := s.now
  let cause := baton t (compSlot n)
  let s := (s.modComp n fun c => { c with req := none }).modBank (n / 256) fun k => { k with endedAt := some t }
  if c.state = (if r.unlock then stRelockPending else stUnlockPending) then s.issueReq n (!r.unlock) t cause
  else if c.state = stUnlockPending ∧ s.isPulse n then let s := s.setComp n stUnlocked 0 t cause; s.openOk n 0 t
  else if c.state = stUnlockPending ∨ c.state = stRelockPending then
    s.modComp n fun c => { c with verify := some (t + s.verifyLen (n / 256)) }
  else s

/-- The dispatched pulse on a column of a Bank. -/
def State.pulseOn (b col : Nat) (s : State) : Option (Nat × PulseReq) :=
  (s.requests b).find? fun x => x.2.start.isSome ∧ compCol x.1 = col

/-- PULSE_END: the column's gate is off from the pulse's end edge (R601). -/
def execPulseEnd (bank col : Nat) (s : State) : Out :=
  onObject (bank < 4 ∧ col < 16) (match s.pulseOn bank col with
    | none => s
    | some (n, r) => ((s.advanceTo r.ends).pulseEnds n r).bankClaim bank)

/-- A compartment faults with its running pulse cut. -/
def State.cutPulse (n cause : Nat) (detail : Nat) (s : State) : State :=
  let s := s.modComp n fun c => { c with req := none }
  let s := s.setComp n stFault cause s.now (baton s.now (compSlot n))
  (s.openRefused n detail).relockRefused n detail

/-- OVERCURRENT: OVER presented on the driven row (R602, R627). -/
def execOvercurrent (bank row : Nat) (s : State) : Out :=
  onObject (bank < 4 ∧ row < 16) (
    let heat := (s.requests bank).filter fun x => x.2.start.isSome ∧ compRow x.1 = row
    if heat.isEmpty ∧ !(decide ((s.bank bank).row = row) && decide ((s.bank bank).endedAt = some s.now)) then s
    else
      let s := s.modBank bank fun k => { k with overcurrents := satInc 255 k.overcurrents }
      let s := s.bankLog bank s.now 1024 0x0906 row
      let s := (heat.filter fun x => x.2.runs s.now).foldl (fun s x => s.cutPulse x.1 2 0x0014) s
      s.bankClaim bank)

/-- A pending request ends with the Bank's halt: UNLOCK_PENDING to LOCKED, RELOCK_PENDING to CLOSED_UNLATCHED, without its entry
action (Table 17.7). -/
def State.endPending (n : Nat) (code : Nat) (result : Bytes) (s : State) : State :=
  let c := s.comp n
  let cause := baton s.now (compSlot n)
  if !c.reqPending then s
  else if c.state = stUnlockPending then s.cancelUnlock n s.now cause code result
  else if c.state = stRelockPending then
    ((s.modComp n Comp.cancelReq).setComp n stUnlatched 0 s.now cause).relockNotice n code result
  else s.modComp n Comp.cancelReq

/-- STUCK_ON_GATE: the Bank is halted, its requests end and every gate is held off (R526, R602, R620). -/
def execStuckOnGate (bank row : Nat) (s : State) : Out :=
  onObject (bank < 4 ∧ row < 16) (
    if !s.bankDeclared bank ∨ byteAt (s.bankBody bank) 0 ≤ row ∨ !s.dieRuns (1 + bank) ∨ !s.powered (dBank bank)
        ∨ (s.bank bank).halted then s
    else
      let s := s.modBank bank fun k => { k with halted := true, stuckRow := row }
      let s := s.bankLog bank s.now 1024 0x0905 row
      let s := (s.requests bank).foldl (fun s x => s.endPending x.1 cState (refusedResult 0x0013)) s
      let off (r : PulseReq) : PulseReq := { r with ends := min r.ends s.now }
      let s := (s.requests bank).foldl (fun s x => s.modComp x.1 fun c => { c with req := c.req.map off }) s
      s.bankClaim bank)

/-- The claim timer of a Bank ends: running pulses are cut and their compartments fault with POWER (R620, R681). -/
def State.bankTimerEnds (b : Nat) (s : State) : State :=
  let d := s.domain (dBank b)
  if d.condition ≠ .drain ∨ d.drop.isSome then s
  else
    let s := s.advanceTo d.timer
    let s := ((s.requests b).filter fun x => x.2.start.isSome).foldl (fun s x => s.cutPulse x.1 6 0x0002) s
    s.drainEnds (dBank b) s.now true

/-- BANK_CLAIM_TIMEOUT. -/
def execBankClaimTimeout (bank : Nat) (s : State) : Out := onObject (bank < 4) (s.bankTimerEnds bank)

/-! ## Device-level events (Table 17.7) -/

/-- DRAIN of BANK b begins: pending requests are cancelled with BUSY_DRAIN. -/
def State.bankDrains (b ticket : Nat) (s : State) : State :=
  (s.requests b).foldl (fun s x => s.endPending x.1 cBusyDrain (le 4 ticket)) s

/-- The lockdown is applied on a Bank on edge `t` (R249, R250, R620). -/
def State.applyLockdown (b t : Nat) (s : State) : State :=
  let s := (s.modBank b fun k => { k with lockdown := true }).bankLog b t 1024 0x0102
  let cause := baton t (10 + b)
  (s.present b).foldl (fun s n => (s.cancelUnlock n t cause cState (refusedResult 0x0040)).relockIfOpenable n t cause) s

/-- The lift is applied (R251). -/
def State.applyLift (b : Nat) (s : State) : State := s.modBank b fun k => { k with lockdown := false }

/-- The Banks whose links are in SESSION. -/
def State.banksInSession (s : State) : List Nat := [0, 1, 2, 3].filter fun b => s.inSession (1 + b)

/-- A staged OPEN ends with a detail, in the Keeper. -/
def State.endStage (n code : Nat) (result : Bytes) (s : State) : State :=
  match (s.comp n).stage with
  | none => s
  | some g => (s.modComp n fun c => { c with stage := none }).settleTicket g.ticket code result

/-- The Keeper's part of a lockdown: every OPEN in DUAL or DELAY ends (Table 17.7). -/
def State.endStages (detail : Nat) (s : State) : State :=
  (s.comps.map Prod.fst).foldl (fun s n => s.endStage n cState (refusedResult detail)) s

/-- A Bank starts, is re-initialised or is switched on: every compartment FAULT with RESYNC; its requests and held answers are
lost, and 0x0002 stands for each (Table 17.7). -/
def State.resyncBank (b : Nat) (s : State) : State :=
  let open_ := (s.present b).flatMap fun n => (s.comp n).openTicket.toList ++ (s.comp n).relockTickets
  let lost := open_ ++ (s.bank b).answers.map Prod.fst
  let s := s.modBank b fun k =>
    { k with synced := false, seen := 0, halted := false, lockdown := false, skip := 0, skips := 0, stuckRow := 0, held := [],
             heldLost := 0, answers := [] }
  let s := (s.present b).foldl (fun s n => s.modComp n fun c =>
    { c with state := stFault, cause := 1, door := false, bolt := false, rawDoor := false, rawBolt := false, doorTimer := none,
             boltTimer := none, relock := none, ajar := none, verify := none, req := none, openTicket := none, relockTickets := [],
             last := stFault }) s
  lost.foldl (fun s k => s.settleTicket k cState (refusedResult 0x0002)) s

/-- The BANK, PROFILES and PACER sections of a Bank are applied: its live contents take their Formula values (R510, R616). -/
def State.applyBank (b : Nat) (s : State) : State :=
  let s := { s with comps := s.comps.filter fun e => e.1 / 256 ≠ b }
  let us := u16 (s.bankBody b) 2
  ((s.modBank b fun _ => { heatUs := us, heatWas := us, lastHeat := s.now, lastSample := s.now }).applyPacer (1 + b)).resyncBank b

/-! ## OPEN and RELOCK on the Bank (Table 17.6) -/

/-- A notice the Bank gives on the apply edge. -/
def State.applyAnswer (n : Nat) (ticket : Option Nat) (code : Nat) (result : Bytes) (s : State) : State :=
  match ticket with
  | some k => s.bankAnswer (n / 256) k code result
  | none => s

/-- An OPEN is applied. -/
def State.applyOpen (n : Nat) (ticket : Option Nat) (t cause : Nat) (s : State) : State :=
  let c := s.comp n
  let no (detail : Nat) : State := s.applyAnswer n ticket cState (refusedResult detail)
  match c.code with
  | 0 =>
    let s := (s.setComp n stUnlockPending 0 t cause).issueReq n true t cause
    s.modComp n fun c => { c with openTicket := ticket }
  | 6 => no 0x0006
  | 1 => no 0x000A
  | 5 => no 0x000A
  | 7 => no 0x0004
  | 8 => no 0x0003
  | _ => s.applyAnswer n ticket cOk (s.okResult n 2 t)

/-- A RELOCK joins the relock in progress, which answers it. -/
def State.joinRelock (n : Nat) (ticket : Option Nat) (s : State) : State :=
  s.modComp n fun c => { c with relockTickets := c.relockTickets ++ ticket.toList }

/-- A RELOCK is applied. -/
def State.applyRelock (n : Nat) (ticket : Option Nat) (t cause : Nat) (s : State) : State :=
  let c := s.comp n
  let no (detail : Nat) : State := s.applyAnswer n ticket cState (refusedResult detail)
  match c.code with
  | 1 =>
    if c.reqPending then
      let s := s.cancelUnlock n t cause cState (refusedResult 0x0017)
      s.applyAnswer n ticket cOk (s.okResult n 2 t)
    else no 0x000A
  | 2 => (s.joinRelock n ticket).relockUnlocked n t cause
  | 3 => no 0x0015
  | 4 => if s.isPulse n then no 0x0015 else ((s.joinRelock n ticket).setComp n stRelockPending 0 t cause).issueReq n false t cause
  | 5 => s.joinRelock n ticket
  | 7 => no 0x0004
  | 8 => no 0x0003
  | _ => s.applyAnswer n ticket cOk (s.okResult n 2 t)

/-! ## Keeper policies -/

/-- The Bank of a compartment is reachable (R34). -/
def State.bankReachable (b : Nat) (s : State) : Bool := s.inSession (1 + b) && s.powered (dBank b)

/-- The Baton of a command's acceptance edge. -/
def Outstanding.baton (o : Outstanding) : Nat := Machine.baton o.edge o.port.slot

/-- The message of R614 is sent for an OPEN; one that finds its Bank unreachable, or its domain in DRAIN,
ends there (R682, Table 17.7). -/
def State.actuate (n ticket cause : Nat) (s : State) : State :=
  if s.draining (dBank (n / 256)) then s.settleTicket ticket cBusyDrain (le 4 (((s.domain (dBank (n / 256))).ticket).getD 0))
  else if s.bankReachable (n / 256) then s.applyOpen n (some ticket) s.bankEdge cause
  else s.settleTicket ticket cState (refusedResult 0x0002)

/-- An OPEN leaves DUAL: DELAY on edge `t` when the compartment has one, else ACTUATION (R617). -/
def State.afterDual (n t : Nat) (g : OpenStage) (s : State) : State :=
  if g.delayS ≠ 0 then s.modComp n fun c => { c with stage := some { g with kind := 2, due := t + g.delayS * 600000000 } }
  else (s.modComp n fun c => { c with stage := none }).actuate n g.ticket g.cause

/-- A stage of an OPEN reaches its terminal edge (R617). -/
def State.stageEnds (n : Nat) (s : State) : State :=
  match (s.comp n).stage with
  | none => s
  | some g =>
    if g.kind = 1 then s.endStage n cState (refusedResult 0x000E)
    else if g.kind = 2 then s.modComp n fun c => { c with stage := some { g with kind := 3, due := g.due + g.windowS * 600000000 } }
    else s.endStage n cState (refusedResult 0x000D)

/-- The stage's kind and terminal edge. -/
def State.stageKind (n : Nat) (s : State) : Nat := match (s.comp n).stage with | some g => g.kind | none => 0
def State.stageDue (n : Nat) (s : State) : Nat := match (s.comp n).stage with | some g => g.due | none => 0

/-- A stage's timer row runs when the stage is of its kind. -/
def State.stageExpiry (n kind : Nat) (s : State) : State :=
  if s.stageKind n = kind then (s.advanceTo (s.stageDue n)).stageEnds n else s

/-- DUAL_WINDOW_EXPIRY, DELAY_EXPIRY and OPEN_WINDOW_EXPIRY (R617). -/
def execDualWindowExpiry (comp : Nat) (s : State) : Out := onObject (comp < 1024) (s.stageExpiry comp 1)
def execDelayExpiry (comp : Nat) (s : State) : Out := onObject (comp < 1024) (s.stageExpiry comp 2)
def execOpenWindowExpiry (comp : Nat) (s : State) : Out := onObject (comp < 1024) (s.stageExpiry comp 3)

/-- TIMELOCK_END and HOLD_END (R618). -/
def execTimelockEnd (comp : Nat) (s : State) : Out :=
  onObject (comp < 1024) (
    let e := (s.comp comp).lockUntil
    if e = 0 then s else (s.advanceTo e).modComp comp fun c => { c with lockUntil := 0, lockRank := 0 })
def execHoldEnd (comp : Nat) (s : State) : Out :=
  onObject (comp < 1024) (
    let e := (s.comp comp).holdUntil
    if e = 0 then s else (s.advanceTo e).modComp comp fun c => { c with holdUntil := 0 })

/-- A stage whose terminal edge has come is settled before a command of the edge (R622, R624, R76): a delay opens its window;
a window that ends on this edge is left to the command. -/
def State.settleStage (n : Nat) (s : State) : State :=
  let s := if s.stageKind n = 1 ∧ s.stageDue n < s.now then s.stageEnds n else s
  let s := if s.stageKind n = 2 ∧ s.stageDue n ≤ s.now then s.stageEnds n else s
  if s.stageKind n = 3 ∧ s.stageDue n < s.now then s.stageEnds n else s

/-- A compartment is active in its group (R619). -/
def Comp.active (c : Comp) : Bool := c.stage.isSome || c.openTicket.isSome || !(c.last ∈ [0, 6, 8])

/-- The members of a group, ascending. -/
def State.groupMembers (g : Nat) (s : State) : List Nat := s.comps.filterMap fun e => if e.2.group = some g then some e.1 else none

/-- The group an OPEN of this edge is judged under (R629). -/
def State.groupFor (n : Nat) (s : State) : Option Nat :=
  let c := s.comp n
  if c.groupEdge = s.now then c.groupWas else c.group

/-- Another member of the compartment's group is active. -/
def State.groupBlocks (n : Nat) (s : State) : Bool :=
  match s.groupFor n with
  | none => false
  | some g => s.comps.any fun e => e.1 ≠ n ∧ s.groupFor e.1 = some g ∧ e.2.active

/-- A command on one compartment: MALFORMED above 1023, then its form (section 12). -/
def State.compCommand (o : Outstanding) (body : Nat → State → State) (s : State) : State :=
  s.formedBy o 4 [(decide (1023 < u16 o.payload 0), 0)] [(2, 2)] fun s => body (u16 o.payload 0) s

/-- The checks 0x0001 and 0x0002, with BUSY_DRAIN in the drain of the Bank's domain (R682). -/
def State.compReach (o : Outstanding) (ns : List Nat) (body : State → State) (s : State) : State :=
  if ns.any (fun n => !s.compPresent n) ∨ !s.bankDeclared 0 then s.refuse o 0x0001
  else if ns.any (fun n => !s.bankReachable (n / 256)) then s.refuse o 0x0002
  else match ns.find? (fun n => s.draining (dBank (n / 256))) with
    | some n => s.busyDrain o (((s.domain (dBank (n / 256))).ticket).getD 0)
    | none => body s

/-- An OPEN that every check has passed, under its ticket (R617). -/
def State.openStages (o : Outstanding) (n : Nat) (s : State) : State :=
  let c := s.comp n
  let (k, s) := s.newTicket o
  let kind := if s.compDual n then 1 else if c.delayS ≠ 0 then 2 else 0
  let s := s.respond o cDeferred (le 4 k ++ le 1 kind ++ zeros 3)
  let g : OpenStage := { kind := 1, ticket := k, port := o.port, session := o.session, cause := o.baton,
                         due := s.now + c.dualS * 600000000, delayS := c.delayS, windowS := c.windowS }
  if kind = 1 then s.modComp n fun c => { c with stage := some g } else s.afterDual n s.now g

/-- A confirming OPEN: the first ends OK, and the new one goes on to ACTUATION (R617). -/
def State.confirmOpen (o : Outstanding) (n : Nat) (s : State) : State :=
  let s := s.endStage n cOk (s.okResult n 1 s.now)
  let (k, s) := s.newTicket o
  (s.respond o cDeferred (le 4 k ++ zeros 4)).actuate n k o.baton

/-- CMP.OPEN (R617, R621, R624). -/
def execCmpOpen (r : Req) (s : State) : Out :=
  .next (s.command 0x2000 r (fun o s =>
    s.compCommand o fun n s =>
      let s := s.settleStage n
      let c := s.comp n
      s.compReach o [n] fun s =>
      s.order o (objComp n :: o.lockObjs) fun s =>
      s.checks o [(s.redFlag && decide (o.port ≠ .kpr), 0x0040), (c.disabled, 0x0003), (c.frozen, 0x0006),
                  (decide (s.now < c.holdUntil), 0x0007), (decide (s.now < c.lockUntil), 0x0008),
                  (decide (s.stageKind n = 2), 0x000C), (decide (s.stageKind n = 1), 0x000A), (s.groupBlocks n, 0x0009),
                  ((s.bank (n / 256)).halted, 0x0013)] fun s =>
        if s.stageKind n = 3 then
          if s.stageDue n = s.now then (s.stageEnds n).refuseLate o 0x000D
          else (s.takesEffect o.port o.opcode [objComp n]).confirmOpen o n
        else (s.takesEffect o.port o.opcode [objComp n]).openStages o n))

/-- CMP.RELOCK (R614, R621). -/
def execCmpRelock (r : Req) (s : State) : Out :=
  .next (s.command 0x2001 r (fun o s =>
    s.compCommand o fun n s =>
      s.compReach o [n] fun s =>
      s.order o [objComp n] fun s =>
      s.checks o [((s.comp n).disabled, 0x0003), ((s.bank (n / 256)).halted, 0x0013)] fun s =>
        let s := s.takesEffect o.port o.opcode [objComp n]
        let (k, s) := s.ticketed o cDeferred []
        s.applyRelock n (some k) s.bankEdge o.baton))

/-- The compartments an order with a TARGET names (section 12). -/
def State.targets (target idx : Nat) (s : State) : List Nat :=
  match target with
  | 0 => [idx]
  | 1 => s.groupMembers idx
  | _ => [0, 1, 2, 3].flatMap s.present

/-- The fields TARGET and INDEX of a payload, each with whether it holds no listed value. -/
def targetFields (b : Bytes) : List (Bool × Nat) :=
  let target := byteAt b 0
  let idx := u16 b 2
  [(decide (2 < target), 0), (decide ((target = 0 ∧ 1023 < idx) ∨ (target = 1 ∧ 31 < idx) ∨ (target = 2 ∧ idx ≠ 0)), 2)]

/-- A command with a TARGET, on every compartment it names as one order (R82). -/
def State.targetCommand (o : Outstanding) (len : Nat) (fields : List (Bool × Nat)) (lock : List (Nat × Nat)) (refusals : State → List (Bool × Nat)) (each : Nat → State → State)
    (s : State) : State :=
  s.formedBy o len (targetFields o.payload ++ fields) [(1, 1)] fun s =>
    let target := byteAt o.payload 0
    let idx := u16 o.payload 2
    let ns := s.targets target idx
    s.compReach o ns fun s =>
    let objects := ns.map objComp ++ (if target = 1 then [objGroup idx] else [])
    s.order o (objects ++ lock) fun s =>
    s.checks o (refusals s) fun s =>
      let s := s.takesEffect o.port o.opcode objects
      (ns.foldl (fun s n => each n s) s).done o []

/-- CMP.HOLD (R618, R620). -/
def execCmpHold (r : Req) (s : State) : Out :=
  .next (s.command 0x2002 r (fun o s =>
    let seconds := u32 o.payload 4
    s.targetCommand o 8 [(decide (seconds = 0 ∨ 86400 < seconds), 4)] [] (fun _ => []) fun n s =>
      let s := s.modComp n fun c => { c with holdUntil := max c.holdUntil (s.now + seconds * 600000000) }
      (s.endStage n cState (refusedResult 0x0017)).cancelUnlock n s.bankEdge o.baton cState (refusedResult 0x0017)))

/-- FREEZE set or cleared in the Bank; LOCKED and FROZEN change places (R609). -/
def State.setFreeze (n t cause : Nat) (v : Bool) (s : State) : State :=
  let before := (s.comp n).code
  let s := s.modComp n fun c => { c with freeze := v, frozen := v }
  if (s.comp n).code = before then s else (s.compLog n t 0x0A01 before (s.comp n).code cause).reportState n

/-- CMP.FREEZE (R620). -/
def execCmpFreeze (r : Req) (s : State) : Out :=
  .next (s.command 0x2003 r (fun o s =>
    s.targetCommand o 4 [] [] (fun _ => []) fun n s =>
      let t := s.bankEdge
      let s := (s.endStage n cState (refusedResult 0x0017)).cancelUnlock n t o.baton cState (refusedResult 0x0017)
      (s.relockIfOpenable n t o.baton).setFreeze n t o.baton true))

/-- CMP.UNFREEZE (R609). -/
def execCmpUnfreeze (r : Req) (s : State) : Out :=
  .next (s.command 0x2004 r (fun o s =>
    s.targetCommand o 4 [] o.lockObjs (fun s => [(s.redFlag && decide (o.port ≠ .kpr), 0x0040)]) fun n s =>
      s.setFreeze n s.bankEdge o.baton false))

/-- CMP.CREDENTIAL (R617, R622). -/
def execCmpCredential (r : Req) (s : State) : Out :=
  .next (s.command 0x2005 r (fun o s =>
    s.compCommand o fun n s =>
      let s := s.settleStage n
      s.checks o [(!s.compPresent n || !s.bankDeclared 0, 0x0001)] fun s =>
      s.order o (objComp n :: o.lockObjs) fun s =>
      s.checks o [(s.redFlag && decide (o.port ≠ .kpr), 0x0040), (decide (s.stageKind n ≠ 1), 0x000F)] fun s =>
        match (s.comp n).stage with
        | none => s.refuse o 0x000F
        | some g =>
          if g.due ≤ s.now then (s.stageEnds n).refuseLate o 0x000E
          else if g.port = o.port ∧ (g.port ≠ .cus ∨ g.session = o.session) then s.refuse o 0x0011
          else
            let s := s.takesEffect o.port o.opcode [objComp n]
            (s.afterDual n s.now g).done o []))

/-- REQ of a compartment: 0 none, 1 unlock pending, 2 relock pending, 3 pulse running. -/
def Comp.reqCode (c : Comp) : Nat :=
  match c.req with
  | none => 0
  | some r => if r.start.isSome then 3 else if r.unlock then 1 else 2

/-- STAGE of an OPEN in R617, or 0xFF: 0 ACTUATION, 1 DUAL, 2 DELAY with its window. -/
def Comp.stageCode (c : Comp) : Nat :=
  match c.stage with
  | some g => if g.kind = 1 then 1 else 2
  | none => if c.openTicket.isSome then 0 else 0xFF

/-- One record of CMP.GET_STATE. -/
def State.compRecord (n : Nat) (s : State) : Bytes :=
  let c := if s.compPresent n then s.comp n else { ({} : Comp) with state := 15, cause := 0 }
  let flags := b2n c.freeze + 2 * b2n c.door + 4 * b2n c.bolt + 8 * c.reqCode + 32 * b2n (decide (s.now < c.holdUntil))
    + 64 * b2n (decide (s.now < c.lockUntil)) + 128 * b2n (s.compDual n)
  le 2 n ++ le 1 c.code ++ le 1 flags ++ le 1 c.stageCode ++ le 1 (c.group.getD 0xFF) ++ le 1 c.cause ++ zeros 1

/-- CMP.GET_STATE. -/
def execCmpGetState (r : Req) (s : State) : Out :=
  .next (s.command 0x2006 r (fun o s =>
    s.wellFormed o 4 [] fun s =>
      let first := u16 o.payload 0
      let n := u16 o.payload 2
      if 1023 < first then s.malformed o 0
      else if n = 0 ∨ 256 < n ∨ (first + n - 1) / 256 ≠ first / 256 then s.malformed o 2
      else s.checks o [(!s.bankReachable (first / 256), 0x0002)] fun s =>
        s.done o ((List.range n).flatMap fun i => s.compRecord (first + i))))

/-- CMP.GET_BANK. -/
def execCmpGetBank (r : Req) (s : State) : Out :=
  .next (s.command 0x2007 r (fun o s =>
    s.wellFormed o 4 [(1, 3)] fun s =>
      let b := byteAt o.payload 0
      s.checks o [(!(decide (b < 4) && s.bankDeclared b), 0x0001), (!s.bankReachable b, 0x0002)] fun s =>
        let k := s.bank b
        let flags := b2n k.halted + 2 * b2n k.synced + 4 * b2n k.lockdown
        s.done o (slice (s.bankBody b) 0 2 ++ le 2 k.heatUs ++ le 1 (s.scanPeriod b / 600000) ++ le 1 flags
          ++ le 2 (s.present b).length ++ le 4 (s.pcrHeat b) ++ zeros 4 ++ s.sect 0x08 b)))

/-- The fields of a CMP.SET_TIMELOCK payload, each with whether it holds no listed value. -/
def timelockFields (b : Bytes) : List (Bool × Nat) :=
  let delay := u16 b 8
  let window := byteAt b 10
  [(decide (1023 < u16 b 0), 0), (decide (31536000 < u32 b 4), 4), (decide (3600 < delay), 8),
   (decide ((delay = 0 ∧ window ≠ 0) ∨ (delay ≠ 0 ∧ window = 0)), 10), (decide (byteAt b 11 < 10), 11)]

/-- CMP.SET_TIMELOCK (R618, R629). -/
def execCmpSetTimelock (r : Req) (s : State) : Out :=
  .next (s.command 0x2008 r (fun o s =>
    s.formedBy o 12 (timelockFields o.payload) [(2, 2)] fun s =>
      let n := u16 o.payload 0
      let c := s.comp n
      let until_ := if u32 o.payload 4 = 0 then 0 else s.now + u32 o.payload 4 * 600000000
      let stands := s.now < c.lockUntil
      s.checks o [(!s.compPresent n || !s.bankDeclared 0, 0x0001)] fun s =>
      s.order o [objComp n] fun s =>
      if stands ∧ until_ < c.lockUntil ∧ c.lockRank < o.port.rank then s.respond o cRank []
      else
        let s := s.takesEffect o.port o.opcode [objComp n]
        let s := s.modComp n fun c =>
          { c with lockUntil := until_, lockRank := if until_ = 0 then 0 else o.port.rank, delayS := u16 o.payload 8,
                   windowS := byteAt o.payload 10, dualS := byteAt o.payload 11 }
        s.done o []))

/-- CMP.DISABLE (Table 17.3). -/
def execCmpDisable (r : Req) (s : State) : Out :=
  .next (s.command 0x2009 r (fun o s =>
    s.compCommand o fun n s =>
      s.compReach o [n] fun s =>
      s.order o [objComp n] fun s =>
        let s := s.takesEffect o.port o.opcode [objComp n]
        let t := s.bankEdge
        let s := s.modComp n fun c => { c.cancelReq with disabled := true }
        let s := s.setComp n stDisabled 0 t o.baton
        (((s.openRefused n 0x0017).relockRefused n 0x0017).bankClaim (n / 256)).done o []))

/-- CMP.ENABLE (R613, R628). -/
def execCmpEnable (r : Req) (s : State) : Out :=
  .next (s.command 0x200A r (fun o s =>
    s.compCommand o fun n s =>
      s.compReach o [n] fun s =>
      s.order o (objComp n :: o.lockObjs) fun s =>
      s.checks o [(s.redFlag && decide (o.port ≠ .kpr), 0x0040)] fun s =>
        let s := s.takesEffect o.port o.opcode [objComp n]
        let s := s.modComp n fun c => { c with disabled := false }
        let st := (s.comp n).state
        let s := if st = stFault ∨ st = stDisabled then s.deriveComp n s.bankEdge o.baton else s
        s.done o []))

/-- The member indices of CMP.SET_GROUP, each with whether it is above 1023. -/
def memberFields (b : Bytes) : List (Bool × Nat) :=
  (List.range (byteAt b 1)).map fun i => (decide (1023 < u16 b (4 + 2 * i)), 4 + 2 * i)

/-- CMP.SET_GROUP (R619, R629). -/
def execCmpSetGroup (r : Req) (s : State) : Out :=
  .next (s.command 0x200B r (fun o s =>
    let b := o.payload
    let g := byteAt b 0
    let count := byteAt b 1
    s.formedBy o (if b.length < 4 then 4 else if 32 < count then b.length else 4 + 2 * count)
      ([(decide (31 < g), 0), (decide (32 < count), 1)] ++ memberFields b) [(2, 2)] fun s =>
      let ns := (List.range (byteAt b 1)).map fun i => u16 b (4 + 2 * i)
      let taken (n : Nat) : Bool := match (s.comp n).group with | some h => h ≠ g | none => false
      s.checks o [(ns.any (fun n => !s.compPresent n) || !s.bankDeclared 0, 0x0001)] fun s =>
      s.order o [objGroup g] fun s =>
      s.checks o [((s.groupMembers g).any (fun n => (s.comp n).active), 0x0009),
                  (ns.any taken || !decide ns.Nodup, 0x0016)] fun s =>
        let s := s.takesEffect o.port o.opcode [objGroup g]
        let move (v : Option Nat) (s : State) (n : Nat) : State :=
          s.modComp n fun c => { c with group := v, groupEdge := s.now, groupWas := if c.groupEdge = s.now then c.groupWas else c.group }
        let s := (s.groupMembers g).foldl (move none) s
        (ns.foldl (move (some g)) s).done o []))

/-! ## Registers -/

/-- BNK[b].CMP_STATE[n]. -/
def State.cmpState (n : Nat) (s : State) : Nat :=
  if !s.compPresent n then 15
  else
    let c := s.comp n
    c.code + 16 * b2n c.freeze + 32 * b2n c.door + 64 * b2n c.bolt + 128 * b2n c.rawDoor + 256 * b2n c.rawBolt + 512 * c.reqCode
      + 2048 * b2n c.verify.isSome + 4096 * c.cause

/-- BNK[b].CMP_SCAN. -/
def State.cmpScan (b : Nat) (s : State) : Nat :=
  let k := s.bank b
  k.scans + 65536 * (s.scanPeriod b / 600000) + 2 ^ 24 * b2n k.synced

/-- BNK[b].CMP_GATE: the driving column gates and the driven row. -/
def State.cmpGate (b : Nat) (s : State) : Nat :=
  let on := (s.requests b).filter fun x => x.2.runs s.now
  (on.map fun x => 2 ^ compCol x.1).sum + (match on with | x :: _ => 65536 * compRow x.1 + 2 ^ 20 | [] => 0)

/-- BNK[b].CMP_FAULT. -/
def State.cmpFault (b : Nat) (s : State) : Nat :=
  let k := s.bank b
  k.stuckRow + 16 * b2n k.halted + 256 * k.overcurrents

/-- KPR.CMP_GROUP[g]. -/
def State.cmpGroup (g : Nat) (s : State) : Nat :=
  let ns := s.groupMembers g
  ns.length + (match ns.find? fun n => (s.comp n).active with | some n => 64 + 65536 * n | none => 0)

end Sys2Proof.Machine
end

