-- ==== Sys2Proof/Machine/Custody.lean ====
section
/-! DEFINITION. The custody channel: records, the handshake and sessions (chapter 3, section 6; R283, R284). -/

namespace Sys2Proof.Machine

/-- The Baton slot and the slots of custody: 106 ephemeral, 107 F_C, 108 F_I, 108 + n traffic (Table 7.5). -/
def slotEph : Nat := 106
def slotFinC : Nat := 107
def slotFinI : Nat := 108
def slotTraffic (n : Nat) : Nat := 108 + n

/-- A custody session. -/
def State.session (n : Nat) (s : State) : Session := tget {} s.cus.sessions n

def State.setSession (n : Nat) (x : Session) (s : State) : State :=
  s.modCus fun c => { c with sessions := tset {} c.sessions n x }

/-- A record dropped and counted (R131). -/
def State.cusDrop (s : State) : State := s.modCus fun c => { c with dropped := c.dropped + 1 }

/-- A record that fails its tag, or is a replay (R136). -/
def State.cusTagFail (s : State) : State := s.modCus fun c => { c with tagFails := c.tagFails + 1 }

/-- A message that waits to be sent on SITE (R586). -/
def State.cusSend (session type : Nat) (body address : Bytes) (s : State) : State :=
  s.modCus fun c => { c with out := c.out ++ [{ session := session, type := type, body := body, address := address }] }

/-! ## Sessions -/

/-- A session closes: its transfers and subscription end, its key slot is emptied and the close is logged (R138, R139, R283). -/
def State.closeSession (n : Nat) (s : State) : State :=
  if s.sessionOpen n then
    let s := (s.closeTransfers .cus n).unsubscribe .cus n
    let s := s.modCus fun c => { c with sessions := tdel c.sessions n, slots := tdel c.slots n }
    (s.emptySlot (slotTraffic n)).event 14 n 0x0507
  else s

/-- Every session closes (R138, R241). -/
def State.closeSessions (s : State) : State := [1, 2, 3, 4].foldl (fun s n => s.closeSession n) s

/-- A session's idle time (SYSTEM section, offset 6; R138). -/
def State.cusIdle (s : State) : Nat := (if s.hasSect 0x01 0 then u16 (s.sect 0x01 0) 6 else 30) * 600000000

/-- CUS_IDLE_EXPIRY (R138). -/
def execCusIdleExpiry (session : Nat) (s : State) : Out :=
  .next (if s.sessionOpen session then (s.advanceTo (s.session session).deadline).closeSession session else s)

/-! ## The handshake -/

/-- A handshake ends: its slots are emptied; without a session, its session slot too (R283). -/
def State.endHandshake (keep : Bool) (s : State) : State :=
  match s.cus.handshake with
  | none => s
  | some h =>
    let s := ((s.emptySlot slotEph).emptySlot slotFinC).emptySlot slotFinI
    let s := if keep ∨ h.session = 0 then s else s.emptySlot (slotTraffic h.session)
    s.modCus fun c => { c with handshake := none }

/-- REJECT with its reason, counted and logged (Table 3.10, R137). -/
def State.cusReject (reason : Nat) (address : Bytes) (s : State) : State :=
  ((s.modCus fun c => { c with rejects := c.rejects + 1 }).event 14 0 0x0508 0 reason).cusSend 0 0x05 (le 1 reason) address

/-- A handshake ends with REJECT. -/
def State.rejectHandshake (reason : Nat) (address : Bytes) (s : State) : State :=
  (s.endHandshake false).cusReject reason address

/-- The limits of R137, and what a handshake needs: the custody KEM key (R284), CRYPTO (R321) and the DRBG (Table 8.6). -/
def State.cusBusy (s : State) : Bool :=
  s.cus.handshake.isSome || decide (4 ≤ ([1, 2, 3, 4].filter fun n => s.sessionOpen n).length) || !s.slotValid 121
    || !s.domainOn dCrypto || !s.drbgReady

/-- Fragments 0 to `count` − 1, joined once all are there (R132). -/
def joined (parts : Sparse Bytes) (count : Nat) : Option Bytes :=
  if (List.range count).all fun i => (tfind parts i).isSome then some ((List.range count).flatMap fun i => (tfind parts i).getD [])
  else none

/-- The lowest free session number. -/
def State.freeSession (s : State) : Nat := ([1, 2, 3, 4].find? fun n => !s.sessionOpen n).getD 0

/-- The message that SIG_EC and SIG_PQ cover (R133). -/
def helloMessage (devid body : Bytes) : Bytes := sha (ascii "TXI-CUS-C" ++ devid ++ body.take 1217)

/-- The Ibain's answer to a good C_HELLO: the ephemeral key, I_HELLO and the derived keys (R133, R135, R283). -/
def State.answerHello (body address : Bytes) (s : State) : State :=
  let n := s.freeSession
  let (nI, s) := s.generate 32
  let (raw, s) := s.generate 56
  let eph := scalar384 raw
  let s := s.fillSlot slotEph (sysAttr 8 0 0 2 48) 0 eph
  let qI := publicOf sEcdsa384 97 eph
  let (k, s) := s.generate 48
  let sigI := sign sEcdsa384 96 (s.slotKey 122) (sha (ascii "TXI-CUS-I" ++ sha body ++ nI ++ qI)) k
  let hello := nI ++ qI ++ sigI
  let ht := sha (body ++ hello)
  let z := ecdh eph (slice body 32 97) ++ kem (s.slotKey 121) (slice body 129 1088)
  let out (label : String) (len : Nat) : Bytes := hkdf ht z (ascii label) len
  let s := s.fillSlot slotFinC (sysAttr 64 1 0 4 48) 0 (out "TXI cus fin c" 48)
  let s := s.fillSlot slotFinI (sysAttr 64 1 0 4 48) 0 (out "TXI cus fin i" 48)
  let s := s.fillSlot (slotTraffic n) (sysAttr 64 1 1 0 64) 0 (out "TXI cus c2i" 32 ++ out "TXI cus i2c" 32)
  let upd (h : Handshake) : Handshake :=
    { h with session := n, transcript := ht, ivIn := out "TXI cus iv c2i" 4, ivOut := out "TXI cus iv i2c" 4, answered := true }
  (s.modCus fun c => { c with handshake := c.handshake.map upd }).cusSend n 0x02 hello address

/-- A whole C_HELLO is checked (R133, R134, R137). -/
def State.checkHello (body address : Bytes) (s : State) : State :=
  let len := be16 body 1217
  let cert := slice body 1219 len
  if body.length ≠ 1219 + len + 96 + 3309 ∨ len ≠ certLength ∨ !onCurve (slice body 32 97) then s.rejectHandshake 4 address
  else if !s.certGood 6 0x81 cert then s.rejectHandshake 2 address
  else if !certSigned cert (helloMessage s.devid body) (slice body (1219 + len) 96) (body.drop (1219 + len + 96)) then
    s.rejectHandshake 3 address
  else s.answerHello body address

/-- A fragment of C_HELLO: the first one of a source begins the attempt and its 2 s. A source is the IP version, address and UDP
port in its first 19 bytes (R132, R137). -/
def State.helloFragment (source : Bytes) (index count : Nat) (body : Bytes) (s : State) : State :=
  if s.featureOff 2 then s.cusDrop
  else
    let mine (h : Handshake) : Bool := decide (h.address.take 19 = source.take 19) && !h.answered
    match s.cus.handshake with
    | some h =>
      if mine h then
        if count ≠ h.helloCount then s.rejectHandshake 4 source
        else
          let parts := tins h.helloParts index body
          let s := s.modCus fun c => { c with handshake := some { h with helloParts := parts } }
          match joined parts count with
          | none => s
          | some whole => s.checkHello whole source
      else if index = 0 then s.cusReject 1 source
      else s.cusDrop
    | none =>
      if s.cusBusy then (if index = 0 then s.cusReject 1 source else s.cusDrop)
      else
        let h : Handshake := { address := source, deadline := s.now + 1200000000, helloParts := [(index, body)], helloCount := count }
        let s := s.modCus fun c => { c with handshake := some h }
        if count = 1 then s.checkHello body source else s

/-- The session opens when I_FINISH is sent (R135, R283). -/
def State.openSession (h : Handshake) (source finish : Bytes) (s : State) : State :=
  let n := h.session
  let reply := hmac (s.slotKey slotFinI) (h.transcript ++ finish)
  let x : Session := { isOpen := true, ivIn := h.ivIn, ivOut := h.ivOut, deadline := s.now + s.cusIdle, address := source }
  let s := (s.endHandshake true).setSession n x
  (s.cusSend n 0x04 reply source).event 14 n 0x0506

/-- A fragment of C_FINISH; one that fails verification ends the attempt without a reply (R132, R135). -/
def State.finishFragment (source : Bytes) (session index count : Nat) (body : Bytes) (s : State) : State :=
  match s.cus.handshake with
  | none => s.cusDrop
  | some h =>
    if !h.answered ∨ session ≠ h.session then s.cusDrop
    else
      let parts := tins h.finishParts index body
      let s := s.modCus fun c => { c with handshake := some { h with finishParts := parts, finishCount := count } }
      match joined parts count with
      | none => s
      | some whole =>
        if whole.length ≠ 48 then s.rejectHandshake 4 source
        else if whole = hmac (s.slotKey slotFinC) h.transcript then s.openSession h source whole
        else s.endHandshake false

/-- HANDSHAKE_TIMEOUT (R137). -/
def execHandshakeTimeout (s : State) : Out :=
  .next (match s.cus.handshake with
    | none => s
    | some h => (s.advanceTo h.deadline).endHandshake false)

/-! ## Protected records -/

/-- A SEQ that the receiver accepts (R136). -/
def Session.freshSeq (seq : Nat) (x : Session) : Bool := x.seqHi < seq ∨ (0 < seq ∧ x.seqHi ≤ seq + 64 ∧ !x.seen.contains seq ∧ seq ≠ x.seqHi)

/-- A SEQ taken: the highest, and those seen among the 64 below it (R136). -/
def Session.takeSeq (seq : Nat) (x : Session) : Session :=
  let hi := max x.seqHi seq
  { x with seqHi := hi, seen := (seq :: x.seqHi :: x.seen).filter fun q => q < hi ∧ hi ≤ q + 64 }

/-- A whole DATA message is accepted: a frame of the command channel, or a bulk frame (R132). -/
def State.cusMessage (n : Nat) (msg : Bytes) (s : State) : State :=
  match msg with
  | [] => s.logDiscard .cus n 0
  | channel :: d =>
    if channel = 0 then
      if d.length < 8 ∨ d.length ≠ 8 + u16 d 4 then s.logDiscard .cus n (u16 d 0) else s.receive .cus n (Frame.ofBytes d)
    else if channel = 1 then s.modCus fun c => { c with slots := tins c.slots n d }
    else s.logDiscard .cus n 0

/-- A verified DATA fragment: consecutive FRAG_INDEX and SEQ make a message; a break drops what was collected (R132). -/
def State.dataFragment (n seq index count : Nat) (text : Bytes) (prev : Nat) (s : State) : State :=
  let x := s.session n
  let follows := index = 0 ∨ (index = x.nextPart ∧ count = x.partCount ∧ seq = prev + 1)
  if !follows then (s.setSession n { x with parts := [], nextPart := 0, partCount := 0 }).cusDrop
  else
    let parts := if index = 0 then text else x.parts ++ text
    if index + 1 = count then (s.setSession n { x with parts := [], nextPart := 0, partCount := 0 }).cusMessage n parts
    else s.setSession n { x with parts := parts, nextPart := index + 1, partCount := count }

/-- A protected record (R136, R138, R140). -/
def State.protectedRecord (source : Bytes) (n type seq index count : Nat) (header ct tag : Bytes) (s : State) : State :=
  if !s.sessionOpen n then s.cusDrop
  else
    let x := s.session n
    let key := (s.slotKey (slotTraffic n)).take 32
    match gcmOpen key (x.ivIn ++ be 8 seq) header ct tag with
    | none => s.cusTagFail
    | some text =>
      if x.deadline ≤ s.now then ((s.closeSession n).cusDrop).logDiscardLate .cus n 0
      else if !x.freshSeq seq then s.cusTagFail
      else
        let s := s.setSession n { (x.takeSeq seq) with deadline := s.now + s.cusIdle, address := source }
        if type = 0x12 then s.closeSession n
        else if type = 0x11 then s
        else s.dataFragment n seq index count text x.seqHi

/-- A handshake record on the terminal edge of the attempt or later: the attempt ends first, without a reply, and a C_FINISH for it is
logged late (R76, R137). -/
def State.handshakeOver (type : Nat) (s : State) : State :=
  match s.cus.handshake with
  | some h =>
    if h.deadline ≤ s.now then
      let s := s.endHandshake false
      if type = 3 then s.logDiscardLate .cus 0 0 else s
    else s
  | none => s

/-- CUSTODY_RECORD: one UDP payload of a steered frame with its source (R131, R132, R136). -/
def execCustodyRecord (source : Bytes) (record : Bytes) (s : State) : Out :=
  let type := byteAt record 1
  let session := be16 record 2
  let seq := beVal (slice record 4 8)
  let index := byteAt record 12
  let count := byteAt record 13
  let len := be16 record 14
  let isProtected := 0x10 ≤ type ∧ type ≤ 0x12
  let s := { s with net := { s.net with keeperIn := s.net.keeperIn.erase (source, record) } }
  .next (if record.length < 16 ∨ byteAt record 0 ≠ 1 ∨ 1280 < len ∨ record.length ≠ 16 + len + (if isProtected then 16 else 0)
        ∨ count = 0 ∨ 16 < count ∨ count ≤ index then s.cusDrop
    else
      let body := slice record 16 len
      if isProtected then s.protectedRecord source session type seq index count (record.take 16) body (record.drop (16 + len))
      else if type = 0x01 then (if session = 0 ∧ seq = 0 then (s.handshakeOver type).helloFragment source index count body else s.cusDrop)
      else if type = 0x03 then (if seq = 0 then (s.handshakeOver type).finishFragment source session index count body else s.cusDrop)
      else s.cusDrop)

end Sys2Proof.Machine
end

