-- ==== Sys2Proof/Machine/Marshal.lean ====
section
/-! DEFINITION. The Red flag: its entry and what it does on each die (section 5 of chapter 6, Table 17.7). -/

namespace Sys2Proof.Machine

/-- One mask bit of the Red flag latch set on edge `t`, with its record (R247). -/
def State.redFlagBit (t bitNo response : Nat) (s : State) : State :=
  let s := s.modVlt fun v => { v with redFlag := true, redMask := v.redMask ||| 2 ^ bitNo, redBaton := baton t 0 }
  s.logAt t 0 bitNo 0x0102 response s.vlt.redMask

/-- What the Red flag does beside its latch, from the edge `t` on which that is set: staged OPENs end, each Bank in SESSION is
sent the lockdown, the Relay resolves every review DENY (R249, Table 17.7). -/
def State.redFlagEffects (t : Nat) (s : State) : State :=
  let s := s.endStages 0x0040
  let s := s.banksInSession.foldl (fun s b => s.applyLockdown b (t + 33)) s
  if s.inSession 0 then s.denyReviews else s

/-- The Red flag entered by orders of this edge: each bit with the response that set it, in ascending bit order (R247). -/
def State.enterRedFlag (by_ : List (Nat × Nat)) (s : State) : State :=
  let first := !s.vlt.redFlag
  let t := s.now + 1
  let s := (by_.foldl (fun s x => s.redFlagBit t x.1 x.2) s).fuseTamper
  if first then s.redFlagEffects t else s

/-- A lockdown order of a port: it executes beside every other order that enters the Red flag and supersedes those it contradicts
(R79, R247). -/
def State.lockdownOrder (p : Port) (opcode bitNo : Nat) (s : State) : State :=
  (s.takesEffect p opcode [objLockdown]).enterRedFlag [(bitNo, 0)]

end Sys2Proof.Machine
end

