-- ==== Sys2Proof/Machine/Parse.lean ====
section
/-! DEFINITION. The parse graph: nodes, checks, the field vector and the metadata of a frame (chapter 15, sections 3 to 7). -/

namespace Sys2Proof.Machine

/-! ## The graph -/

/-- Nodes 0 to 13 of the default graph, each 16 bytes highest first (Table 15.4, encoded as Table 15.1) -/
def defaultGraphLow : List Nat :=
  [0x0C0000100E0C000E00000806DD860C01,
   0x000000400000000000008103A8880302,
   0x1000004000000000000000050000FFFE,
   0x0000001000000002200000FF0000FF04,
   0x2C000010040202020C000806DD860C01,
   0x3C000010080606020C000806DD860CFE,
   0x0000001000000901260000FF0000FF07,
   0x45000F1800090C081006001611001708,
   0x0000004000000000000100182F001909,
   0x00000040000000000004000A29000BFE,
   0x0000002000000000000000FF0000FF06,
   0x0000002000000000000000FF0000FF0C,
   0x0000001000000601260000FF0000FF0D,
   0x5400001028060820000600161100170E]

/-- Nodes 14 to 27. -/
def defaultGraphHigh : List Nat :=
  [0x0000004000000000000000132B00130F,
   0x0000004000000000003C00132C001410,
   0x0000004000000000003300153A001811,
   0x0000004000000000002F001904000A12,
   0x00000040000000000029000B0000FFFE,
   0x6501FF1C08000001260600161100170E,
   0x7400001008000001260600161100170E,
   0x6501FF1808000001260600161100170E,
   0x950CF01200000004220000FF0000FFFE,
   0x8C0000100802000422B5121B0000FFFE,
   0x0400001008000002220000FF0000FFFE,
   0xAE00B0280402000000000806DD860C1A,
   0x0000004000000000005865000000FFFE,
   0xB400002008000000000000FF0000FF00]

/-- The default graph (R555). -/
def defaultGraph : List Bytes := (defaultGraphLow ++ defaultGraphHigh).map (be 16)

/-- The graph of a PARSE section (R546). -/
def graphOf (b : Bytes) : List Bytes :=
  if byteAt b 0 = 0 then defaultGraph else (List.range (byteAt b 0)).map fun i => slice b (72 + 16 * i) 16

/-- The port block of MAC `m`, and its fields (section 4.5 of the Formula). -/
def portBlock (b : Bytes) (m : Nat) : Bytes := slice b (8 + 32 * m) 32
def pbFixed (p : Bytes) : Bool := byteAt p 0 = 1
def pbStart (p : Bytes) : Nat := byteAt p 1
def pbDepth (p : Bytes) : Nat := byteAt p 2
def pbMalf (p : Bytes) : Nat := byteAt p 3
def pbWindow (p : Bytes) : Nat := u16 p 4

/-- Fields of a node (Table 15.1). -/
def ndAdvMode (n : Bytes) : Nat := byteAt n 0 % 4
def ndHeader (n : Bytes) : Bool := bit (byteAt n 0) 2
def ndSel16 (n : Bytes) : Bool := bit (byteAt n 0) 3
def ndCheck (n : Bytes) : Nat := byteAt n 0 / 16
def ndAdvOff (n : Bytes) : Int := signed 8 (byteAt n 1)
def ndAdvMask (n : Bytes) : Nat := byteAt n 2
def ndShr (n : Bytes) : Nat := byteAt n 3 % 4
def ndShl (n : Bytes) : Nat := byteAt n 3 / 4 % 4
def ndOuter (n : Bytes) : Bool := bit (byteAt n 3) 4
def ndTunnel (n : Bytes) : Bool := bit (byteAt n 3) 5
def ndSelPrev (n : Bytes) : Bool := bit (byteAt n 3) 6
def ndAdvAdd (n : Bytes) : Nat := byteAt n 4
def ndSelOff (n : Bytes) : Int := signed 8 (byteAt n 5)
def ndExtOff (n : Bytes) : Int := signed 8 (byteAt n 6)
def ndExtLen (n : Bytes) : Nat := byteAt n 7 % 64
def ndExtDst (n : Bytes) : Nat := byteAt n 8
def ndVal0 (n : Bytes) : Nat := u16 n 9
def ndNext0 (n : Bytes) : Nat := byteAt n 11
def ndVal1 (n : Bytes) : Nat := u16 n 12
def ndNext1 (n : Bytes) : Nat := byteAt n 14
def ndDefault (n : Bytes) : Nat := byteAt n 15

/-! ## Parsing a frame -/

/-- The slow-path reasons (Table 15.6). -/
def rDepth : Nat := 1
def rWindow : Nat := 2
def rMalformed : Nat := 3
def rFragment : Nat := 4
def rNoMatch : Nat := 5
def rCopy : Nat := 6
def rStale : Nat := 7

/-- A parse in progress. -/
structure Walk where
  node : Nat
  cursor : Nat := 0
  bound : Nat
  visits : Nat := 0
  depth : Nat := 0
  tunnel : Bool := false
  tags : Nat := 0
  l3 : Nat := 0
  opt4 : Bool := false
  ext6 : Bool := false
  snap : Bool := false
  fv : Bytes := zeros 40
  prev : Nat := 0
  /-- the first IP check outside a tunnel: its cursor, and whether its destination is CUS_IP; the first UDP check after it -/
  ip : Option (Nat × Bool) := none
  udp : Option (Nat × Bool) := none
  deriving DecidableEq, Repr

/-- What a parse needs to know of its port. -/
structure ParseEnv where
  frame : Bytes
  graph : List Bytes
  depth : Nat
  window : Nat
  cusIp : Bytes
  cusPort : Nat
  deriving DecidableEq, Repr

/-- `n` bytes read at an offset: MALFORMED outside the bound, else WINDOW beyond the window (R549). -/
def ParseEnv.read (e : ParseEnv) (w : Walk) (off : Int) (n : Nat) : Except Nat Bytes :=
  if off < 0 ∨ (w.bound : Int) < off + n then .error rMalformed
  else if (e.window : Int) < off + n then .error rWindow
  else .ok (slice e.frame off.toNat n)

/-- The big-endian field of `n` bytes at an offset. -/
def ParseEnv.field (e : ParseEnv) (w : Walk) (off : Int) (n : Nat) : Except Nat Nat := (e.read w off n).map beVal

/-- An outcome of a check: the parse goes on with a select value, or completes. -/
abbrev Checked := Except Nat (Walk × Nat × Bool)

/-- The check passes. -/
def pass (w : Walk) (v : Nat) : Checked := .ok (w, v, false)

/-- The IPv4 destination is CUS_IP (R584). -/
def isCusV4 (cusIp dst : Bytes) : Bool := cusIp.take 12 == zeros 10 ++ [0xFF, 0xFF] && cusIp.drop 12 == dst
/-- The IPv6 destination is CUS_IP; never an IPv4-mapped one (R584). -/
def isCusV6 (cusIp dst : Bytes) : Bool := cusIp.take 12 != zeros 10 ++ [0xFF, 0xFF] && cusIp == dst

/-- CHECK 4, IPV4 (Table 15.2). -/
def checkIpv4 (e : ParseEnv) (w : Walk) (v : Nat) : Checked := do
  let c : Int := w.cursor
  let b0 ← e.field w c 1
  let tl ← e.field w (c + 2) 2
  let fr ← e.field w (c + 6) 2
  if b0 / 16 ≠ 4 ∨ b0 % 16 < 5 ∨ tl < b0 % 16 * 4 ∨ w.bound < w.cursor + tl then .error rMalformed
  else if bit fr 13 ∨ fr % 8192 ≠ 0 then .error rFragment
  else
    let outer := !w.tunnel
    let dst := slice e.frame (w.cursor + 16) 4
    let ip := if outer ∧ w.ip.isNone then some (w.cursor, isCusV4 e.cusIp dst) else w.ip
    pass { w with bound := w.cursor + tl, ip := ip, l3 := if outer ∧ w.l3 = 0 then 1 else w.l3,
                  opt4 := w.opt4 || (outer && decide (5 < b0 % 16)) } v

/-- CHECK 5, IPV6. -/
def checkIpv6 (e : ParseEnv) (w : Walk) (v : Nat) : Checked := do
  let c : Int := w.cursor
  let b0 ← e.field w c 1
  let pl ← e.field w (c + 4) 2
  let nh ← e.field w (c + 6) 1
  if b0 / 16 ≠ 6 ∨ w.bound < w.cursor + 40 + pl ∨ (pl = 0 ∧ nh ≠ 59) then .error rMalformed
  else
    let outer := !w.tunnel
    let dst := slice e.frame (w.cursor + 24) 16
    let ip := if outer ∧ w.ip.isNone then some (w.cursor, isCusV6 e.cusIp dst) else w.ip
    pass { w with bound := w.cursor + 40 + pl, ip := ip, l3 := if outer ∧ w.l3 = 0 then 2 else w.l3 } v

/-- CHECK 8, UDP. -/
def checkUdp (e : ParseEnv) (w : Walk) (v : Nat) : Checked := do
  let c : Int := w.cursor
  let ul ← e.field w (c + 4) 2
  if ul < 8 ∨ w.bound < w.cursor + ul then .error rMalformed
  else
    let port := beVal (slice e.frame (w.cursor + 2) 2)
    let first := !w.tunnel && w.ip.isSome && w.udp.isNone
    pass { w with bound := w.cursor + ul, udp := if first then some (w.cursor, port = e.cusPort) else w.udp } v

/-- A node's CHECK on its cursor and select value (R552). -/
def runCheck (e : ParseEnv) (check : Nat) (w : Walk) (v : Nat) : Checked :=
  let c : Int := w.cursor
  match check with
  | 1 =>
    if v < 0x0600 then
      if 1500 < v ∨ w.bound < w.cursor + v then .error rMalformed else pass { w with bound := w.cursor + v } 0
    else pass w v
  | 2 => if 4 ≤ w.tags then .error rDepth else pass { w with tags := w.tags + 1 } v
  | 3 => do
    let h ← e.read w c 6
    if h = [0xAA, 0xAA, 0x03, 0, 0, 0] then pass { w with snap := w.snap || !w.tunnel } v else .ok (w, v, true)
  | 4 => checkIpv4 e w v
  | 5 => checkIpv6 e w v
  | 6 => pass { w with ext6 := w.ext6 || !w.tunnel } v
  | 7 => do
    let f ← e.field w (c + 2) 2
    if f / 8 ≠ 0 ∨ bit f 0 then .error rFragment else pass { w with ext6 := w.ext6 || !w.tunnel } v
  | 8 => checkUdp e w v
  | 9 => do
    let b ← e.field w (c + 12) 1
    if b / 16 < 5 then .error rMalformed else pass w v
  | 10 => do
    let f ← e.field w c 2
    if bit f 14 ∨ bits f 11 3 ≠ 0 then .error rMalformed else .ok (w, v, decide (f % 8 ≠ 0))
  | 11 => do
    let b ← e.field w c 1
    .ok (w, v, !bit b 3)
  | _ => pass w v

/-- The number of one bits of a byte. -/
def popcount8 (v : Nat) : Nat := ((List.range 8).filter fun i => bit v i).length

/-- The node's advance (R548). -/
def advanceOf (e : ParseEnv) (n : Bytes) (w : Walk) : Except Nat Nat :=
  if ndAdvMode n = 0 then .ok (ndAdvAdd n)
  else do
    let b ← e.field w (w.cursor + ndAdvOff n) 1
    let m := b &&& ndAdvMask n
    if ndAdvMode n = 1 then .ok (m / 2 ^ ndShr n * 2 ^ ndShl n + ndAdvAdd n) else .ok (popcount8 m * 2 ^ ndShl n + ndAdvAdd n)

/-- The select value of a node. -/
def selectOf (e : ParseEnv) (n : Bytes) (w : Walk) : Except Nat Nat :=
  if ndSelPrev n ∨ (ndNext0 n = 0xFF ∧ ndNext1 n = 0xFF) then .ok w.prev
  else e.field w (w.cursor + ndSelOff n) (if ndSel16 n then 2 else 1)

/-- The node's extraction into the field vector. -/
def extract (e : ParseEnv) (n : Bytes) (w : Walk) : Except Nat Walk :=
  if ndExtLen n = 0 ∨ (ndOuter n ∧ w.tunnel) then .ok w
  else do
    let bs ← e.read w (w.cursor + ndExtOff n) (ndExtLen n)
    .ok { w with fv := (w.fv.take (ndExtDst n) ++ bs ++ w.fv.drop (ndExtDst n + bs.length)).take 40 }

/-- The node that follows. -/
def nextNode (n : Bytes) (v : Nat) : Nat :=
  if ndNext0 n ≠ 0xFF ∧ v = ndVal0 n then ndNext0 n else if ndNext1 n ≠ 0xFF ∧ v = ndVal1 n then ndNext1 n else ndDefault n

/-- A visit that goes on or completes: the walk after it, and whether it is complete. -/
def visitBody (e : ParseEnv) (n : Bytes) (w : Walk) : Except Nat (Walk × Bool) := do
  let v ← selectOf e n w
  let (w, v, ended) ← runCheck e (ndCheck n) w v
  let w ← extract e n w
  if ended then .ok (w, true)
  else
    let adv ← advanceOf e n w
    if w.bound < w.cursor + adv then .error rMalformed
    else
      let w := { w with cursor := w.cursor + adv, tunnel := w.tunnel || ndTunnel n, prev := v }
      let next := nextNode n v
      .ok ({ w with node := if next = 0xFE then w.node else next }, decide (next = 0xFE))

/-- What a visit that stops has reached: the effects of its check, when that passed (R547, Table 15.7). -/
def reached (e : ParseEnv) (n : Bytes) (w : Walk) : Walk :=
  match (do runCheck e (ndCheck n) w (← selectOf e n w) : Checked) with
  | .ok (w', _, _) => w'
  | .error _ => w

/-- Visits from a node on (R547): the last walk and the reason that stopped it, 0 for END. -/
def walkGraph (e : ParseEnv) : Nat → Walk → Walk × Nat
  | 0, w => (w, rDepth)
  | fuel + 1, w =>
    let n := e.graph.getD w.node []
    let w := { w with visits := w.visits + 1 }
    if 32 < w.visits then (w, rDepth)
    else
      let w := if ndHeader n then { w with depth := w.depth + 1 } else w
      if ndHeader n ∧ e.depth < w.depth then (w, rDepth)
      else match visitBody e n w with
        | .error r => (reached e n w, r)
        | .ok (w', true) => (w', 0)
        | .ok (w', false) => walkGraph e fuel w'

/-- The metadata word (Table 15.3). -/
def Walk.info (m : Nat) (done : Bool) (w : Walk) : Nat :=
  m + 2 * b2n done + 4 * b2n w.tunnel + 8 * w.tags + 64 * w.l3 + 256 * b2n w.opt4 + 512 * b2n w.ext6 + 1024 * b2n w.snap
    + 8192 * min 16 w.depth

/-- A frame parsed by a graph on MAC `m`. -/
def parseGraph (e : ParseEnv) (m start : Nat) : Parsed :=
  let (w, r) := walkGraph e 33 { node := start, bound := e.frame.length - 4 }
  let steer := match w.ip, w.udp with
    | some (i, true), some (u, true) => if r = 0 then some (i, u) else none
    | _, _ => none
  { reason := r, visits := w.visits, node := w.node, offset := w.cursor, info := w.info m (r = 0), fv := w.fv, steer := steer }

/-- A frame on a port in FIXED mode (R554). -/
def parseFixed (frame : Bytes) (block : Bytes) (m : Nat) : Parsed :=
  let bound := frame.length - 4
  let win (i : Nat) : Nat × Nat := (u16 block (8 + 3 * i), byteAt block (10 + 3 * i))
  let bytes := (List.range 8).flatMap fun i =>
    let (off, n) := win i
    sized 4 (sized n ((slice frame off n).take (bound - off)))
  let short := (List.range 8).any fun i => let (off, n) := win i; n ≠ 0 ∧ bound < off + n
  { info := m + 2048 + 4096 * b2n short, fv := sized 40 bytes }

end Sys2Proof.Machine
end

