-- ==== Sys2Proof/Machine/Frames.lean ====
section
/-! DEFINITION. The MACs, the receive buffers, transmission and the slow path (chapter 15). -/

namespace Sys2Proof.Machine

def State.modNet (f : Net → Net) (s : State) : State := { s with net := f s.net }
def State.mac (m : Nat) (s : State) : Mac := tget {} s.net.macs m
def State.modMac (m : Nat) (f : Mac → Mac) (s : State) : State :=
  s.modNet fun n => { n with macs := tset {} n.macs m (f (tget {} n.macs m)) }

/-- The network side runs: RELAY_NET is up and the Relay has its clock (R37, R542). -/
def State.netOn (s : State) : Bool := s.powered dRelayNet && s.dieRuns 0

/-- The PARSE section's block of MAC `m`. -/
def State.macBlock (m : Nat) (s : State) : Bytes := portBlock (s.sect 0x05 0) m

/-- PHY_ADDR of a MAC: 1 + m at reset. -/
def Mac.phyAddr (m : Nat) (k : Mac) : Nat := (k.phy + 1 + m) % 32

/-! ## FCS (IEEE 802.3) -/

/-- One bit of the reflected Ethernet CRC. -/
def fcsShift (c : BitVec 32) : BitVec 32 := if c.getLsbD 0 then (c >>> 1) ^^^ 0xEDB88320#32 else c >>> 1

/-- One byte of it. -/
def fcsByte (c : BitVec 32) (b : Byte) : BitVec 32 :=
  let c := c ^^^ b.setWidth 32
  fcsShift (fcsShift (fcsShift (fcsShift (fcsShift (fcsShift (fcsShift (fcsShift c)))))))

/-- The FCS of a frame without one, in wire order (PRESUMED: IEEE 802.3). -/
def fcsOf (bs : Bytes) : Bytes := le 4 (bs.foldl fcsByte 0xFFFFFFFF#32 ^^^ 0xFFFFFFFF#32).toNat

/-- A frame with its FCS behind it. -/
def withFcs (bs : Bytes) : Bytes := bs ++ fcsOf bs

/-- The last four bytes are the FCS of those before. -/
def fcsPasses (bs : Bytes) : Bool := 4 ≤ bs.length && bs.drop (bs.length - 4) == fcsOf (bs.take (bs.length - 4))

/-! ## Drops (R560, R591) -/

/-- Counter name indices: the codes of Table 15.6, then the counters of the registers in their order (DESIGN CHOICE). -/
def dFcs : Nat := 16
def dRunt : Nat := 17
def dOversize : Nat := 18
def dRxErr : Nat := 19
def dBufferFull : Nat := 20
def dSlowFull : Nat := 21
def dMacCtl : Nat := 22
def dTxLinkdown : Nat := 23
def dTxDisabled : Nat := 24
def dOverDrop : Nat := 25
def dInjLoop : Nat := 26
def dCusFull : Nat := 27
def dCusLink : Nat := 28
def dMrFull : Nat := 29
def dMrOff : Nat := 30

/-- The counter of a reason. -/
def Mac.count (reason : Nat) (k : Mac) : Mac :=
  if reason = dFcs then { k with fcs := satInc 255 k.fcs }
  else if reason = dRunt then { k with runt := satInc 255 k.runt }
  else if reason = dOversize then { k with oversize := satInc 255 k.oversize }
  else if reason = dRxErr then { k with rxErr := satInc 255 k.rxErr }
  else if reason = dBufferFull then { k with bufferFull := satInc 255 k.bufferFull }
  else if reason = rMalformed then { k with malformed := satInc 255 k.malformed }
  else if reason = dSlowFull then { k with slowFull := satInc 255 k.slowFull }
  else if reason = dMacCtl then { k with macCtl := satInc 255 k.macCtl }
  else if reason = dTxLinkdown then { k with txLinkdown := satInc 255 k.txLinkdown }
  else if reason = dTxDisabled then { k with txDisabled := satInc 255 k.txDisabled }
  else if reason = dOverDrop then { k with overDrop := satInc 255 k.overDrop }
  else if reason = dInjLoop then { k with injLoop := satInc 255 k.injLoop }
  else if reason = rNoMatch then { k with missDrop := satInc 255 k.missDrop }
  else if reason = rStale then { k with stale := satInc 255 k.stale }
  else k

/-- A drop of port `m`: its counter, and its record under the rate rule of R560. `baton` is of the frame's reception edge. -/
def State.drop (m reason frameBaton rule : Nat) (late : Bool := false) (s : State) : State :=
  let s := s.modMac m (Mac.count reason)
  let r : Rec := { cycle := s.now, slot := 8 + m, source := 0, code := 0x0803, late := late, arg0 := reason }
  match tfind (s.mac m).logs reason with
  | none => (s.putRec { r with arg1 := rule }).modMac m fun k => { k with logs := tins k.logs reason { last := s.now, count := 0, first := 0 } }
  | some l =>
    let first := if l.count = 0 then frameBaton else l.first
    if l.last + 2 ^ 20 ≤ s.now then
      (s.putRec { r with arg1 := l.count + 1, arg2 := first, summary := true }).modMac m fun k =>
        { k with logs := tins k.logs reason { last := s.now, count := 0, first := 0 } }
    else s.modMac m fun k => { k with logs := tins k.logs reason { l with count := l.count + 1, first := first } }

/-- The Baton of a frame's reception edge (R544). -/
def NetFrame.baton (f : NetFrame) : Nat := Machine.baton f.recv (8 + f.dir)

/-! ## Buffers (R543) -/

/-- Cells taken in a buffer: those of its frames, and 16 for one in reception. -/
def State.cellsUsed (dir : Nat) (s : State) : Nat :=
  ((s.net.frames.filter fun f => f.dir = dir).map NetFrame.cells).sum + (if (s.mac dir).receiving = some true then 16 else 0)

/-- 16 cells are free. -/
def State.roomFor (dir : Nat) (s : State) : Bool := s.cellsUsed dir + 16 ≤ 512

/-- The frame that stands at a place of the list is removed. -/
def State.removeFrame (f : NetFrame) (s : State) : State := s.modNet fun n => { n with frames := n.frames.erase f }

/-- A frame rewritten in place. -/
def State.replaceFrame (f g : NetFrame) (s : State) : State :=
  s.modNet fun n => { n with frames := n.frames.map fun x => if x = f then g else x }

/-- The frame leaves for good on this edge: an epoch drains with its last frame (R579). -/
def State.frameLeaves (f : NetFrame) (s : State) : State :=
  let s := s.removeFrame f
  match f.epoch with
  | some e => if e ≠ s.net.cls.cur then s.modNet fun n => { n with cls := { n.cls with drained := max n.cls.drained s.now } } else s
  | none => s

/-- A frame is dropped. -/
def State.dropFrame (f : NetFrame) (m reason : Nat) (late : Bool := false) (s : State) : State :=
  (s.drop m reason f.baton f.rule late).frameLeaves f

/-- A frame is dropped for a rule, or for want of one, whose RULE field its record carries (R576, R591). -/
def State.dropByRule (f : NetFrame) (m reason rule : Nat) (s : State) : State := (s.drop m reason f.baton rule).frameLeaves f

/-- The first frame of the list that satisfies a test. -/
def State.findFrame (p : NetFrame → Bool) (s : State) : Option NetFrame := s.net.frames.find? p

/-! ## Links and MDIO (R537 to R539) -/

/-- The speed that the PHY's registers give: 0, 1, 2 for 10, 100, 1000 Mb/s at full duplex; none when unusable (R537). -/
def mdioSpeed (bmcr adv partner gctl gstat : BitVec 16) : Option Nat :=
  if !bmcr.getLsbD 12 then
    if !bmcr.getLsbD 8 then none
    else match bmcr.getLsbD 6, bmcr.getLsbD 13 with
      | false, false => some 0 | false, true => some 1 | true, false => some 2 | true, true => none
  else if gctl.getLsbD 9 ∧ gstat.getLsbD 11 then some 2
  else if adv.getLsbD 8 ∧ partner.getLsbD 8 then some 1
  else if adv.getLsbD 6 ∧ partner.getLsbD 6 then some 0
  else none

/-- A mirror copy begins with its frame's dispatch (R587, R588), be it the edge of a drop of R535 or R538 (R573). -/
def State.mirrorStart (f : NetFrame) (s : State) : State :=
  let slots := byteAt (s.sect 0x04 0) 3 * 128
  let n := s.net
  if !f.mirror then s
  else if n.mrMode = 0 ∨ slots = 0 then
    (s.drop f.dir dMrOff f.baton f.rule).modNet fun n => { n with mrOff := satInc 65535 n.mrOff }
  else if n.mrMode = 1 ∧ slots ≤ (n.mrTail + n.mrJobs.length + 2 ^ 32 - n.mrHead) % 2 ^ 32 then
    (s.drop f.dir dMrFull f.baton f.rule).modNet fun n => { n with mrFull := satInc 65535 n.mrFull }
  else
    let j : MirrorJob := { dir := f.dir, bytes := f.bytes, recv := f.recv, rule := f.rule, dispatch := s.now }
    s.modNet fun n => { n with mrJobs := n.mrJobs ++ [j] }

/-- Frames waiting for a transmitter whose link has gone down are dropped (R538). -/
def State.dropQueued (m : Nat) (s : State) : State :=
  let fs := s.net.frames.filter fun f => f.stage = .forward ∧ f.txMac = m
  fs.foldl (fun s f => (s.mirrorStart f).dropFrame f m dTxLinkdown) s

/-- MDIO_POLL: a poll on its tick of 2^20 cycles brings the link up or down (R537, R538). -/
def execMdioPoll (mac : Nat) (bmcr bmsr adv partner gctl gstat : BitVec 16) (s : State) : Out :=
  onObject (mac < 2) (
    if !s.macOn mac ∨ !s.netOn then s
    else
      let s := s.atTick (2 ^ 20)
      if !bmsr.getLsbD 2 then
        if !(s.mac mac).up then s
        else
          let s := if (s.mac mac).receiving = some true then s.drop mac dRxErr (baton s.now (8 + mac)) 0 else s
          let s := s.modMac mac fun k => { k with up := false, training := none, receiving := none }
          (s.dropQueued mac).event (8 + mac) 0 0x0802
      else if (s.mac mac).up ∨ (bmcr.getLsbD 12 ∧ !bmsr.getLsbD 5) then s
      else match mdioSpeed bmcr adv partner gctl gstat with
        | none => s
        | some v =>
          (s.modMac mac fun k => { k with up := true, speed := v, training := some (s.now + 4096) }).event (8 + mac) 0 0x0801)

/-- LINK_TRAINING_END (R538). -/
def execLinkTrainingEnd (mac : Nat) (s : State) : Out :=
  onObject (mac < 2) (match (s.mac mac).training with
    | none => s
    | some t => (s.advanceTo t).modMac mac fun k => { k with training := none })

/-- Address of a MAC register in the core address map. -/
def macAddr (m off : Nat) : Nat := 0x41050000 + 0x100 * m + off

/-- MDIO_CORE_ACCESS: a write of RLY.NET_MDIO_CMD; with GO, the access runs to its end, and a read leaves the value read (R539). -/
def execMdioCoreAccess (core : CoreId) (mac : Nat) (value : Word) (readData : Nat) (s : State) : Out :=
  onObject (mac < 2) (s.relayAccess core (macAddr mac 0x20) fun s =>
    let v := value.toNat
    let s := s.logReserved core (macAddr mac 0x20) (v / 2 ^ 23 * 2 ^ 23)
    let read := bit v 22 && !bit v 21 && s.netOn && s.macOn mac
    s.modMac mac fun k => { k with mdioData := if read then readData % 65536 else v % 65536, mdioReg := bits v 20 16, mdioWrite := bit v 21 })

/-! ## Reception -/

/-- The PARSE limits in force on this edge (R550, R561). -/
def Mac.limits (t : Nat) (k : Mac) : Nat × Nat := if t ≤ k.limitsAt then (k.depthWas, k.windowWas) else (k.depth, k.window)

/-- CUS_EN of the CLASSIFIER section. -/
def State.cusOn (s : State) : Bool := byteAt (s.sect 0x06 0) 26 = 1

/-- A frame parsed under what is in force on this edge. -/
def State.parseFrame (m : Nat) (frame : Bytes) (s : State) : Parsed :=
  let block := s.macBlock m
  if pbFixed block then parseFixed frame block m
  else
    let (depth, window) := (s.mac m).limits s.now
    let cl := s.sect 0x06 0
    parseGraph { frame := frame, graph := graphOf (s.sect 0x05 0), depth := depth, window := window, cusIp := slice cl 8 16,
                 cusPort := u16 cl 24 } m (pbStart block)

/-- A frame's SFD (R543, R564). -/
def State.sfd (m : Nat) (s : State) : State :=
  if !(s.mac m).up then s
  else if s.roomFor m then s.modMac m fun k => { k with receiving := some true }
  else (s.drop m dBufferFull (baton s.now (8 + m)) 0).modMac m fun k => { k with receiving := some false }

/-- FRAME_SFD. -/
def execFrameSfd (mac : Nat) (s : State) : Out := onObject (mac < 2) (if s.macOn mac ∧ s.netOn then s.sfd mac else s)

/-- Cycles that `n` byte times take at a speed code: 1000 Mb/s carries a byte in 4.8 cycles. -/
def byteCycles (speed n : Nat) : Nat := ceilDiv (n * 4800) (10 * 10 ^ speed)

/-- A PAUSE is honoured (R541, R565). -/
def State.pause (quanta : Nat) (s : State) : State :=
  let sending := s.net.frames.any fun f => f.stage = .sending ∧ f.txMac = 1
  let t := byteCycles (s.mac 1).speed (64 * quanta)
  s.modMac 1 fun k =>
    let k := { k with pauseRx := satInc 255 k.pauseRx }
    if quanta = 0 then { k with paused := none, pauseDue := none }
    else if sending then { k with paused := none, pauseDue := some t }
    else { k with paused := some (s.now + t), pauseDue := none }

/-- A received MAC control frame is consumed (R541). -/
def State.macControl (m : Nat) (frame : Bytes) (s : State) : State :=
  if m = 1 ∧ frame.take 6 = [0x01, 0x80, 0xC2, 0x00, 0x00, 0x01] ∧ be16 frame 14 = 1 then s.pause (be16 frame 16)
  else s.drop m dMacCtl (baton s.now (8 + m)) 0

/-- A frame enters the buffer and its parser (R543, R544). -/
def State.storeFrame (m : Nat) (frame : Bytes) (injected : Bool) (s : State) : State :=
  let f : NetFrame := { dir := m, bytes := frame, recv := s.now, cells := ceilDiv frame.length 128, stage := .parsing, injected := injected,
                        parse := s.parseFrame m frame }
  (s.modMac m fun k => { k with rxOk := satInc 0xFFFFFFFF k.rxOk }).modNet fun n => { n with frames := n.frames ++ [f] }

/-- The last FCS nibble of a frame in reception (R540, R541, R544). -/
def State.received (m : Nat) (frame : Bytes) (bad : Bool) (s : State) : State :=
  let training := (s.mac m).training.isSome
  let s := s.modMac m fun k => { k with receiving := none }
  let drop (reason : Nat) : State := s.drop m reason (baton s.now (8 + m)) 0
  if !fcsPasses frame then drop dFcs
  else if frame.length < 64 then drop dRunt
  else if 2048 < frame.length then drop dOversize
  else if bad ∨ training then drop dRxErr
  else if be16 frame 12 = 0x8808 then s.macControl m frame
  else s.storeFrame m frame false

/-- FRAME_RECEPTION: a frame whose SFD has not come as a command of its own has it now. -/
def execFrameReception (mac : Nat) (frame : Bytes) (codingError : Bool) (s : State) : Out :=
  onObject (mac < 2) (
    if !s.macOn mac ∨ !s.netOn then s
    else
      let s := if (s.mac mac).receiving.isNone then s.sfd mac else s
      match (s.mac mac).receiving with
      | none => s
      | some false => s.modMac mac fun k => { k with receiving := none }
      | some true => s.received mac frame codingError)

/-- PAUSE_EXPIRY (R541). -/
def execPauseExpiry (s : State) : Out :=
  .next (match (s.mac 1).paused with
    | none => s
    | some t => (s.advanceTo t).modMac 1 fun k => { k with paused := none })

/-- The parse end edge (R544). -/
def NetFrame.parseEnd (f : NetFrame) : Nat := f.recv + 4 + 2 * f.parse.visits

/-- PARSE_END: the oldest frame of the direction leaves its parser, for its classification or with a slow-path reason. -/
def execParseEnd (mac : Nat) (s : State) : Out :=
  onObject (mac < 2) (match s.findFrame fun f => f.dir = mac ∧ f.stage = .parsing with
    | none => s
    | some f =>
      let s := s.advanceTo f.parseEnd
      let r := f.parse.reason
      if r = 0 then s.replaceFrame f { f with stage := .parsed }
      else if f.injected then s.dropFrame f mac dInjLoop
      else if r = rMalformed ∧ pbMalf (s.macBlock mac) = 0 then s.dropFrame f mac rMalformed
      else s.replaceFrame f { f with stage := .slow, reason := r, rule := 0xFFFFFFFF, edge := f.parseEnd })

/-! ## The slow path (R556 to R560) -/

/-- CELLS of R557, and the ring's limit. -/
def State.spCells (s : State) : Nat := 16 * byteAt (s.sect 0x04 0) 2 - 4
def State.spLimit (s : State) : Nat := min 256 s.spCells

/-- A descriptor (Table 15.7). -/
def spDescriptor (f : NetFrame) (cell seq : Nat) : Bytes :=
  let classified := f.reason = rNoMatch ∨ f.reason = rCopy
  le 1 f.reason ++ le 1 f.dir ++ le 1 (if classified then 0xFF else f.parse.node) ++ zeros 1 ++ le 2 f.bytes.length ++ le 2 cell
    ++ le 8 f.baton ++ le 2 (if classified then 0 else f.parse.offset) ++ zeros 2 ++ le 4 f.parse.info ++ le 4 f.rule ++ le 4 seq

/-- The frame that waits longest for its copy. -/
def earliest (fs : List NetFrame) : Option NetFrame :=
  fs.foldl (fun best f => match best with | none => some f | some b => if f.edge < b.edge then some f else some b) none

/-- The residence terminal edge (R582). -/
def NetFrame.residence (f : NetFrame) : Nat := f.recv + 2400000

/-- A dispatch that would fall on or after the residence terminal edge is a STALE_EPOCH drop (R582, R593). -/
def State.dispatchOrStale (f : NetFrame) (body : State → State) (s : State) : State :=
  if !f.unlimited ∧ f.residence ≤ s.now then s.dropFrame f f.dir rStale (s.now = f.residence) else body s

/-- SLOW_PATH_DELIVERY: one frame is copied to its cell and its descriptor written (R557, R558). -/
def execSlowPathDelivery (s : State) : Out :=
  .next (match earliest (s.net.frames.filter fun f => f.stage = .slow) with
    | none => s
    | some f =>
      let s := s.advanceTo (f.edge + 1)
      s.dispatchOrStale f fun s =>
        if !s.inSession 0 then s.frameLeaves f
        else if s.spLimit ≤ (s.net.spTail + 2 ^ 32 - s.net.spHead) % 2 ^ 32 then s.dropFrame f f.dir dSlowFull
        else
          let seq := s.net.spTail
          let cell := seq % s.spCells
          let (base, _) := s.partition 2
          let s := s.poolWrite (base + 0x2000 + 0x800 * cell) f.bytes
          let s := s.poolWrite (base + 32 * (seq % 256)) (spDescriptor f cell seq)
          let s := s.frameLeaves f
          let s := s.modNet fun n => { n with spTail := (seq + 1) % 2 ^ 32 }
          let s := s.advanceTo (s.now + ceilDiv f.bytes.length 16 + 1)
          s.modCores fun c => { c with irqSteward := c.irqSteward ||| 4 })

/-- A HEAD between the present HEAD and TAIL, in the order of the SEQ numbers. -/
def headInRange (head tail v : Nat) : Bool := (v + 2 ^ 32 - head) % 2 ^ 32 ≤ (tail + 2 ^ 32 - head) % 2 ^ 32

/-- SP_HEAD_WRITE (R559). -/
def execSpHeadWrite (core : CoreId) (value : Word) (s : State) : Out :=
  .next (s.relayAccess core 0x41050800 fun s =>
    if headInRange s.net.spHead s.net.spTail value.toNat then s.modNet fun n => { n with spHead := value.toNat }
    else s.event (coreSlot core) 0 0x0003 0 0x41050800 value.toNat)

/-! ## Transmission (R545) -/

/-- A frame whose outcome transmits it on MAC `m`: queued, or dropped where the MAC is disabled or its link down (R535, R538). -/
def State.sendOn (m : Nat) (f g : NetFrame) (s : State) : State :=
  if !s.macOn m then ((s.replaceFrame f g).mirrorStart g).dropFrame g m dTxDisabled
  else if !(s.mac m).up then ((s.replaceFrame f g).mirrorStart g).dropFrame g m dTxLinkdown
  else s.replaceFrame f { g with stage := .forward, txMac := m }

/-- FRAME_TRANSMIT: the transmitter begins its next frame (R545, R573). -/
def execFrameTransmit (mac : Nat) (s : State) : Out :=
  onObject (mac < 2) (
    let busy := s.net.frames.any fun f => f.stage = .sending ∧ f.txMac = mac
    if busy ∨ (s.mac mac).paused.isSome ∨ !s.netOn then s
    else match earliest (s.net.frames.filter fun f => f.stage = .forward ∧ f.txMac = mac) with
      | none => s
      | some f =>
        let s := s.advanceTo (max f.edge (s.mac mac).free)
        s.dispatchOrStale f fun s =>
          let s := s.mirrorStart f
          let ends := s.now + byteCycles (s.mac mac).speed (8 + f.bytes.length)
          let sent := { f with stage := .sending, ends := ends, epoch := none }
          let s := (s.frameLeaves f).modNet fun n => { n with frames := n.frames ++ [sent] }
          s.modMac mac fun k => { k with free := s.now + byteCycles k.speed (20 + f.bytes.length) })

/-- FRAME_TRANSMITTED: its cells return, and a pause counted from its end begins (R541, R543). -/
def execFrameTransmitted (mac : Nat) (s : State) : Out :=
  onObject (mac < 2) (match s.findFrame fun f => f.stage = .sending ∧ f.txMac = mac with
    | none => s
    | some f =>
      let s := (s.advanceTo f.ends).removeFrame f
      s.modMac mac fun k =>
        { k with txOk := satInc 0xFFFFFFFF k.txOk, paused := match k.pauseDue with | some n => some (s.now + n) | none => k.paused,
                 pauseDue := none })

/-- RESIDENCE_EXPIRY: the oldest frame of the direction not yet dispatched (R582). -/
def execResidenceExpiry (mac : Nat) (s : State) : Out :=
  onObject (mac < 2) (match s.findFrame fun f => f.dir = mac ∧ f.stage ≠ .sending ∧ !f.unlimited with
    | none => s
    | some f =>
      let s := s.advanceTo f.residence
      s.dropFrame f f.dir rStale)

/-! ## Registers -/

/-- RLY.NET_MAC[m]. -/
def State.netMac (m : Nat) (s : State) : Nat :=
  let k := s.mac m
  b2n (s.macOn m) + 2 * b2n k.up + 4 * k.speed + 16 * b2n k.txdly + 32 * b2n k.rxdly + 64 * b2n k.paused.isSome + 128 * b2n k.training.isSome
    + 256 * k.phyAddr m

/-- RLY.NET_LIMITS[m]. -/
def State.netLimits (m : Nat) (s : State) : Nat :=
  let k := s.mac m
  let b := s.macBlock m
  k.depth + 32 * b2n (pbFixed b) + 64 * pbMalf b + 256 * k.window

/-- RLY.NET_RXERR, NET_DROP and NET_TXERR. -/
def Mac.rxErrReg (k : Mac) : Nat := k.fcs + 256 * k.runt + 65536 * k.oversize + 16777216 * k.rxErr
def Mac.dropReg (k : Mac) : Nat := k.bufferFull + 256 * k.malformed + 65536 * k.slowFull + 16777216 * k.macCtl
def Mac.txErrReg (k : Mac) : Nat := k.txLinkdown + 256 * k.txDisabled + 65536 * k.pauseRx

/-! ## Commands -/

/-- NET.GET_PORT. -/
def execNetGetPort (r : Req) (s : State) : Out :=
  .next (s.command 0x4000 r (fun o s =>
    let m := byteAt o.payload 0
    s.formedBy o 4 [(decide (1 < m), 0)] [(1, 3)] fun s =>
      s.checks o [(!s.inSession 0, 0x0004)] fun s =>
        let k := s.mac m
        let b := s.macBlock m
        let flags := b2n (s.macOn m) + 2 * b2n k.up + 4 * b2n k.paused.isSome + 8 * b2n k.training.isSome
        s.done o (le 1 m ++ le 1 flags ++ le 1 k.speed ++ le 1 (b2n (pbFixed b)) ++ le 1 k.depth ++ le 1 (pbMalf b) ++ le 2 k.window
          ++ le 4 k.rxOk ++ le 4 k.rxErrReg ++ le 4 k.dropReg ++ le 4 k.txOk ++ le 4 k.txErrReg ++ le 4 s.net.spTail ++ le 4 s.net.spHead
          ++ zeros 4)))

/-- NET.SET_LIMITS (R561, R562). -/
def execNetSetLimits (r : Req) (s : State) : Out :=
  .next (s.command 0x4001 r (fun o s =>
    s.wellFormed o 4 [] fun s =>
      let m := byteAt o.payload 0
      let depth := byteAt o.payload 1
      let window := u16 o.payload 2
      if 1 < m then s.malformed o 0
      else if depth = 0 ∨ 16 < depth then s.malformed o 1
      else if window < 64 ∨ 256 < window ∨ window % 8 ≠ 0 then s.malformed o 2
      else s.checks o [(!s.macOn m, 0x0001), (pbFixed (s.macBlock m), 0x0002), (!s.inSession 0, 0x0004)] fun s =>
        s.order o [objTable (65536 + m)] fun s =>
          let s := s.takesEffect o.port o.opcode [objTable (65536 + m)]
          let t := s.relayEdge
          let s := s.modMac m fun k =>
            { k with depthWas := k.depth, windowWas := k.window, limitsAt := t, depth := depth, window := window }
          s.done o (le 8 (baton t (8 + m)))))

end Sys2Proof.Machine
end

