-- ==== Sys2Proof/Machine/Classifier.lean ====
section
/-! DEFINITION. Rules, ranges and epochs: classification, meters, commits, custody steering, the mirror sink and injection
(chapter 16). -/

namespace Sys2Proof.Machine

/-! ## Entries (Tables 16.2 and 16.3) -/

def clTcamS2p (c : Bytes) : Nat := u16 c 0
def clTcamP2s (c : Bytes) : Nat := u16 c 2
def clRangeS2p (c : Bytes) : Nat := byteAt c 4
def clRangeP2s (c : Bytes) : Nat := byteAt c 5
def clMiss (c : Bytes) (d : Nat) : Nat := byteAt c (6 + d)
def clTcam (c : Bytes) (d : Nat) : Nat := if d = 0 then clTcamS2p c else clTcamP2s c
def clRange (c : Bytes) (d : Nat) : Nat := if d = 0 then clRangeS2p c else clRangeP2s c
def clTcamBase (c : Bytes) (d : Nat) : Nat := if d = 0 then 0 else clTcamS2p c
def clRangeBase (c : Bytes) (d : Nat) : Nat := if d = 0 then 0 else clRangeS2p c

def ruDir (b : Bytes) : Nat := byteAt b 80
def ruFlag (b : Bytes) (i : Nat) : Bool := bit (byteAt b 81) i
def ruIndex (b : Bytes) : Nat := u16 b 82
def ruAction (b : Bytes) : Nat := byteAt b 84
def ruOver (b : Bytes) : Nat := byteAt b 85
def ruRangeA (b : Bytes) : Nat := byteAt b 86
def ruRangeB (b : Bytes) : Nat := byteAt b 87
def ruBucket (b : Bytes) : Nat := u16 b 88

def rgDir (b : Bytes) : Nat := byteAt b 0
def rgIndex (b : Bytes) : Nat := byteAt b 1
def rgOff (b : Bytes) : Nat := byteAt b 2
def rgLo (b : Bytes) : Nat := u16 b 4
def rgHi (b : Bytes) : Nat := u16 b 6

/-- A range operand of an entry and its NOT flag, by the flags' first bit (R570). -/
def operandFault (cl b : Bytes) (bit0 operand : Nat) : Bool :=
  if ruFlag b bit0 then clRange cl (ruDir b) ≤ operand else operand ≠ 0

/-- The offset of the first faulty byte of an entry's format (R570); INDEX, BUCKET and MIRROR are checked apart. -/
def ruleFault (cl b : Bytes) : Option Nat :=
  if !ruFlag b 0 then firstNonZero b 0 96
  else
    let value := (List.range 40).find? fun i => byteAt b i &&& (255 - byteAt b (40 + i)) ≠ 0
    match value with
    | some i => some i
    | none =>
      let tests : List (Bool × Nat) :=
        [(1 < ruDir b, 80),
         (64 ≤ byteAt b 81 || (!ruFlag b 2 && ruFlag b 3) || (!ruFlag b 4 && ruFlag b 5), 81),
         (3 < ruAction b, 84),
         (ruOver b ∉ [0, 2] || (!ruFlag b 1 && ruOver b ≠ 0), 85),
         (operandFault cl b 2 (ruRangeA b), 86),
         (operandFault cl b 4 (ruRangeB b), 87),
         (!ruFlag b 1 && ruBucket b ≠ 0, 88)]
      match tests.find? Prod.fst with
      | some x => some x.2
      | none => firstNonZero b 90 6

/-- The offset of the first faulty byte of a range entry's format (R572). -/
def rangeFault (b : Bytes) : Option Nat :=
  if byteAt b 3 = 0 then firstNonZero b 0 8
  else if 1 < rgDir b then some 0
  else if 38 < rgOff b then some 2
  else if 1 < byteAt b 3 then some 3
  else if rgHi b < rgLo b then some 6
  else none

/-! ## Classification -/

/-- The key (R568): field-vector bytes 0 to 38 and the metadata byte of Table 16.1. -/
def keyOf (p : Parsed) : Bytes :=
  let m := p.info
  let last := b2n (bit m 1) + 2 * b2n (bit m 2) + 4 * bits m 7 6 + 16 * b2n (bit m 8 || bit m 9) + 32 * b2n (bit m 10)
    + 64 * b2n (decide (bits m 5 3 ≠ 0)) + 128 * b2n (bit m 12)
  sized 39 p.fv ++ le 1 last

/-- A comparator hits (R572). -/
def rangeHits (t : Table) (base idx : Nat) (fv : Bytes) : Bool :=
  match tfind t.ranges (base + idx) with
  | none => false
  | some b => let v := be16 fv (rgOff b); rgLo b ≤ v ∧ v ≤ rgHi b

/-- A range operand of an entry is met (R571). -/
def operandMet (t : Table) (base : Nat) (b fv : Bytes) (bit0 operand : Nat) : Bool :=
  !ruFlag b bit0 || (rangeHits t base operand fv != ruFlag b (bit0 + 1))

/-- An entry matches (R571). -/
def ruleMatches (t : Table) (base : Nat) (key fv b : Bytes) : Bool :=
  ruFlag b 0 && decide (List.zipWith (· &&& ·) key (slice b 40 40) = b.take 40)
    && operandMet t base b fv 2 (ruRangeA b) && operandMet t base b fv 4 (ruRangeB b)

/-- The winning entry of a direction: its physical index and bytes (R571). -/
def winningRule (cl : Bytes) (t : Table) (d : Nat) (p : Parsed) : Option (Nat × Bytes) :=
  let lo := clTcamBase cl d
  let key := keyOf p
  t.rules.find? fun e => lo ≤ e.1 ∧ e.1 < lo + clTcam cl d ∧ ruleMatches t (clRangeBase cl d) key p.fv e.2

def State.clsBody (s : State) : Bytes := s.sect 0x06 0
def State.modCls (f : Classifier → Classifier) (s : State) : State := s.modNet fun n => { n with cls := f n.cls }

/-- The table and epoch id of a classification on this edge: the previous one up to a commit's effect edge (R579, R592). -/
def State.tableNow (s : State) : Table × Nat :=
  let c := s.net.cls
  if s.now ≤ c.effect ∧ 0 < c.commits then (c.older, c.old) else (c.current, c.cur)

/-- The debit of a frame on its classification edge (R513, R515, R533): whether it is admitted, and the bucket after. -/
def Bucket.frameDebit (t len : Nat) (k : Bucket) : Bool × Bucket :=
  let already := if k.spentAt = t then k.spent else 0
  let base := { k with level := k.level + already }
  if base.admits t already len then (true, { k.debit len with spentAt := t, spent := already + len }) else (false, k.refuse)

/-- A frame that would reach the Steward: dropped as an injected one's loop (R590), or without a link (R33). -/
def State.toSteward (f : NetFrame) (reason rule epoch : Nat) (s : State) : State :=
  if f.injected then s.dropByRule f f.dir dInjLoop rule
  else if !s.inSession 0 then s.frameLeaves f
  else s.replaceFrame f { f with stage := .slow, reason := reason, rule := rule, edge := s.now, epoch := some epoch }

/-- An action is carried out (R573, R574). -/
def State.act (f : NetFrame) (action rule epoch : Nat) (refused : Bool) (s : State) : State :=
  match action with
  | 0 => if refused then s.dropByRule f f.dir dOverDrop rule else s.frameLeaves f
  | 2 => s.toSteward f rCopy rule epoch
  | _ => s.sendOn (1 - f.dir) f { f with rule := rule, edge := s.now, epoch := some epoch, mirror := action = 3 }

/-- A frame of a direction meets the rules (R571 to R577). -/
def State.meetRules (f : NetFrame) (s : State) : State :=
  let cl := s.clsBody
  let d := f.dir
  let (t, epoch) := s.tableNow
  match winningRule cl t d f.parse with
  | none =>
    let s := s.modMac d fun k => { k with misses := satInc 0xFFFFFFFF k.misses }
    let rule := 0xFFF + 4096 * d + 8192 * epoch
    if clMiss cl d = 1 then s.toSteward f rNoMatch rule epoch else s.dropByRule f d rNoMatch rule
  | some (i, b) =>
    let n := f.bytes.length
    let (ok, s) : Bool × State :=
      if ruFlag b 1 then
        let (ok, k) := (s.bucket 0 (ruBucket b)).frameDebit s.now n
        (ok, s.setBucket 0 (ruBucket b) k)
      else (true, s)
    let up (c : RuleCount) : RuleCount :=
      { frames := satInc 0xFFFFFFFF c.frames, bytes := satAdd (2 ^ 48 - 1) c.bytes n, refused := if ok then c.refused else satInc 0xFFFFFFFF c.refused }
    let s := s.modCls fun c => { c with counts := tset {} c.counts i (up (tget {} c.counts i)) }
    let action := if ok then ruAction b else ruOver b
    let rule := (i - clTcamBase cl d) + 4096 * d + 8192 * epoch + 32768 * b2n (!ok && decide (action = 2))
    s.act f action rule epoch (!ok)

/-- CLASSIFICATION: the oldest parsed frame of a direction, on its parse end edge plus 3 (R567, R584). -/
def execClassification (mac : Nat) (s : State) : Out :=
  onObject (mac < 2) (match s.findFrame fun f => f.dir = mac ∧ f.stage = .parsed with
    | none => s
    | some f =>
      let s := s.advanceTo (f.parseEnd + 3)
      if f.residence ≤ s.now then s.dropFrame f mac rStale (s.now = f.residence)
      else if mac = 0 ∧ s.cusOn ∧ f.parse.steer.isSome then
        if f.injected then s.dropFrame f mac dInjLoop else s.replaceFrame f { f with stage := .steer, edge := s.now }
      else s.meetRules f)

/-! ## Custody (section 8) -/

/-- The tag stack of a frame, from its twelfth byte (R586). -/
def tagStack : Nat → Bytes → Bytes
  | 0, _ => []
  | n + 1, bs => if be16 bs 0 = 0x8100 ∨ be16 bs 0 = 0x88A8 then bs.take 4 ++ tagStack n (bs.drop 4) else []

/-- Where a record came from: IP version, source address and UDP port, destination and source MAC, tags. -/
def custodySource (frame : Bytes) (ip udp : Nat) : Bytes :=
  let v4 := byteAt frame ip / 16 = 4
  let addr := if v4 then zeros 10 ++ [0xFF, 0xFF] ++ slice frame (ip + 12) 4 else slice frame (ip + 8) 16
  le 1 (if v4 then 4 else 6) ++ addr ++ slice frame udp 2 ++ frame.take 12 ++ tagStack 4 (frame.drop 12)

/-- CUSTODY_STEER: the oldest steered frame is sent to the Keeper, or dropped (R585, R596). -/
def execCustodySteer (s : State) : Out :=
  .next (match s.findFrame fun f => f.stage = .steer with
    | none => s
    | some f =>
      let s := s.advanceTo f.edge
      s.dispatchOrStale f fun s =>
        if !s.inSession 0 then
          (s.dropFrame f 0 dCusLink).modNet fun n => { n with cusLink := satInc 255 n.cusLink }
        else if 8 ≤ s.net.keeperIn.length then
          (s.dropFrame f 0 dCusFull).modNet fun n => { n with cusFull := satInc 255 n.cusFull }
        else
          let (ip, udp) := f.parse.steer.getD (0, 0)
          let record := slice f.bytes (udp + 8) (be16 f.bytes (udp + 4) - 8)
          (s.frameLeaves f).modNet fun n =>
            { n with steered := satInc 65535 n.steered, keeperIn := n.keeperIn ++ [(custodySource f.bytes ip udp, record)] })

/-- The one's complement sum of 16-bit words, folded. -/
def onesSum : Nat → Bytes → Nat
  | 0, _ => 0
  | n + 1, bs => if bs.isEmpty then 0 else be16 (bs ++ [0]) 0 + onesSum n (bs.drop 2)

/-- The Internet checksum (RFC 1071; PRESUMED). -/
def inetSum (bs : Bytes) : Nat :=
  let t := onesSum bs.length bs
  let t := t % 65536 + t / 65536
  0xFFFF - (t % 65536 + t / 65536)

/-- The Ethernet frame of a custody record, without its FCS (R586). A frame below 60 bytes is padded with zeros (IEEE 802.3). -/
def custodyFrame (address cusIp : Bytes) (cusPort : Nat) (record : Bytes) : Bytes :=
  let v4 := byteAt address 0 = 4
  let len := 8 + record.length
  let peer := slice address 1 16
  let ports := be 2 cusPort ++ slice address 17 2
  let src := if v4 then cusIp.drop 12 else cusIp
  let dst := if v4 then peer.drop 12 else peer
  let pseudo := src ++ dst ++ (if v4 then [0, 17] ++ be 2 len else be 4 len ++ [0, 0, 0, 17])
  let sum := inetSum (pseudo ++ ports ++ be 2 len ++ zeros 2 ++ record)
  let udp := ports ++ be 2 len ++ be 2 (if sum = 0 then 0xFFFF else sum) ++ record
  let head4 (sum : Nat) : Bytes := [0x45, 0] ++ be 2 (20 + len) ++ [0, 0, 0x40, 0, 64, 17] ++ be 2 sum ++ src ++ dst
  let ip := if v4 then head4 (inetSum (head4 0)) else [0x60, 0, 0, 0] ++ be 2 len ++ [17, 64] ++ src ++ dst
  let eth := slice address 25 6 ++ slice address 19 6 ++ address.drop 31 ++ be 2 (if v4 then 0x0800 else 0x86DD)
  let f := eth ++ ip ++ udp
  f ++ zeros (60 - f.length)

/-- The records of a message: one for each fragment of at most 1280 bytes, protected ones sealed under the session's key with
consecutive SEQ values (R131, R132, R136). -/
def custodyRecords (key iv : Bytes) (type session seq count : Nat) : Nat → Nat → Bytes → List Bytes
  | 0, _, _ => []
  | fuel + 1, index, body =>
    let part := body.take 1280
    let sealed_ := 0x10 ≤ type
    let q := if sealed_ then seq + index + 1 else 0
    let head := [1] ++ le 1 type ++ be 2 session ++ be 8 q ++ le 1 index ++ le 1 count ++ be 2 part.length
    let r := if sealed_ then
        let (ct, tag) := gcmSeal key (iv ++ be 8 q) head part
        head ++ ct ++ tag
      else head ++ part
    r :: (if body.length ≤ 1280 then [] else custodyRecords key iv type session seq count fuel (index + 1) (body.drop 1280))

/-- A built frame takes its place in SITE's transmit order (R586). -/
def State.siteFrame (bs : Bytes) (s : State) : State :=
  let t := s.relayEdge
  let f : NetFrame := { dir := 1, bytes := withFcs bs, recv := t, cells := 0, stage := .forward, unlimited := true, edge := t, txMac := 0 }
  if !s.macOn 0 then s.drop 0 dTxDisabled f.baton 0
  else if !(s.mac 0).up then s.drop 0 dTxLinkdown f.baton 0
  else s.modNet fun n => { n with frames := n.frames ++ [f] }

/-- CUSTODY_RECORD_TRANSMIT: the oldest message of the custody channel is built and sent (R586). A protected one whose session
has closed is not sent. -/
def execCustodyRecordTransmit (s : State) : Out :=
  .next (match s.cus.out with
    | [] => s
    | m :: rest =>
      let s := s.modCus fun c => { c with out := rest }
      if !s.inSession 0 ∨ (0x10 ≤ m.type ∧ !s.sessionOpen m.session) then s
      else
        let x := s.session m.session
        let count := max 1 (ceilDiv m.body.length 1280)
        let key := (s.slotKey (slotTraffic m.session)).drop 32
        let rs := custodyRecords key x.ivOut m.type m.session x.txSeq count 16 0 m.body
        let s := if 0x10 ≤ m.type then s.setSession m.session { x with txSeq := x.txSeq + count } else s
        let address := if 0x10 ≤ m.type then x.address else m.address
        let cl := s.clsBody
        rs.foldl (fun s r => s.siteFrame (custodyFrame address (slice cl 8 16) (u16 cl 24) r)) s)

/-! ## Epochs (section 7) -/

/-- The older table is live: frames are bound to it (R579). -/
def State.oldLive (s : State) : Bool := s.net.frames.any fun f => f.epoch = some s.net.cls.old ∧ s.net.cls.old ≠ s.net.cls.cur

/-- A commit takes effect on edge `e` (R577, R580). -/
def State.commitTakes (e : Nat) (s : State) : State :=
  let s := s.modCls fun c =>
    { c with current := c.shadow, older := c.current, shadow := c.shadow, cur := (c.cur + 1) % 4, old := c.cur, effect := e,
             copying := some (e + 512), commits := satInc 65535 c.commits, clears := [], waiting := none,
             counts := c.counts.filter fun x => !c.clears.contains x.1 }
  s.logAt e 8 0 0x0804 0 s.net.cls.cur

/-- The result of a commit. -/
def State.commitResult (e : Nat) (s : State) : Bytes := le 8 (baton e 8) ++ le 1 s.net.cls.cur ++ zeros 3

/-- A pending commit takes effect, and its notice follows. -/
def State.pendingTakes (e : Nat) (s : State) : State :=
  match s.net.cls.waiting with
  | none => s
  | some k => let s := s.commitTakes e; s.settleTicket k cOk (s.commitResult e)

/-- EPOCH_DRAIN_COMMIT: the edge after the older table drains (R580). -/
def execEpochDrainCommit (s : State) : Out :=
  .next (
    let c := s.net.cls
    if c.waiting.isNone ∨ s.oldLive then s
    else
      let e := c.drained + 1
      let s := s.advanceTo e
      s.pendingTakes (max e c.effect))

/-- CLASSIFIER_COPY_END (R580). The copy's contents stand in the shadow from the effect edge, which no command can write before
its end. -/
def execClassifierCopyEnd (s : State) : Out :=
  .next (match s.net.cls.copying with
    | none => s
    | some e => (s.advanceTo e).modCls fun c => { c with copying := none })

/-- The refusals of R581. -/
def State.shadowChecks (s : State) : List (Bool × Nat) :=
  let copying := match s.net.cls.copying with | some e => decide (s.now ≤ e) | none => s.net.cls.copyHeld
  [(s.net.cls.waiting.isSome, 0x0014), (copying, 0x0015)]

/-- Photo-finish objects of a classifier entry, a comparator and the commit (R594, R595). -/
def objRule (d i : Nat) : Nat × Nat := objTable (131072 + 4096 * d + i)
def objRange (d i : Nat) : Nat × Nat := objTable (147456 + 64 * d + i)
def objEpoch : Nat × Nat := objTable 163840

/-- A commit has been ordered on this edge: writes applied on its Relay edge are still included in it (R594). -/
def State.committing (s : State) : Bool := (s.winner [objEpoch]).isSome

/-- It takes effect at once. -/
def State.committed (s : State) : Bool := s.committing && s.net.cls.waiting.isNone

/-- A write of the shadow; on the edge of a commit that takes effect at once, the new current table holds it too (R580, R594). -/
def State.writeShadow (both : Bool) (f : Table → Table) (s : State) : State :=
  s.modCls fun c => { c with shadow := f c.shadow, current := if both then f c.current else c.current }

/-- The next commit clears an entry's counters, or the commit of this edge does (R577). -/
def State.clearsCounter (both : Bool) (i : Nat) (s : State) : State :=
  if both then s.modCls fun c => { c with counts := c.counts.filter fun x => x.1 ≠ i }
  else s.modCls fun c => { c with clears := i :: c.clears.erase i }

/-- NET.WRITE_RULE (R570, R581). -/
def execNetWriteRule (r : Req) (s : State) : Out :=
  .next (s.command 0x4010 r (fun o s =>
    let clear := byteAt o.payload 0
    s.formedBy o 100 [(decide (1 < clear), 0)] [(1, 3)] fun s =>
      let b := o.payload.drop 4
      let cl := s.clsBody
      let d := ruDir b
      s.checks o [(!s.inSession 0, 0x0004)] fun s =>
        match ruleFault cl b with
        | some off => s.malformed o (4 + off)
        | none =>
          let mirror := ruAction b = 3
          let cs := [(decide (clTcam cl d ≤ ruIndex b), 0x0011), (decide mirror && s.featureOff 7, 0x00FE),
                     (decide mirror && decide (byteAt (s.sect 0x04 0) 3 = 0), 0x0013),
                     (ruFlag b 1 && (s.bucketRec 0 (ruBucket b)).isNone, 0x0012)]
          s.checks o (cs ++ if s.committing then [] else s.shadowChecks) fun s =>
          s.order o [objRule d (ruIndex b)] fun s =>
            let both := s.committed
            let s := s.takesEffect o.port o.opcode [objRule d (ruIndex b)]
            let i := clTcamBase cl d + ruIndex b
            let s := s.writeShadow both fun t => { t with rules := if ruFlag b 0 then tins t.rules i b else tdel t.rules i }
            (if clear = 1 then s.clearsCounter both i else s).done o []))

/-- NET.WRITE_RANGE (R572, R581). -/
def execNetWriteRange (r : Req) (s : State) : Out :=
  .next (s.command 0x4011 r (fun o s =>
    s.wellFormed o 8 [] fun s =>
      let b := o.payload
      let cl := s.clsBody
      let d := rgDir b
      s.checks o [(!s.inSession 0, 0x0004)] fun s =>
        match rangeFault b with
        | some off => s.malformed o off
        | none =>
          s.checks o ((decide (clRange cl d ≤ rgIndex b), 0x0011) :: if s.committing then [] else s.shadowChecks) fun s =>
          s.order o [objRange d (rgIndex b)] fun s =>
            let both := s.committed
            let s := s.takesEffect o.port o.opcode [objRange d (rgIndex b)]
            let i := clRangeBase cl d + rgIndex b
            let s := s.writeShadow both fun t => { t with ranges := if byteAt b 3 = 1 then tins t.ranges i b else tdel t.ranges i }
            s.done o []))

/-- NET.COMMIT (R580). -/
def execNetCommit (r : Req) (s : State) : Out :=
  .next (s.command 0x4012 r (fun o s =>
    s.wellFormed o 0 [] fun s =>
      s.checks o [(!s.inSession 0, 0x0004)] fun s =>
      s.order o [objEpoch] fun s =>
      s.checks o s.shadowChecks fun s =>
        let s := s.takesEffect o.port o.opcode [objEpoch]
        if s.oldLive then
          let (k, s) := s.ticketed o cPending []
          s.modCls fun c => { c with waiting := some k, drained := max c.drained (s.relayEdge - 1) }
        else
          let e := s.relayEdge
          let s := s.commitTakes e
          s.done o (s.commitResult e)))

/-- RLY.NET_CLS_CNT[d]. -/
def Mac.clsReg (k : Mac) : Nat := k.missDrop + 256 * k.stale + 65536 * k.overDrop + 16777216 * k.injLoop

/-- NET.GET_COUNTERS (R577). -/
def execNetGetCounters (r : Req) (s : State) : Out :=
  .next (s.command 0x4013 r (fun o s =>
    let d := byteAt o.payload 0
    let flags := byteAt o.payload 1
    let first := u16 o.payload 2
    let n := u16 o.payload 4
    let cl := s.clsBody
    s.formedBy o 8 [(decide (1 < d), 0), (decide (1 < flags), 1), (decide (clTcam cl d < first + n), 2), (decide (n = 0 ∨ 240 < n), 4)]
      [(6, 2)] fun s =>
      if flags = 1 ∧ o.port.rank = 5 then s.respond o cRank []
      else s.checks o [(!s.inSession 0, 0x0004)] fun s =>
        let k := s.mac d
        let base := clTcamBase cl d + first
        let one (i : Nat) : Bytes :=
          let c := tget ({} : RuleCount) s.net.cls.counts (base + i)
          le 4 c.frames ++ le 8 c.bytes ++ le 4 c.refused
        let data := (List.range n).flatMap one
        let s := if flags = 1 then
            s.modCls fun c => { c with counts := c.counts.filter fun x => !(decide (base ≤ x.1) && decide (x.1 < base + n)) }
          else s
        s.done o (le 1 d ++ zeros 1 ++ le 2 first ++ le 2 n ++ zeros 2 ++ le 4 k.misses ++ le 4 k.clsReg ++ data)))

/-! ## Mirror sink (section 9) -/

/-- MIRROR_COPY: the oldest copy in progress ends with its header (R588, Table 16.5). -/
def execMirrorCopy (s : State) : Out :=
  .next (match s.net.mrJobs with
    | [] => s
    | j :: rest =>
      let cap := min j.bytes.length 128
      let s := s.advanceTo (j.dispatch + ceilDiv cap 16 + 1)
      let (base, len) := s.partition 3
      let seq := s.net.mrTail
      let head := le 1 j.dir ++ zeros 1 ++ le 2 j.bytes.length ++ le 2 cap ++ zeros 2 ++ le 8 (baton j.recv (8 + j.dir)) ++ le 4 j.rule ++ le 4 seq
        ++ zeros 8
      let s := s.poolWrite (base + 256 * (seq % (len / 256))) (sized 256 (head ++ j.bytes.take cap))
      s.modNet fun n => { n with mrJobs := rest, mrTail := (seq + 1) % 2 ^ 32 })

/-- MR_HEAD_WRITE (R588). -/
def execMrHeadWrite (core : CoreId) (value : Word) (s : State) : Out :=
  .next (s.relayAccess core 0x41060088 fun s =>
    if headInRange s.net.mrHead s.net.mrTail value.toNat then s.modNet fun n => { n with mrHead := value.toNat }
    else s.event (coreSlot core) 0 0x0003 0 0x41060088 value.toNat)

/-- NET.SET_MIRROR (R587, R597). -/
def execNetSetMirror (r : Req) (s : State) : Out :=
  .next (s.command 0x4014 r (fun o s =>
    let mode := byteAt o.payload 0
    s.formedBy o 4 [(decide (2 < mode), 0)] [(1, 3)] fun s =>
      s.checks o [(!s.inSession 0, 0x0004), (decide (mode ≠ 0) && s.featureOff 7, 0x00FE),
                  (decide (mode ≠ 0) && decide (byteAt (s.sect 0x04 0) 3 = 0), 0x0016)] fun s =>
      s.order o [objTable 163841] fun s =>
        let s := s.takesEffect o.port o.opcode [objTable 163841]
        let s := s.net.mrJobs.foldl (fun s j => s.drop j.dir dMrOff (baton j.recv (8 + j.dir)) j.rule) s
        let s := s.modNet fun n =>
          { n with mrMode := mode, mrHead := n.mrTail, mrOff := satAdd 65535 n.mrOff n.mrJobs.length, mrJobs := [] }
        s.done o (le 8 (baton s.relayEdge 8) ++ le 4 s.net.mrTail)))

/-! ## Injection (section 10) -/

/-- NET.INJECT (R589, R590). -/
def execNetInject (r : Req) (s : State) : Out :=
  .next (s.command 0x4015 r (fun o s =>
    let m := byteAt o.payload 0
    let mode := byteAt o.payload 1
    let len := u16 o.payload 2
    if o.payload.length < 8 then s.malformed o o.payload.length
    else s.formedBy o o.payload.length
      [(decide (1 < m), 0), (decide (1 < mode), 1), (decide (len < 60 ∨ 2044 < len ∨ o.payload.length ≠ 8 + len), 2)] [(4, 4)] fun s =>
      let dir := if mode = 0 then 1 - m else m
      s.checks o [(!s.inSession 0, 0x0004), (!s.powered dRelayNet, 0x0010), (!s.macOn m, 0x0001), (!s.roomFor dir, 0x0017)] fun s =>
        let t := s.relayEdge
        let bs := withFcs (o.payload.drop 8)
        let s := if mode = 0 then
            let f : NetFrame := { dir := dir, bytes := bs, recv := t, cells := 16, stage := .forward, edge := t, txMac := m }
            if !(s.mac m).up then s.drop m dTxLinkdown (baton t (8 + m)) 0
            else s.modNet fun n => { n with frames := n.frames ++ [f] }
          else
            let f : NetFrame := { dir := m, bytes := bs, recv := t, cells := ceilDiv bs.length 128, stage := .parsing, injected := true,
                                  parse := s.parseFrame m bs }
            (s.modMac m fun k => { k with rxOk := satInc 0xFFFFFFFF k.rxOk }).modNet fun n => { n with frames := n.frames ++ [f] }
        s.done o (le 8 (baton t (8 + m)))))

/-! ## Application and power -/

/-- A RULES section as a table (R569, R572; section 4.12 of the Formula). -/
def rulesTable (cl b : Bytes) : Table :=
  let t := u16 b 0
  let g := u16 b 2
  let rules := (List.range t).map fun i => slice b (8 + 96 * i) 96
  let ranges := (List.range g).map fun i => slice b (8 + 96 * t + 8 * i) 8
  { rules := (rules.filter fun r => ruFlag r 0).foldl (fun m r => tins m (clTcamBase cl (ruDir r) + ruIndex r) r) [],
    ranges := (ranges.filter fun r => byteAt r 3 = 1).foldl (fun m r => tins m (clRangeBase cl (rgDir r) + rgIndex r) r) [] }

/-- The PARSE, CLASSIFIER and RULES sections are applied: limits, tables with epoch 0, empty buffers and counters (R510, R578, R587). -/
def State.applyNet (s : State) : State :=
  let mac (m : Nat) : Mac :=
    let b := s.macBlock m
    { depth := pbDepth b, window := pbWindow b, depthWas := pbDepth b, windowWas := pbWindow b }
  let t := rulesTable s.clsBody (s.sect 0x10 0)
  s.modNet fun _ => { macs := tset {} (tset {} [] 0 (mac 0)) 1 (mac 1), cls := { current := t, shadow := t } }

/-- RELAY_NET goes off: both MACs are in reset, every frame and the slow-path ring are lost, every epoch counts as drained, and a shadow copy
waits until the domain is back on (R542, R583). -/
def State.netOff (s : State) : State :=
  let s := s.modNet fun n => { n with frames := [], mrJobs := [], spHead := 0, spTail := 0 }
  let s := [0, 1].foldl (fun s m => s.modMac m fun k =>
    { k with up := false, training := none, receiving := none, paused := none, pauseDue := none, free := 0 }) s
  (s.pendingTakes s.now).modCls fun c => { c with copyHeld := c.copyHeld || c.copying.isSome, copying := none }

/-- RELAY_NET comes back on: a copy that waited for it runs (R583). -/
def State.netBack (s : State) : State :=
  s.modCls fun c => if c.copyHeld then { c with copyHeld := false, copying := some (s.now + 512) } else c

/-! ## Registers -/

/-- RLY.NET_EPOCH. -/
def State.netEpoch (s : State) : Nat :=
  let c := s.net.cls
  let bound := (s.net.frames.filter fun f => f.epoch = some c.old ∧ c.old ≠ c.cur).length
  c.cur + 4 * c.old + 16 * b2n s.oldLive + 32 * b2n c.waiting.isSome + 64 * b2n c.copying.isSome + 128 * min 511 bound + 65536 * c.commits

/-- RLY.NET_CUS_CNT, NET_MR_CFG and NET_MR_DROP. -/
def State.netCusCnt (s : State) : Nat := s.net.steered + 65536 * s.net.cusFull + 16777216 * s.net.cusLink
def State.netMrCfg (s : State) : Nat := s.net.mrMode + 4 * (byteAt (s.sect 0x04 0) 3 * 128)
def State.netMrDrop (s : State) : Nat := s.net.mrFull + 65536 * s.net.mrOff

end Sys2Proof.Machine
end

