-- ==== Sys2Proof/Machine/Nose.lean ====
section
/-! DEFINITION. The Nose: the model and what it computes, the import, tenant sessions, the inference schedule, events and the NOS
commands (chapter 18). -/

namespace Sys2Proof.Machine

/-! ## The model (section 3) -/

/-- Fields of the model header (Table 18.2). -/
def mLayers (b : Bytes) : Nat := byteAt b 4
def mStreams (b : Bytes) : Nat := byteAt b 5
def mHop (b : Bytes) : Nat := u32 b 8
def mWeightLen (b : Bytes) : Nat := u32 b 12
def mActLen (b : Bytes) : Nat := u32 b 16

/-- Start of the weight blob (R637). -/
def mBlob (b : Bytes) : Nat := ceilDiv (80 + 32 * mLayers b) 64 * 64

/-- The streams (Table 18.3). -/
def mStream (b : Bytes) (i : Nat) : Stream :=
  let o := 32 + 8 * i
  { source := byteAt b o, rateK := byteAt b (o + 1), shift := byteAt b (o + 2), count := u16 b (o + 4), dst := u16 b (o + 6) }
def mStreamList (b : Bytes) : List Stream := (List.range (mStreams b)).map (mStream b)

/-- The layers (Table 18.4). -/
def mLayer (b : Bytes) (i : Nat) : Layer :=
  let o := 80 + 32 * i
  { kind := byteAt b o, act := byteAt b (o + 1), k := byteAt b (o + 2), step := byteAt b (o + 3), lIn := u16 b (o + 4),
    cIn := u16 b (o + 6), cOut := u16 b (o + 8), lOut := u16 b (o + 10), inOff := u16 b (o + 12), in2Off := u16 b (o + 14),
    outOff := u16 b (o + 16), wOff := u32 b (o + 20), qOff := u32 b (o + 24), lutOff := u32 b (o + 28) }
def mLayerList (b : Bytes) : List Layer := (List.range (mLayers b)).map (mLayer b)

/-- INPUT_BYTES (R638) and LOAD_CYCLES (R653). -/
def mInputBytes (b : Bytes) : Nat := ((mStreamList b).map Stream.count).sum
def loadCycles (b : Bytes) : Nat := ceilDiv (mInputBytes b) 16 + 4

/-- Cycles of a layer (Table 18.5). -/
def Layer.cycles (l : Layer) : Nat :=
  match l.kind with
  | 1 => ceilDiv l.cOut 16 * ceilDiv (l.cIn * l.k) 32 * (l.lOut + 8) + 32
  | 2 => ceilDiv (l.cIn * l.k) 512 * (l.lOut + 8) + 32
  | 3 => ceilDiv l.cOut 16 * ceilDiv (l.lIn * l.cIn) 32 * 9 + 32
  | 4 => ceilDiv (l.lOut * l.cIn) 64 + 16
  | 5 => ceilDiv (l.lOut * l.cIn) 64 + 16
  | 6 => ceilDiv (l.lIn * l.cIn) 64 + 16
  | _ => 16

/-- INF_CYCLES (R641). -/
def infCycles (b : Bytes) : Nat := 64 + ((mLayerList b).map Layer.cycles).sum

/-! ### Validity (R642) -/

/-- Two byte ranges do not overlap. -/
def apart (a n b m : Nat) : Bool := a + n ≤ b || b + m ≤ a

/-- Bytes of a layer's input, second input and output tensors. -/
def Layer.inLen (l : Layer) : Nat := l.lIn * l.cIn
def Layer.outLen (l : Layer) : Nat := if l.kind = 7 then 0 else l.lOut * l.cOut

/-- Bytes of a layer's weights and quantization records (R640). -/
def Layer.weights (l : Layer) : Nat :=
  match l.kind with | 1 => l.cOut * l.k * l.cIn | 2 => l.cIn * l.k | 3 => l.cOut * l.inLen | _ => 0
def Layer.quant (l : Layer) : Nat := if 1 ≤ l.kind ∧ l.kind ≤ 3 then 16 * l.cOut else 0

/-- An input tensor lies within ACT_LEN, or within the input buffer where bit 15 is set. -/
def tensorIn (actLen off len : Nat) : Bool :=
  if bit off 15 then off % 8192 * 64 + len ≤ 24576 else off * 64 + len ≤ actLen

/-- The shapes of R640. -/
def Layer.shapeOk (l : Layer) : Bool :=
  let slid := l.k ≤ l.lIn && l.lOut == (l.lIn - l.k) / l.step + 1
  match l.kind with
  | 1 => slid
  | 2 => slid && l.cOut == l.cIn
  | 3 => l.lOut == 1 && l.k == 1 && l.step == 1
  | 4 => slid && l.cOut == l.cIn
  | 5 => slid && l.cOut == l.cIn && [2, 4, 8, 16].contains l.k
  | 6 => l.lOut == l.lIn && l.cOut == l.cIn && l.k == 1 && l.step == 1
  | _ => l.lIn == 1 && l.cIn == 8 && l.k == 1 && l.step == 1

/-- A range of the weight blob, 64-byte aligned; zero where there is none. -/
def blobRange (blobLen off len : Nat) : Bool := if len = 0 then off = 0 else off % 64 = 0 ∧ off + len ≤ blobLen

/-- A quantization record holds listed values (R640). -/
def quantOk (b : Bytes) (o : Nat) : Bool := byteAt b (o + 8) ≤ 31 && (firstNonZero b (o + 9) 7).isNone

/-- One layer is valid. -/
def Layer.ok (b : Bytes) (i : Nat) (l : Layer) : Bool :=
  let o := 80 + 32 * i
  let act := mActLen b
  (1 ≤ l.kind && l.kind ≤ 7) && l.act ≤ 2 && (1 ≤ l.k && l.k ≤ 31) && (1 ≤ l.step && l.step ≤ 8) && (1 ≤ l.lIn && l.lIn ≤ 4096)
    && (1 ≤ l.cIn && l.cIn ≤ 1024) && (1 ≤ l.cOut && l.cOut ≤ 1024) && u16 b (o + 18) == 0 && (l.kind == 6 || l.in2Off == 0)
    && l.shapeOk && decide (l.kind = 7 ↔ i + 1 = mLayers b)
    && tensorIn act l.inOff l.inLen && (l.kind != 6 || tensorIn act l.in2Off l.inLen)
    && (l.kind == 7 || l.outOff * 64 + l.outLen ≤ act)
    && (bit l.inOff 15 || apart (l.inOff * 64) l.inLen (l.outOff * 64) l.outLen)
    && (l.kind != 6 || bit l.in2Off 15 || apart (l.in2Off * 64) l.inLen (l.outOff * 64) l.outLen)
    && blobRange (mWeightLen b) l.wOff l.weights && blobRange (mWeightLen b) l.qOff l.quant
    && blobRange (mWeightLen b) l.lutOff (if l.act = 2 then 256 else 0)
    && (List.range (l.quant / 16)).all fun c => quantOk b (mBlob b + l.qOff + 16 * c)

/-- One stream is valid. -/
def Stream.ok (x : Stream) : Bool :=
  x.source ≤ 5 && (if x.source < 4 then x.rateK ≤ 5 else x.rateK = 0) && x.shift ≤ 8 && (16 ≤ x.count && x.count ≤ 4096)
    && x.dst * 64 + x.count ≤ 24576

/-- Every rule of R642 but the one on sources. -/
def modelValid (b : Bytes) : Bool :=
  let xs := mStreamList b
  b.take 4 == ascii "TXNM" && (1 ≤ mLayers b && mLayers b ≤ 64) && (1 ≤ mStreams b && mStreams b ≤ 6) && u16 b 6 == 0
    && (1000 ≤ mHop b && mHop b ≤ 1000000) && mWeightLen b % 64 == 0 && mActLen b ≤ 0x74000
    && (firstNonZero b 20 12).isNone && (firstNonZero b (32 + 8 * mStreams b) (48 - 8 * mStreams b)).isNone
    && b.length == mBlob b + mWeightLen b
    && xs.all Stream.ok && (List.range (mStreams b)).all (fun i => byteAt b (35 + 8 * i) == 0)
    && (List.range xs.length).all (fun i => (List.range i).all fun j =>
        apart ((mStream b i).dst * 64) (mStream b i).count ((mStream b j).dst * 64) (mStream b j).count)
    && (mLayerList b).zipIdx.all fun l => l.1.ok b l.2

/-- Sources are distinct and set in CHANNELS. -/
def sourcesOk (b : Bytes) (channels : Nat) : Bool :=
  let src := (mStreamList b).map Stream.source
  decide src.Nodup && src.all fun x => bit channels x

/-! ### What a layer computes (R640) -/

/-- A byte as int8, a sum wrapped to 32 bits, and a number saturated to int8. -/
def int8 (b : Byte) : Int := signed 8 b.toNat
def wrap32 (x : Int) : Int := signed 32 (unsigned 32 x)
def sat8 (x : Int) : Int := if x < -128 then -128 else if 127 < x then 127 else x
def ofInt8 (x : Int) : Byte := BitVec.ofNat 8 (unsigned 8 x)

/-- A byte of activation SRAM as the engine unseals it: one that the session has not written unseals from the zero that the scrub
left (R650). -/
def actByte (key : Bytes) (m : Sparse Byte) (a : Nat) : Byte :=
  match tfind m a with
  | some b => b
  | none => (xts true key (le 16 (a / 64 + 2 ^ 31)) (zeros 64)).getD (a % 64) 0

/-- First address of an input tensor, its buffer being that of the window computed (R638, R639). -/
def inAddr (window off : Nat) : Nat := if bit off 15 then 0x74000 + 0x6000 * (window % 2) + off % 8192 * 64 else off * 64

/-- The output of a quantized layer (R640): `acc × MULT`, rounded and shifted, saturated. -/
def requant (b : Bytes) (q c : Nat) (acc : Int) : Int :=
  let o := q + 16 * c
  let mult := signed 32 (u32 b (o + 4))
  let shift := byteAt b (o + 8)
  sat8 ((wrap32 (acc + signed 32 (u32 b o)) * mult + (2 ^ (30 + shift) : Nat)) / (2 ^ (31 + shift) : Nat))

/-- ACT on an output. -/
def activate (b : Bytes) (l : Layer) (y : Int) : Int :=
  if l.act = 1 then max 0 y else if l.act = 2 then int8 (b.getD (mBlob b + l.lutOff + (y + 128).toNat) 0) else y

/-- Sum of `f` below `n`. -/
def sumTo (n : Nat) (f : Nat → Int) : Int := (List.range n).foldl (fun a i => a + f i) 0

/-- The value at position `p`, channel `c` of a layer's output, its inputs read by index. -/
def Layer.value (b : Bytes) (l : Layer) (x x2 : Nat → Int) (p c : Nat) : Int :=
  let w (i : Nat) : Int := int8 (b.getD (mBlob b + l.wOff + i) 0)
  let q := mBlob b + l.qOff
  let at_ (k ci : Nat) : Int := x ((p * l.step + k) * l.cIn + ci)
  match l.kind with
  | 1 => requant b q c (sumTo l.k fun k => sumTo l.cIn fun ci => at_ k ci * w ((c * l.k + k) * l.cIn + ci))
  | 2 => requant b q c (sumTo l.k fun k => at_ k c * w (c * l.k + k))
  | 3 => requant b q c (sumTo l.inLen fun i => x i * w (c * l.inLen + i))
  | 4 => (List.range l.k).foldl (fun m k => max m (at_ k c)) (-128)
  | 5 => (sumTo l.k (fun k => at_ k c) + (l.k / 2 : Nat)) / (l.k : Int)
  | _ => sat8 (x (p * l.cIn + c) + x2 (p * l.cIn + c))

/-- The layer's output tensor in [L][C] order. -/
def Layer.output (key b : Bytes) (window : Nat) (l : Layer) (m : Sparse Byte) : Bytes :=
  let x (off : Nat) (i : Nat) : Int := int8 (actByte key m (inAddr window off + i))
  (List.range l.lOut).flatMap fun p => (List.range l.cOut).map fun c => ofInt8 (activate b l (l.value b (x l.inOff) (x l.in2Off) p c))

/-- Bytes written to activation SRAM. -/
def actWrite (m : Sparse Byte) : Nat → Bytes → Sparse Byte
  | _, [] => m
  | a, v :: vs => actWrite (tins m a v) (a + 1) vs

/-- The layers before OUT run in descriptor order; OUT gives the eight confidences. -/
def runLayers (key b : Bytes) (window : Nat) : List Layer → Sparse Byte → Sparse Byte × List Nat
  | [], m => (m, [])
  | l :: rest, m =>
    if l.kind = 7 then (m, (List.range 8).map fun n => (int8 (actByte key m (inAddr window l.inOff + n)) + 128).toNat)
    else runLayers key b window rest (actWrite m (l.outOff * 64) (l.output key b window m))

/-! ## Sessions and scrubs -/

/-- Slot 118 (Table 7.5). -/
def slotNose : Nat := 118

/-- A tenant session is open (R631). -/
def State.tenantOpen (s : State) : Bool := s.nose.state = .loaded ∨ s.nose.state = .running

/-- A scrub whose cause stands on edge `t` (R632): every register that holds model data reads zero. -/
def State.startScrub (t : Nat) (s : State) : State :=
  s.modNose fun n =>
    { n with state := .scrubbing, scrubEnd := t + 655360, model := [], tenantId := [], tenant := 0, version := 0, opened := 0, load := none,
             compute := none, rings := [], act := [], importing := none, stagedOpen := false }

/-- The causes of a session's end, numbered in the order of R649 (a design choice). -/
def endImport : Nat := 1
def endStop : Nat := 2
def endDrain : Nat := 3
def endDq : Nat := 4
def endRestart : Nat := 5

/-- A tenant session ends on edge `t` (R649). -/
def State.endTenant (t cause : Nat) (s : State) : State :=
  ((s.logAt t 5 0 0x0B02 s.nose.session cause).emptySlot slotNose).startScrub t

/-- DQ ends the session on its edge (R663). -/
def State.noseDq (s : State) : State := if s.tenantOpen then s.endTenant s.now endDq else s

/-- What a computing inference had written when it is discarded: its outputs are open from then on. -/
def State.spoil (s : State) : State :=
  if s.nose.compute.isNone then s
  else (mLayerList s.nose.model).foldl (fun s l =>
    let base := s.free
    let s := { s with free := base + l.outLen }
    s.modNose fun n => { n with act := actWrite n.act (l.outOff * 64) (fit l.outLen fun i => Config.freeByte (base + i)) }) s

/-- The window edge of edge `t` was not taken (R660, R662); a loaded or loading window is discarded. -/
def State.dropLoad (t : Nat) (s : State) : State :=
  s.modNose fun n =>
    match n.load with
    | none => n
    | some w => { n with load := none, wseq := if w.taken = t then n.wseq - 1 else n.wseq }

/-- The import whose transfer is open has its command no more: the Nose leaves STAGING (R646, R648). -/
def State.closeImport (s : State) : State :=
  match s.nose.importing with
  | none => s
  | some (p, n, tag) =>
    if s.nose.state = .staging ∧ (s.findOut p n tag).isNone then s.startScrub s.now
    else if (s.findOut p n tag).isNone then s.modNose fun x => { x with importing := none, stagedOpen := false }
    else s

/-- NOSE_IMPORT_CLOSE (R648). -/
def execNoseImportClose (s : State) : Out := .next s.closeImport

/-- NOSE_SCRUB_END (R632): EMPTY, or OFF when a drain awaits it. -/
def execNoseScrubEnd (s : State) : Out :=
  .next (if s.nose.state = .scrubbing then
      let s := s.advanceTo s.nose.scrubEnd
      let off := s.draining dNose
      s.modNose fun n => { n with state := if off then .off else .empty, act := [], scrubOwed := false }
    else s)

/-! ## Drain of domain NOSE (R656) -/

/-- The claim on domain NOSE. -/
def State.noseClaim (s : State) : Bool :=
  s.nose.state = .staging ∨ s.nose.state = .loaded ∨ s.nose.state = .running ∨ s.nose.state = .scrubbing

/-- The drain ends on edge `t`: the session ends, and the rail drops on the edge after the scrub. -/
def State.noseDrainEnd (t : Nat) (reachedT : Bool) (s : State) : State :=
  let s := if s.tenantOpen then s.endTenant t endDrain else s
  s.setDomain dNose { s.domain dNose with reachedT := reachedT, drop := some (s.nose.scrubEnd + 1) }

/-- What DRAIN of NOSE begins with on its acceptance edge: the open import closes and completes BUSY_DRAIN, the loaded window is
discarded, and without a computing inference the drain ends. -/
def State.noseDrains (ticket : Nat) (s : State) : State :=
  let s := match s.nose.state, s.nose.importing with
    | .staging, some (p, n, tag) =>
      let s := s.closeBulk p n true
      let s := match s.findOut p n tag with | some o => s.busyDrain o ticket | none => s
      s.startScrub s.now
    | _, _ => s
  let s := s.dropLoad s.now
  if s.nose.compute.isSome then s else s.noseDrainEnd (s.now + 1) false

/-- The claim timer's end (R656): the computing inference is discarded and logged; a completion of that edge is late (R659). -/
def State.noseTimerEnds (s : State) : State :=
  let d := s.domain dNose
  if d.condition ≠ .drain ∨ d.drop.isSome then s
  else
    let s := s.advanceTo d.timer
    let s := match s.nose.compute with
      | none => s
      | some w =>
        let r : Rec := { cycle := s.now, slot := 5, source := 0, code := 0x0B04, late := decide (w.edge = s.now), arg0 := s.nose.session }
        s.putRec r
    s.noseDrainEnd s.now true

/-- NOSE_CLAIM_TIMEOUT (R656, R659). -/
def execNoseClaimTimeout (s : State) : Out := .next s.noseTimerEnds

/-! ## Sources (section 2) -/

/-- The running model names a source: its stream. -/
def State.streamOf (source : Nat) (s : State) : Option Stream :=
  if s.nose.state = .running then (mStreamList s.nose.model).find? fun x => x.source = source else none

/-- A sample in 16-bit two's complement. -/
def sat16 (x : Int) : Int := if x < -32768 then -32768 else if 32767 < x then 32767 else x

/-- A sample enters its source's ring of 4096, newest first (R636). -/
def State.pushSample (source start ready : Nat) (value : Int) (s : State) : State :=
  s.modNose fun n =>
    let r : Sample := { start := start, ready := ready, value := sat16 value }
    { n with rings := tset [] n.rings source ((r :: tget [] n.rings source).take 4096) }

/-- ANALOG_SAMPLE: a conversion starts on the next edge of its rate, and is ready 600 cycles later (R634). -/
def execAnalogSample (channel : Nat) (value : Int) (s : State) : Out :=
  onObject (channel < 4) (match s.streamOf channel with
    | none => s
    | some x =>
      if !s.domainOn dSensor then s
      else
        let s := s.atTick (12000 * 2 ^ x.rateK)
        s.pushSample channel s.now (s.now + 600) value)

/-- PDM_SAMPLE: sample j becomes ready on edge 12 500 (j + 1) + 64 (R635). -/
def execPdmSample (input : Nat) (value : Int) (s : State) : Out :=
  onObject (input < 2) (match s.streamOf (4 + input) with
    | none => s
    | some _ =>
      if !s.domainOn dSensor then s
      else
        let m := ceilDiv (s.now - 64) 12500
        let s := s.advanceTo (12500 * m + 64)
        if 12500 * (m - 1) < s.nose.since ∨ m = 0 then s else s.pushSample (4 + input) (12500 * (m - 1)) s.now value)

/-! ## The inference schedule (section 7) -/

/-- The Keeper's governor settings that this edge uses (R688, R697). -/
def State.keeperGovernor (s : State) : Int × Int × Nat :=
  let g := s.pwr.keeperGov
  if s.now = g.since ∧ g.since ≠ 0 then g.was else (g.knee, g.stop, g.floor)

/-- The governor withholds the start of an inference on this edge (R687). -/
def State.withheld (s : State) : Bool :=
  let k := signed 16 (s.lastReading 0 0)
  let (knee, stop, _) := s.keeperGovernor
  decide (4 * stop ≤ k) || (decide (4 * knee ≤ k) && s.cry.jobs.any fun x => x.2.engine = 4)

/-- The loaded window starts computing on the present edge where it may (R653). -/
def State.startCompute (s : State) : State :=
  match s.nose.load with
  | none => s
  | some w =>
    if s.nose.state ≠ .running ∨ s.now ≤ w.edge ∨ s.nose.compute.isSome ∨ s.now < s.nose.freeFrom ∨ !s.domainOn dNose ∨ s.withheld then s
    else s.modNose fun n => { n with load := none, compute := some { w with edge := s.now + infCycles n.model } }

/-- INFERENCE_START: on the first edge after the load ends; a withheld window waits (R653, R687). -/
def execInferenceStart (s : State) : Out :=
  .next (match s.nose.load with
    | none => s
    | some w => (s.advanceTo (max (w.edge + 1) s.nose.freeFrom)).startCompute)

/-- The samples a stream gives window edge `e`: the N most recent that are ready, oldest first. -/
def State.windowSamples (e : Nat) (x : Stream) (s : State) : Option (List Sample) :=
  let got := ((tget [] s.nose.rings x.source).filter fun r => r.ready ≤ e).take x.count
  if got.length < x.count then none else some got.reverse

/-- The input buffer's bytes of a stream (R638). -/
def streamBytes (x : Stream) (samples : List Sample) : Bytes := samples.map fun r => ofInt8 (sat8 (r.value / (2 ^ x.shift : Nat)))

/-- A dropped window is counted, and logged: the first of a session, then one record at most per 2^30 cycles (R653). -/
def State.dropWindow (s : State) : State :=
  let s := s.modNose fun n => { n with dropped := satInc 255 n.dropped, dropsSince := n.dropsSince + 1 }
  let due := match s.nose.dropLogged with | none => true | some e => decide (e + 2 ^ 30 ≤ s.now)
  if due then
    (s.event 5 0 0x0B03 s.nose.session 0 s.nose.dropsSince).modNose fun n => { n with dropLogged := some s.now, dropsSince := 0 }
  else s

/-- A window edge: the window is skipped, dropped, or taken into its input buffer (R652, R653). -/
def State.windowEdge (s : State) : State :=
  let streams := mStreamList s.nose.model
  let got := streams.map fun x => s.windowSamples s.now x
  if got.any Option.isNone then s.modNose fun n => { n with warmup := satInc 255 n.warmup }
  else if s.nose.load.isSome then s.dropWindow
  else
    let taken := (streams.zip got).map fun x => (x.1, x.2.getD [])
    let first := (taken.flatMap fun x => x.2.map Sample.start).foldl min s.now
    s.modNose fun n =>
      let at_ := 0x74000 + 0x6000 * (n.wseq % 2)
      let w : Window := { number := n.wseq, baton := baton first 5, taken := s.now, edge := s.now + loadCycles n.model }
      { n with wseq := n.wseq + 1, load := some w,
               act := taken.foldl (fun m x => actWrite m (at_ + x.1.dst * 64) (streamBytes x.1 x.2)) n.act }

/-- NOSE_WINDOW_EDGE: on a multiple of HOP_US × 600 while the Nose is RUNNING and not draining (R652, R660). A loaded window that
starts computing on it frees its slot first (R664). -/
def execNoseWindowEdge (s : State) : Out :=
  .next (if s.nose.state ≠ .running ∨ !s.domainOn dNose then s
    else
      let s := s.atTick (mHop s.nose.model * 600)
      if s.now ≤ s.nose.since then s else s.startCompute.windowEdge)

/-! ## Outputs (section 8) -/

/-- THRESHOLD and RESPONSE of a class: KPR.MSH_NOSE[n] (R665). -/
def State.noseClass (n : Nat) (s : State) : Nat := tget 0xFF s.vlt.noseResp n

/-- A class that became active: its record, and its response by the Marshal (R240, R654). -/
def State.classActive (n : Nat) (s : State) : State :=
  let response := s.noseClass n / 256
  let s := s.event 0 (18 + n) 0x0B05 s.nose.session n
  let s := if response = 0 then s else (s.alert 2).fuseTamper
  if response = 2 then s.enterRedFlag [(18 + n, 2)] else s

/-- A record of the Nose event ring: the oldest is overwritten when it is full (R655). -/
def Nose.pushEvent (e : NoseEvent) (n : Nose) : Nose :=
  { n with events := if n.events.length < 64 then n.events ++ [e] else n.events.drop 1 ++ [e], nextRec := n.nextRec + 1,
           overwritten := if n.events.length < 64 then n.overwritten else satInc (2 ^ 32 - 1) n.overwritten }

/-- An inference's confidences are final (R654, R655). -/
def State.inferenceEnds (w : Window) (s : State) : State :=
  let n := s.nose
  let (act, conf) := runLayers (s.slotKey slotNose) n.model w.number (mLayerList n.model) n.act
  let above := maskOf 8 fun k => decide (s.noseClass k % 256 ≤ conf.getD k 0)
  let fresh := above &&& (255 - n.active)
  let e : NoseEvent := { recno := n.nextRec, wseq := w.number, winBaton := w.baton, baton := baton s.now 5, conf := conf, above := above,
                         new := fresh }
  let s := s.modNose fun n =>
    let n := { n with act := act, compute := none, freeFrom := s.now + 1, active := above, last := conf, done := satInc 65535 n.done }
    if fresh ≠ 0 ∨ conf.any (fun c => decide (n.report ≤ c)) then n.pushEvent e else n
  (List.range 8).foldl (fun s k => if bit fresh k then s.classActive k else s) s

/-- INFERENCE_COMPLETE: on the completion edge. In a drain it ends the drain, or comes too late on the terminal edge of the claim
timer (R656, R659). -/
def execInferenceComplete (s : State) : Out :=
  .next (match s.nose.compute with
    | none => s
    | some w =>
      let d := s.domain dNose
      if d.condition = .drain ∧ d.timer ≤ w.edge then s.noseTimerEnds
      else
        let s := (s.advanceTo w.edge).inferenceEnds w
        if s.draining dNose then s.noseDrainEnd (s.now + 1) false else s)

/-- A completion on the commit edge of a NOS.STOP stands (R662). -/
def State.settleCompute (s : State) : State :=
  match s.nose.compute with
  | some w => if w.edge ≤ s.now then s.inferenceEnds w else s
  | none => s

/-! ## The import (section 4) -/

/-- Tenant record `i` of the NOSE section, and the index of a tenant. -/
def tenantAt (b : Bytes) (i : Nat) : Bytes := slice b (8 + 64 * i) 64
def tenantIndex (b tenant : Bytes) : Option Nat := (List.range (byteAt b 0)).find? fun i => (tenantAt b i).take 48 = tenant

/-- The first fault of a package's form (step 6 of R646). -/
def packageFault (p : Bytes) : Option Nat :=
  if p.take 4 ≠ ascii "TXNP" then some 0
  else if u16 p 4 ≠ 1 then some 4
  else (firstNonZero p 6 2).orElse fun _ =>
    if u32 p 8 ≠ p.length then some 8
    else if u32 p 12 < 144 ∨ 2097152 < u32 p 12 ∨ u32 p 8 ≠ u32 p 12 + 6758 then some 12
    else (firstNonZero p 84 4).orElse fun _ => firstNonZero p 197 3

/-- The package's parts (Table 18.6). -/
def pkHeader (p : Bytes) : Bytes := p.take 1288
def pkBody (p : Bytes) : Bytes := slice p 1288 (u32 p 12)
def pkTag (p : Bytes) : Bytes := slice p (1288 + u32 p 12) 16
def pkSig (p : Bytes) (off n : Nat) : Bytes := slice p (1304 + u32 p 12 + off) n

/-- TENANT (R644). -/
def pkTenant (p : Bytes) : Bytes := sha (pkSig p 0 2049)

/-- Both signatures verify (R644). -/
def pkSigned (p : Bytes) : Bool :=
  let m := sha (ascii "TXI-NOS" ++ p.take (1304 + u32 p 12))
  verify sEcdsa384 (pkSig p 0 97) m (pkSig p 2049 96) && verify sMlDsa (pkSig p 97 1952) m (pkSig p 2145 3309)

/-- The model body of a package, where its tag verifies (R645). -/
def State.openPackage (p : Bytes) (s : State) : Option Bytes :=
  let point := slice p 100 97
  if !onCurve point ∨ !s.slotValid 119 ∨ !s.slotValid 120 then none
  else
    let z := ecdh (s.slotKey 119) point ++ kem (s.slotKey 120) (slice p 200 1088)
    let key := hkdf (sha (pkHeader p)) z (ascii "TXI nose pkg") 32
    gcmOpen key (slice p 88 12) (pkHeader p) (pkBody p) (pkTag p)

/-- Steps 1 to 10 of R646 that give a REFUSED_STATE, in order from step 7. -/
def State.packageRefusal (p : Bytes) (s : State) : Option Nat :=
  let b := s.sect 0x0C 0
  let bind := slice p 32 48
  if slice p 16 16 ≠ s.devid then some 0x0004
  else if bind ≠ zeros 48 ∧ bind ≠ sized 48 s.flc.maClose then some 0x0005
  else match tenantIndex b (pkTenant p) with
  | none => some 0x0007
  | some i =>
    if u16 (tenantAt b i) 48 * 1024 < u32 p 12 then some 0x000C
    else if !pkSigned p then some 0x0008
    else if !s.drbgReady then some 0x000A
    else none

/-- Step 11: slot 118 is filled and the tenant session opens (R649). -/
def State.openTenant (i : Nat) (s : State) : State :=
  let (bs, s) := s.generate 64
  let s := s.fillSlot slotNose (sysAttr 32 0 1 0 64) 0 bs
  let n := s.nose.sessions + 1
  let s := s.modNose fun x =>
    { x with sessions := n, session := n, tenant := i, opened := baton s.now 5, active := 0, events := [], overwritten := 0, nextRec := 1, wseq := 0,
             dropLogged := none, dropsSince := 0, load := none, compute := none, act := [], rings := [] }
  s.event 5 0 0x0B01 n

/-- Steps 11 to 13 of R646, and the completion. -/
def State.importRuns (o : Outstanding) (s : State) : State :=
  let p := o.bulk
  let b := s.sect 0x0C 0
  let i := (tenantIndex b (pkTenant p)).getD 0
  let s := (s.takesEffect o.orderPort 0x9000 [objNose]).openTenant i
  let fails (detail : Nat) (s : State) : State := (s.refuse o detail).endTenant s.now endImport
  match s.openPackage p with
  | none => fails 0x0009 s
  | some body =>
    if !modelValid body then fails 0x000B s
    else if !sourcesOk body (byteAt (tenantAt b i) 50) then fails 0x000D s
    else
      let s := s.modNose fun n =>
        { n with state := .loaded, model := body, tenantId := pkTenant p, version := u32 p 80, importing := none, stagedOpen := false }
      s.done o (le 1 i ++ zeros 3 ++ le 4 (u32 p 80) ++ le 4 (u32 p 12) ++ le 4 (infCycles body) ++ le 2 (loadCycles body) ++ zeros 2
        ++ le 4 s.nose.session)

/-- Every NOS command first checks FEATURES bit 1, then domain NOSE; a query runs in a drain (section 13, R656). -/
def State.noseCommand (o : Outstanding) (query : Bool) (body : State → State) (s : State) : State :=
  if s.featureOff 1 then s.refuse o 0x00FE
  else if s.draining dNose ∧ !query then s.busyDrain o ((s.domain dNose).ticket.getD 0)
  else if !s.powered dNose then s.refuse o 0x0011
  else body s

/-- NOS.IMPORT (R646 to R649, R661). -/
def execNosImport (r : Req) (s : State) : Out :=
  .next (s.command 0x9000 r (fun o s =>
    s.wellFormed o 8 [] fun s =>
      s.noseCommand o false fun s =>
        s.checks o [(!s.flc.closed, 0x0006), (byteAt (s.sect 0x0C 0) 0 = 0, 0x0001)] fun s =>
          s.needsCrypto o fun s =>
            s.order o [objNose] fun s =>
              if !(s.nose.state = .staging ∧ s.nose.importing = some (o.port, o.session, o.tag)) then s.refuse o 0x0002
              else match packageFault o.bulk with
              | some off => s.malformed o off
              | none =>
                match s.packageRefusal o.bulk with
                | some d => s.refuse o d
                | none => s.importRuns o)).closeImport

/-! ## The other NOS commands (section 13) -/

/-- NOS.START. -/
def execNosStart (r : Req) (s : State) : Out :=
  .next (s.command 0x9001 r (fun o s =>
    s.wellFormed o 4 [(1, 3)] fun s =>
      s.noseCommand o false fun s =>
        s.order o [objNose] fun s =>
          s.checks o [(decide (s.nose.state ≠ .loaded), 0x0002), (!s.domainOn dSensor, 0x0014)] fun s =>
            let s := s.modNose fun n => { n with state := .running, report := byteAt o.payload 0, since := s.now, rings := [] }
            (s.takesEffect o.port 0x9001 [objNose]).done o (le 8 (nextTick (mHop s.nose.model * 600) s.now))))

/-- NOS.STOP (R662). -/
def execNosStop (r : Req) (s : State) : Out :=
  .next (s.command 0x9002 r (fun o s =>
    s.formedBy o 4 [(decide (1 < byteAt o.payload 0), 0)] [(1, 3)] fun s =>
      s.noseCommand o false fun s =>
        s.order o [objNose] fun s =>
          let ends := decide (byteAt o.payload 0 = 1)
          s.checks o [(!(decide (s.nose.state = .running) || (ends && decide (s.nose.state = .loaded))), 0x0002)] fun s =>
            let s := ((s.takesEffect o.port 0x9002 [objNose]).settleCompute).done o (le 8 (baton s.now 5))
            if ends then s.endTenant s.now endStop
            else (s.dropLoad s.now).spoil.modNose fun n => { n with state := .loaded, compute := none, freeFrom := s.now + 1 }))

/-- KPR.NOS_STAT, KPR.NOS_CNT. -/
def NoseState.code : NoseState → Nat
  | .off => 0 | .empty => 1 | .staging => 2 | .loaded => 3 | .running => 4 | .scrubbing => 5
def Nose.stat (n : Nose) : Nat :=
  n.state.code + 8 * b2n n.load.isSome + 16 * b2n n.compute.isSome + 32 * (n.tenant % 8) + 256 * n.active + 65536 * (n.session % 65536)
def Nose.cnt (n : Nose) : Nat := n.done + 65536 * n.dropped + 2 ^ 24 * n.warmup

/-- INF_CYCLES and LOAD_CYCLES, zero when no model is loaded. -/
def Nose.infTime (n : Nose) : Nat := if n.model.isEmpty then 0 else infCycles n.model
def Nose.loadTime (n : Nose) : Nat := if n.model.isEmpty then 0 else loadCycles n.model

/-- NOS.GET_STATUS (Table 18.7). -/
def execNosGetStatus (r : Req) (s : State) : Out :=
  .next (s.command 0x9003 r (fun o s =>
    s.wellFormed o 0 [] fun s =>
      s.noseCommand o true fun s =>
        let n := s.nose
        let held := !n.model.isEmpty
        let xs := if held then mStreamList n.model else []
        s.done o (le 1 n.state.code ++ le 1 (if s.tenantOpen then n.tenant else 0xFF) ++ le 1 n.active
          ++ le 1 (b2n n.load.isSome + 2 * b2n n.compute.isSome) ++ le 4 n.session ++ sized 48 n.tenantId ++ le 4 n.version
          ++ le 4 n.model.length ++ le 4 (if held then mHop n.model else 0) ++ le 4 n.infTime ++ le 2 n.loadTime
          ++ (List.range 6).flatMap (fun i => match xs[i]? with | some x => le 1 (x.source + 16 * x.rateK) | none => [0xFF])
          ++ (List.range 6).flatMap (fun i => le 2 ((xs[i]?.map Stream.count).getD 0))
          ++ le 4 n.cnt ++ (List.range 8).flatMap (fun i => le 1 (n.last.getD i 0)) ++ le 8 n.opened)))

/-- A record's 40 bytes (Table 18.8). -/
def NoseEvent.bytes (e : NoseEvent) : Bytes :=
  le 4 e.recno ++ le 4 e.wseq ++ le 8 e.winBaton ++ le 8 e.baton ++ (List.range 8).flatMap (fun i => le 1 (e.conf.getD i 0))
    ++ le 1 e.above ++ le 1 e.new ++ zeros 6

/-- NOS.GET_EVENTS. -/
def execNosGetEvents (r : Req) (s : State) : Out :=
  .next (s.command 0x9004 r (fun o s =>
    s.wellFormed o 4 [] fun s =>
      s.noseCommand o true fun s =>
        let n := s.nose
        let since := u32 o.payload 0
        s.done o (le 4 n.session ++ le 4 ((n.events.head?.map NoseEvent.recno).getD 0) ++ le 4 ((n.events.getLast?.map NoseEvent.recno).getD 0)
          ++ le 4 n.overwritten ++ (n.events.filter fun e => since ≤ e.recno).flatMap NoseEvent.bytes)))

end Sys2Proof.Machine
end

