-- ==== Sys2Proof/Machine/Validate.lean ====
section
/-! DEFINITION. Validation of a Formula: steps 1 to 34 of Table 4.4 (chapter 4, section 6). Each step gives the offsets of the
faulty bytes it finds; the lowest one is reported (R173). -/

namespace Sys2Proof.Machine

/-! ## The Formula as bytes -/

/-- A directory entry (Table 4.2) with its own offset and the bytes of its section. -/
structure DirEntry where
  place : Nat
  type : Nat
  inst : Nat
  sver : Nat
  zero : Nat
  off : Nat
  len : Nat
  crc : Nat
  body : Bytes
  deriving DecidableEq, Repr

def fmTotal (b : Bytes) : Nat := u32 b 8
def fmSigned (b : Bytes) : Nat := u32 b 12
def fmVersion (b : Bytes) : Nat := u16 b 20
def fmCounter (b : Bytes) : Nat := byteAt b 22
def fmScheme (b : Bytes) : Nat := byteAt b 23
def fmKey (b : Bytes) : Nat := byteAt b 24
def fmLifecycles (b : Bytes) : Nat := byteAt b 25
def fmCount (b : Bytes) : Nat := u16 b 26

def dirEntry (b : Bytes) (k : Nat) : DirEntry :=
  let e := 64 + 16 * k
  { place := e, type := byteAt b e, inst := byteAt b (e + 1), sver := byteAt b (e + 2), zero := byteAt b (e + 3),
    off := u32 b (e + 4), len := u32 b (e + 8), crc := u32 b (e + 12), body := slice b (u32 b (e + 4)) (u32 b (e + 8)) }

/-- The directory, as far as it lies below SIGNED_LEN. -/
def directory (b : Bytes) : List DirEntry := (List.range (min (fmCount b) ((fmSigned b - 64) / 16))).map (dirEntry b)

/-- A Formula under validation. -/
structure Draft where
  bytes : Bytes
  dir : List DirEntry
  deriving DecidableEq, Repr

def Draft.of (b : Bytes) : Draft := { bytes := b, dir := directory b }

def Draft.find (d : Draft) (type inst : Nat) : Option DirEntry := d.dir.find? fun e => e.type = type ∧ e.inst = inst
def Draft.has (d : Draft) (type inst : Nat) : Bool := (d.find type inst).isSome
def Draft.body (d : Draft) (type inst : Nat) : Bytes := ((d.find type inst).map DirEntry.body).getD []
def Draft.off (d : Draft) (type inst : Nat) : Nat := ((d.find type inst).map DirEntry.off).getD 0
def Draft.all (d : Draft) (type : Nat) : List DirEntry := d.dir.filter fun e => e.type = type

/-- The Formula that a validated draft gives (R169). -/
def formulaOf (b : Bytes) : Formula :=
  { serial := u32 b 16, version := fmVersion b, counter := fmCounter b, keyIndex := fmKey b, lifecycles := fmLifecycles b,
    digest := sha (b.take (fmSigned b)), sections := (directory b).map fun e => { type := e.type, inst := e.inst, body := e.body } }

/-- Offsets from `base` of the tests that hold. -/
def faultsAt (base : Nat) (tests : List (Bool × Nat)) : List Nat := (tests.filter Prod.fst).map fun x => base + x.2

/-- The first byte not zero among `n` from `off`, as an offset from `base`. -/
def nonZeroAt (base : Nat) (b : Bytes) (off n : Nat) : List Nat := ((firstNonZero b off n).map (base + ·)).toList

/-- A number outside its range. -/
def outside (v lo hi : Nat) : Bool := v < lo || hi < v

/-- Bytes that differ from constants, or are missing. -/
def differs (b : Bytes) (off : Nat) (want : Bytes) : List Nat :=
  (((List.range want.length).find? fun i => b[off + i]? ≠ want[i]?).map (off + ·)).toList

/-! ## Steps 1 to 5: header and directory -/

/-- Lengths of PQ_SIG by PQ_PUB_LEN (R168). -/
def pqSigLengths (pub : Nat) : List Nat := if pub = 1952 then [3309] else if pub = 56 then [2508, 2668, 2828] else []

def sgPubLen (b : Bytes) : Nat := u16 b (fmSigned b + 97)
def sgEcAt (b : Bytes) : Nat := fmSigned b + 99 + sgPubLen b
def sgPqLen (b : Bytes) : Nat := u16 b (sgEcAt b + 96)

def lengthFaults (b : Bytes) : List Nat :=
  if b.length < 64 then [8]
  else if outside (fmTotal b) 64 98304 || fmTotal b ≠ b.length then [8]
  else if fmSigned b % 8 ≠ 0 ∨ fmSigned b < 64 ∨ fmTotal b < fmSigned b + 99 then [12]
  else if pqSigLengths (sgPubLen b) = [] then [fmSigned b + 97]
  else if sgPqLen b ∉ pqSigLengths (sgPubLen b) then [sgEcAt b + 96]
  else if sgEcAt b + 98 + sgPqLen b ≠ fmTotal b then [8]
  else []

/-- Instances that Table 4.3 allows, as a bound; none for a type it does not list. -/
def instances (type : Nat) : Option Nat :=
  if type ∈ [3, 0xE, 0xF] then some 5 else if type ∈ [7, 8, 0xA] then some 4
  else if 1 ≤ type ∧ type ≤ 0x10 then some 1 else none

/-- Step 4 (R767). -/
def reservedFaults (d : Draft) : List Nat :=
  let b := d.bytes
  faultsAt 0 [(64 < fmVersion b, 20), (63 < fmCounter b, 22), (outside (fmScheme b) 1 2, 23), (3 < fmKey b, 24),
      (16 ≤ fmLifecycles b, 25), (outside (fmCount b) 1 64, 26)] ++ nonZeroAt 0 b 28 4
    ++ d.dir.flatMap fun e =>
      faultsAt e.place [(instances e.type = none, 0), ((match instances e.type with | some n => decide (n ≤ e.inst) | none => false), 1),
        (e.sver ≠ 1, 2), (e.zero ≠ 0, 3)]

/-- Faults of R153 from an entry on: where its section must begin, and the key before it. -/
def orderFaults (b : Bytes) : Nat → Nat × Nat → List DirEntry → List Nat
  | _, _, [] => []
  | at_, key, e :: rest =>
    let want := ceilDiv at_ 8 * 8
    let low := e.type < key.1 ∨ (e.type = key.1 ∧ e.inst < key.2)
    faultsAt e.place [(low, 0), (e.off ≠ want, 4), (fmSigned b < e.off + e.len, 8)]
      ++ (if e.off = want then nonZeroAt 0 b at_ (want - at_) else [])
      ++ orderFaults b (e.off + e.len) (e.type, e.inst) rest

/-- Step 5: the directory, then the end of the last section against SIGNED_LEN. -/
def directoryFaults (d : Draft) : List Nat :=
  let b := d.bytes
  let ends := match d.dir.getLast? with | some e => e.off + e.len | none => 64
  if d.dir.length < fmCount b then [26]
  else match orderFaults b (64 + 16 * fmCount b) (0, 0) d.dir with
  | [] => if fmSigned b < ends ∨ 7 < fmSigned b - ends then [12] else nonZeroAt 0 b ends (fmSigned b - ends)
  | fs => fs

/-! ## Steps 6 to 12: keys, device, rollback -/

def sgEcPub (b : Bytes) : Bytes := slice b (fmSigned b) 97
def sgPqPub (b : Bytes) : Bytes := slice b (fmSigned b + 99) (sgPubLen b)

/-- The message of both signatures (R169). -/
def formulaMessage (b : Bytes) : Bytes := ascii "TXI-FRM" ++ sha (b.take (fmSigned b))

/-- Step 6: Formula key KEY_INDEX is key unit 2 + KEY_INDEX (R189). -/
def keyFaults (b : Bytes) (s : State) : List Nat :=
  if !s.keyUsable (2 + fmKey b) then [24]
  else if sha (sgEcPub b ++ sgPqPub b) ≠ s.keyHash (2 + fmKey b) then [fmSigned b]
  else []

def pqScheme (n : Nat) : Nat := if n = 1 then sMlDsa else sLms

/-- Steps 6 to 12. -/
def identitySteps (b : Bytes) (s : State) : List (Nat × List Nat) :=
  let m := formulaMessage b
  let bind := slice b 32 16
  let here := (List.range 16).find? fun i => byteAt b (32 + i) ≠ byteAt s.devid i
  [(0x0201, keyFaults b s),
   (0x0204, if fmScheme b = 2 ∧ s.featureOff 0 then [23] else []),
   (0x0202, if verify sEcdsa384 (sgEcPub b) m (slice b (sgEcAt b) 96) then [] else [sgEcAt b]),
   (0x0203, if verify (pqScheme (fmScheme b)) (sgPqPub b) m (slice b (sgEcAt b + 98) (sgPqLen b)) then [] else [sgEcAt b + 98]),
   (0x0206, if bind = zeros 16 then [] else (here.map (32 + ·)).toList),
   (0x0207, if 1 ≤ s.lifecycle ∧ bit (fmLifecycles b) (s.lifecycle - 1) then [] else [25]),
   (0x0205, if fmVersion b < s.counterLive (fmCounter b) then [20] else [])]

/-! ## Steps 13 to 16: the set of sections -/

/-- Sections that Table 4.3 marks required. -/
def requiredTypes : List Nat := [1, 2, 4, 5, 6, 0xB, 0xD]

/-- Step 14. -/
def missingFaults (d : Draft) : List Nat :=
  (if requiredTypes.all fun t => d.has t 0 then [] else [26])
    ++ d.dir.flatMap fun e =>
      let alone :=
        if e.type = 7 then !d.has 8 e.inst || !d.has 0xE (1 + e.inst)
        else if e.type = 8 then !d.has 7 e.inst
        else if e.type = 0xE then decide (1 ≤ e.inst) && !d.has 7 (e.inst - 1)
        else false
      faultsAt e.place [(alone, 0)]

/-- Step 15: equal keys, at the later entry. -/
def duplicateFaults : List DirEntry → List Nat
  | [] => []
  | e :: rest => (rest.filter fun x => x.type = e.type ∧ x.inst = e.inst).map DirEntry.place ++ duplicateFaults rest

/-- Step 16: the run of Banks from 0, and their count (R5, R161). -/
def bankFaults (d : Draft) (s : State) : List Nat :=
  let banks := d.all 7
  ((List.range banks.length).filter fun k => match banks[k]? with
    | some e => decide (e.inst ≠ k) || decide (s.banksPkg ≤ k)
    | none => false).map fun k => match banks[k]? with | some e => e.place | none => 0

/-- The LENGTH that a section's own counts imply (R155); RANKS has none but a whole number of entries. -/
def sectionLength (type : Nat) (b : Bytes) : Nat :=
  match type with
  | 1 => 208
  | 2 => 192
  | 3 => 64 + 8 * byteAt b 14
  | 4 => 8
  | 5 => 72 + 16 * byteAt b 0
  | 6 => 32
  | 7 => 272
  | 8 => 256
  | 9 => ceilDiv b.length 4 * 4
  | 0xA => 16 + 48 * byteAt b 10 + 32 * byteAt b 2
  | 0xB => 8
  | 0xC => 8 + 64 * byteAt b 0
  | 0xD => 32
  | 0xE => 8 + 16 * u16 b 0
  | 0xF => 8 + 16 * u16 b 0
  | _ => 8 + 96 * u16 b 0 + 8 * u16 b 2

/-- A step over the sections of a type: a wrong LENGTH at its field, else the faults of the body (R155). -/
def Draft.step (d : Draft) (type : Nat) (faults : DirEntry → List Nat) : List Nat :=
  (d.all type).flatMap fun e => if e.len ≠ sectionLength type e.body then [e.place + 8] else faults e

/-! ## Step 17: the track map (R157, R472, R733) -/

/-- The block of a function code: 0 to 3 the Warden ports, 4 Warden R, 5 SITE, 6 PLAT, 7 and 8 the Lane engines; none where
Table 21.9 does not list the code. -/
def funcBlock (c : Nat) : Option Nat :=
  if 0x20 ≤ c ∧ c < 0xA0 then if c % 32 ≤ 0x0A ∨ (0x10 ≤ c % 32 ∧ c % 32 ≤ 0x1A) then some (c / 32 - 1) else none
  else if 0xA0 ≤ c ∧ c ≤ 0xAA then some 4
  else if 0xB0 ≤ c ∧ c ≤ 0xBD then some 5
  else if 0xC0 ≤ c ∧ c ≤ 0xCD then some 6
  else if 0xD0 ≤ c ∧ c ≤ 0xE2 then some 7
  else if 0xE8 ≤ c ∧ c ≤ 0xFA then some 8
  else none

/-- The supply group of a ball (Table 21.8). -/
def ballGroup (m : Nat) : Nat := if m < 12 then 0 else if m < 34 then 1 else if m < 46 then 2 else if m < 58 then 3 else if m < 68 then 4 else 5

/-- A group may carry a block. -/
def groupCarries (g blk : Nat) : Bool := 7 ≤ blk || blk = g || (g = 5 && blk = 6)

def tmFunc (b : Bytes) (m : Nat) : Nat := byteAt b (2 * m)
def tmAttr (b : Bytes) (m : Nat) : Nat := byteAt b (2 * m + 1)

/-- A function whose owner fixes its pull: the host-side lanes and the Lane engines' lanes (R367, R482). -/
def fixedPull (c : Nat) : Bool :=
  (0x20 ≤ c && c < 0xA0 && 2 ≤ c % 32 && c % 32 ≤ 9) || (0xD5 ≤ c && c ≤ 0xDC) || (0xED ≤ c && c ≤ 0xF4)

/-- The functions that a declared port must have mapped (R366, R401). -/
def neededFuncs (port : Nat) (b : Bytes) : List Nat :=
  let lanes := List.range (if wModes b / 64 % 16 ≠ 0 then 8 else 4)
  let dqs := bit (wModes b) 9
  if port = 4 then [0xA0, 0xA1] ++ lanes.map (0xA2 + ·) ++ (if dqs then [0xAA] else [])
  else
    let f := 0x20 * (port + 1)
    [f, f + 1, f + 0x10, f + 0x11] ++ lanes.map (f + 2 + ·) ++ lanes.map (f + 0x12 + ·) ++ (if dqs then [f + 0x0A, f + 0x1A] else [])

/-- Faults of the balls of Lane engine `e`: two groups, two roles, a target without its signals or without a LANE bank. -/
def laneFaults (d : Draft) (b : Bytes) (e : Nat) : List Nat :=
  let balls := (List.range 96).filter fun m => funcBlock (tmFunc b m) = some (7 + e)
  let target (m : Nat) : Bool := laneCode e 0x0D ≤ tmFunc b m
  let lane := byteAt (d.body 4 0) 4
  let banks := if e = 0 then ceilDiv lane 2 else lane - ceilDiv lane 2
  match balls with
  | [] => []
  | first :: _ =>
    (balls.filter fun m => ballGroup m ≠ ballGroup first || target m != target first
        || (target m && banks = 0 && tmFunc b m = laneCode e 0x0D)).map (2 * ·)
      ++ (if balls.any target && [0x0D, 0x0E, 0x0F].any fun k => !mapsCode b (laneCode e k) then [0] else [])

/-- Allotments of a disabled MAC's direction that are not zero. -/
def allotFaults (d : Draft) (b : Bytes) : List Nat :=
  let c := d.body 6 0
  faultsAt (d.off 6 0) [(!macMapped b 0 && clTcamS2p c ≠ 0, 0), (!macMapped b 1 && clTcamP2s c ≠ 0, 2),
    (!macMapped b 0 && clRangeS2p c ≠ 0, 4), (!macMapped b 1 && clRangeP2s c ≠ 0, 5)]

/-- Step 17. -/
def trackFaults (d : Draft) (e : DirEntry) : List Nat :=
  let b := e.body
  let balls := (List.range 96).flatMap fun m =>
    let c := tmFunc b m
    let a := tmAttr b m
    let funcBad :=
      if c = 0 then false
      else match funcBlock c with
        | none => true
        | some k =>
          ((List.range m).any fun j => tmFunc b j = c) || !groupCarries (ballGroup m) k || (decide (k ≤ 4) && !d.has 3 k)
    faultsAt (2 * m) [(funcBad, 0), (a % 4 = 3 || 16 ≤ a || (fixedPull c && a % 4 ≠ 0), 1)]
  let missing := (d.all 3).any fun w => (neededFuncs w.inst w.body).any fun c => !mapsCode b c
  ((if missing then [0] else []) ++ balls ++ laneFaults d b 0 ++ laneFaults d b 1).map (e.off + ·) ++ allotFaults d b

/-! ## Steps 18 and 19: Warden ports (section 4.3, R371, R379, R389, R400) -/

/-- MODES enables the modes of exactly one protocol (R371). -/
def oneProtocol (m : Nat) : Bool := m = 2 ^ 5 || m = 2 ^ 8 || m = 2 ^ 9 || (m ≠ 0 && m &&& 0xDF = m)

/-- Address and data lanes of a mode, as powers of 2 (Table 10.3). -/
def modeLanes (m : Nat) : Nat × Nat :=
  [(0, 0), (0, 1), (1, 1), (0, 2), (2, 2), (2, 2), (0, 3), (3, 3), (3, 3), (3, 3)].getD m (0, 0)

/-- A built-in opcode may be enabled on the port (R379). -/
def builtinAllowed (b : Bytes) (op : Nat) : Bool :=
  match builtin (wProto b) op with
  | some (some m, _) => bit (wModes b) m
  | some (none, _) => true
  | none => false

/-- Faults of custom entry `n` (R400, Table 10.11). -/
def customFaults (b : Bytes) (n : Nat) : List Nat :=
  let e := wCustom b n
  let cls := byteAt e 1 % 16
  let kind := byteAt e 1 / 16
  let lanes := byteAt e 2
  let addr := byteAt e 3
  let len := u16 e 6
  let proto := wProto b
  let modeOk := (List.range 10).any fun m => bit (wModes b) m && modeLanes m == (bits lanes 3 2, bits lanes 5 4)
  let lenBad := if kind = 2 then outside len 1 512 else if cls = 2 then decide (len ∉ [4, 32, 64, 128, 256]) else decide (len ≠ 0)
  faultsAt (64 + 8 * n)
    [((List.range n).any (fun k => byteAt (wCustom b k) 0 = byteAt e 0) || wOpcEnabled b (byteAt e 0), 0),
     (9 < cls || 5 < kind || (kind = 0 && cls ≠ 0 && cls ≠ 5) || (cls = 2 && kind ≠ 3), 1),
     (bit lanes 7 || lanes % 4 ≠ protoLanes proto || bit lanes 6 != decide (proto = 3) || !modeOk, 2),
     (addr ∉ [0, 3, 4, 0xFF] || (kind = 0 && addr = 0) || (kind ∈ [1, 4, 5] && addr ≠ 0), 3),
     (32 ≤ byteAt e 4, 4), (byteAt e 5 ≠ 0, 5), (lenBad, 6)]

/-- Step 18. -/
def wardenFaults (e : DirEntry) : List Nat :=
  let b := e.body
  let r : Bool := e.inst = 4
  let fields := faultsAt 0
    [(1 < byteAt b 0, 0), (wAddrBytes b ≠ 3 && wAddrBytes b ≠ 4, 1), (!oneProtocol (wModes b), 2),
     (133000 < wSck b || (bit (wModes b) 9 && 100000 < wSck b), 4), (outside (wLog2 b) 20 32, 8), (r && wSubst b ≠ 0, 9),
     (if r then wReviewUs b ≠ 0 else outside (wReviewUs b) 100 50000, 10), (wBusyMs b = 0, 12),
     (if r then wCustomCount b ≠ 0 else 64 < wCustomCount b, 14), (byteAt b 15 ≠ 0, 15)]
  let opcodes := ((List.range 256).filter fun k => wOpcEnabled b k && !builtinAllowed b k).map fun k => 16 + k / 8
  let customs := (List.range (wCustomCount b)).flatMap (customFaults b)
  (fields ++ opcodes ++ nonZeroAt 0 b 48 16 ++ customs).map (e.off + ·)

/-- The gap of R389 is as long as Table 10.8 requires: (d + 1/2) SCK periods against 10.00 ns for flash data, 3.33 ns for
registers. -/
def deadlineMet (sck : Nat) (x : Shape) : Bool := (if x.kind = .passData then 12 else 4) * sck ≤ (2 * x.dummy + 1) * 600000

/-- Step 19 (R158, R383, R389): W0 to W3 only. -/
def deadlineFaults (e : DirEntry) : List Nat :=
  let b := e.body
  let slow (x : Shape) : Bool := x.kind ∈ [.passData, .passReg, .answer] && !deadlineMet (wSck b) x
  let conflict (op : Nat) (x : Shape) : Bool := x.kind = .swallow && passable b op
  let opcodes := ((List.range 256).filter fun k => wOpcEnabled b k && match shapeOf b k with
    | some x => slow x || conflict k x
    | none => false).map fun k => 16 + k / 8
  let customs := (List.range (wCustomCount b)).flatMap fun n =>
    let x := customShape (wCustom b n)
    faultsAt (64 + 8 * n) [(conflict (byteAt (wCustom b n) 0) x, 0), (slow x, 4)]
  if e.inst = 4 then [] else (opcodes ++ customs).map (e.off + ·)

/-! ## Step 20: the Infield pool (R159) -/

/-- Image records of a BOOT section with their offsets in it. -/
def imageRecords (b : Bytes) : List (Nat × Bytes) :=
  (List.range (bImages b)).map fun i => (16 + 48 * bKeys b + 32 * i, bImage b i)

def Draft.images (d : Draft) : List Bytes := (d.all 0xA).flatMap fun e => (imageRecords e.body).map Prod.snd

def infieldFaults (d : Draft) (e : DirEntry) : List Nat :=
  let b := e.body
  let pages := (d.images.map fun r => ceilDiv (iPinLen r) 4096).sum
  faultsAt e.off
    [(24 < byteAt b 0 || 32 < ((List.range 6).map (byteAt b)).sum || 8 * byteAt b 0 < pages, 0),
     (byteAt b 1 < ceilDiv (d.all 3).length 4, 1), (outside (byteAt b 2) 1 8, 2), (2 < byteAt b 3, 3),
     (4 < byteAt b 4 || (byteAt b 4 = 0 && d.images.any fun r => iPolicy r = 1), 4), (32 ≤ byteAt b 6, 6), (byteAt b 7 ≠ 0, 7)]

/-! ## Step 21: the parse graph (section 4.5, R551) -/

/-- Faults of a node (Table 15.1) in a graph of `count` nodes. -/
def nodeFaults (count : Nat) (n : Bytes) : List Nat :=
  let prev := ndSelPrev n || (ndNext0 n = 0xFF && ndNext1 n = 0xFF)
  let nextBad (v : Nat) : Bool := count ≤ v && v ≠ 0xFE
  let low (v next off : Nat) : Bool × Nat := (next = 0xFF && v % 256 ≠ 0, off)
  let high (v next off : Nat) : Bool × Nat := ((next = 0xFF || !ndSel16 n) && 256 ≤ v, off)
  faultsAt 0
    [(ndAdvMode n = 3 || 12 ≤ ndCheck n || (prev && ndSel16 n), 0), (ndAdvMode n = 0 && byteAt n 1 ≠ 0, 1),
     (ndAdvMode n = 0 && byteAt n 2 ≠ 0, 2),
     ((ndAdvMode n = 0 && byteAt n 3 % 16 ≠ 0) || (ndAdvMode n = 2 && ndShr n ≠ 0) || 128 ≤ byteAt n 3, 3),
     (prev && byteAt n 5 ≠ 0, 5), (byteAt n 7 = 0 && byteAt n 6 ≠ 0, 6), (40 < byteAt n 7, 7),
     (if byteAt n 7 = 0 then ndExtDst n ≠ 0 else 40 < ndExtDst n + byteAt n 7, 8), low (ndVal0 n) (ndNext0 n) 9,
     high (ndVal0 n) (ndNext0 n) 10,
     (nextBad (ndNext0 n) && ndNext0 n ≠ 0xFF, 11), low (ndVal1 n) (ndNext1 n) 12,
     high (ndVal1 n) (ndNext1 n) 13, (nextBad (ndNext1 n) && ndNext1 n ≠ 0xFF, 14),
     (nextBad (ndDefault n), 15)]

/-- A node can advance zero (R551). -/
def advancesZero (n : Bytes) : Bool := ndAdvAdd n = 0 && ndCheck n ≠ 4 && ndCheck n ≠ 9

/-- Nodes that follow node `i` and, like it, can advance zero. -/
def zeroNext (g : List Bytes) (i : Nat) : List Nat :=
  match g[i]? with
  | none => []
  | some n =>
    if advancesZero n then [ndNext0 n, ndNext1 n, ndDefault n].filter fun k => match g[k]? with | some m => advancesZero m | none => false
    else []

/-- Nodes reached from a set in at most `fuel` further steps. -/
def zeroReach (g : List Bytes) : Nat → List Nat → List Nat
  | 0, set => set
  | fuel + 1, set => zeroReach g fuel (set ++ (set.flatMap (zeroNext g)).eraseDups.filter fun k => !set.contains k)

/-- Node `i` lies on a cycle of nodes that can all advance zero. -/
def zeroCycle (g : List Bytes) (i : Nat) : Bool := (zeroReach g g.length (zeroNext g i)).contains i

/-- Faults of the port block of MAC `m`; none where the MAC is disabled. -/
def portFaults (b : Bytes) (m : Nat) : List Nat :=
  let p := portBlock b m
  let nodes := if byteAt b 0 = 0 then 28 else byteAt b 0
  let fixed := (List.range 8).flatMap fun k => faultsAt (8 + 3 * k) [(252 < u16 p (8 + 3 * k), 0), (4 < byteAt p (10 + 3 * k), 2)]
  let tests := faultsAt 0
    [(1 < byteAt p 0, 0), (byteAt p 0 = 0 && nodes ≤ pbStart p, 1), (outside (pbDepth p) 1 16, 2), (1 < pbMalf p, 3),
     (outside (pbWindow p) 64 256 || pbWindow p % 8 ≠ 0, 4)]
  (tests ++ nonZeroAt 0 p 6 2 ++ if byteAt p 0 = 0 then nonZeroAt 0 p 8 24 else fixed).map (8 + 32 * m + ·)

def parseFaults (d : Draft) (e : DirEntry) : List Nat :=
  let b := e.body
  let count := byteAt b 0
  let nodes := (List.range count).map fun i => slice b (72 + 16 * i) 16
  let ports := (List.range 2).flatMap fun m => if macMapped (d.body 2 0) m then portFaults b m else []
  let each := (List.range count).flatMap fun i =>
    ((nodeFaults count (nodes.getD i [])) ++ if zeroCycle nodes i then [4] else []).map (72 + 16 * i + ·)
  (faultsAt 0 [(64 < count, 0)] ++ nonZeroAt 0 b 1 7 ++ ports ++ each).map (e.off + ·)

/-! ## Step 22: the classifier (R160, R584) -/

def classifierFaults (d : Draft) (e : DirEntry) : List Nat :=
  let b := e.body
  let on : Bool := byteAt b 26 = 1
  let site := macMapped (d.body 2 0) 0 && !pbFixed (portBlock (d.body 5 0) 0)
  faultsAt e.off
    [(clTcamS2p b % 64 ≠ 0 || 4096 < clTcamS2p b, 0), (clTcamP2s b % 64 ≠ 0 || 4096 < clTcamS2p b + clTcamP2s b, 2),
     (64 < clRangeS2p b, 4), (64 < clRangeS2p b + clRangeP2s b, 5), (1 < byteAt b 6, 6), (1 < byteAt b 7, 7),
     (on && u16 b 24 = 0, 24), (1 < byteAt b 26 || (on && !site), 26)] ++ nonZeroAt e.off b 27 5

/-! ## Steps 23 and 24: Banks (section 4.7, R161, R603) -/

def matrixFaults (d : Draft) (e : DirEntry) : List Nat :=
  let b := e.body
  let profiles := d.body 8 e.inst
  let comp (n : Nat) : Bool :=
    let c := byteAt b (16 + n)
    let type := byteAt profiles (16 * (c % 16))
    if bit c 4 then byteAt b 0 ≤ n / 16 || byteAt b 1 ≤ n % 16 || type = 0 || bit c 7 || (!bit c 6 && (type = 2 || type = 3))
    else c ≠ 0
  (faultsAt 0 [(outside (byteAt b 0) 4 16, 0), (outside (byteAt b 1) 4 16, 1), (outside (u16 b 2) 250 10000, 2),
      (outside (byteAt b 4) 1 50, 4), (outside (byteAt b 5) 10 250, 5), (outside (byteAt b 6) 1 100, 6), (byteAt b 7 ≠ 0, 7),
      (outside (u16 b 8) 50 4000, 8), (outside (u16 b 10) 100 1000, 10), (u16 b 12 = 0, 12)] ++ nonZeroAt 0 b 14 2
    ++ ((List.range 256).filter comp).map (16 + ·)).map (e.off + ·)

/-- Faults of an actuator profile (Table 17.1). -/
def profileFaults (p : Bytes) : List Nat :=
  let type := byteAt p 0
  if type = 0 then nonZeroAt 0 p 0 16
  else
    faultsAt 0
      [(3 < type, 0), (byteAt p 1 ≠ 0, 1), (outside (u16 p 2) 1 4000, 2), (u16 p 4 = 0, 4),
       (if type = 2 then u16 p 4 ≤ u16 p 6 else u16 p 6 ≠ 0, 6), (outside (u32 p 8) 1 (2 ^ 31 - 1), 8), (byteAt p 14 = 0, 14)]

def profilesFaults (e : DirEntry) : List Nat :=
  (List.range 16).flatMap fun k => (profileFaults (slice e.body (16 * k) 16)).map (e.off + 16 * k + ·)

/-! ## Step 25: the rank table (R162, R95) -/

/-- The ceiling of an opcode, or of a class: the ranks of any command of the class. -/
def ceilingOf (isClass : Bool) (op : Nat) : Nat :=
  if isClass then
    if isExt op then 11
    else ((commandIndexLow ++ commandIndexHigh).filter fun x => x.1 / 4096 = op / 4096).foldl (fun m x => m ||| x.2.ranks) 0
  else match cmdInfo op with | some i => i.ranks | none => 0

def rankFaults (e : DirEntry) : List Nat :=
  let b := e.body
  let entry (i : Nat) : Bytes := slice b (4 * i) 4
  let cls (i : Nat) : Bool := bit (byteAt (entry i) 3) 0
  let key (i : Nat) : Nat := 2 * u16 (entry i) 0 + b2n (!cls i)
  let count := b.length / 4
  let each := (List.range count).flatMap fun i =>
    let x := entry i
    let ceiling := ceilingOf (cls i) (u16 x 0)
    faultsAt (4 * i)
      [((decide (1 ≤ i) && key i ≤ key (i - 1)) || ceiling = 0 || (cls i && u16 x 0 % 4096 ≠ 0), 0),
       (16 ≤ byteAt x 2 || byteAt x 2 &&& (15 - ceiling) ≠ 0, 2), (2 ≤ byteAt x 3, 3)]
  let closed := [0xC001, 0xC002, 0x0041].flatMap fun op =>
    let at_ := ((List.range count).filter fun i => if cls i then u16 (entry i) 0 / 4096 = op / 4096 else u16 (entry i) 0 = op)
    if (ranksMask op count b (ceilingOf false op)) &&& 3 = 0 then (at_.getLast?.map fun i => 4 * i + 2).toList else []
  (each ++ closed).map (e.off + ·)

/-! ## Step 26: the boot chains (R163) -/

/-- Faults of an image record at `off` in its section. -/
def imageFaults (d : Draft) (b : Bytes) (off i : Nat) (r : Bytes) : List Nat :=
  let flash := 2 ^ wLog2 (d.body 3 (bPort b))
  let clash := (List.range i).any fun k => !apart (iAddr r) (iLen r) (iAddr (bImage b k)) (iLen (bImage b k))
  let pinned := iPinLen r ≠ 0
  faultsAt off
    [(clash, 0), (outside (iLen r) 1 (2 ^ 24), 4),
     (pinned && (iPinAddr r % 4096 ≠ 0 || iPinAddr r < iAddr r || iAddr r + iLen r ≤ iPinAddr r), 8),
     (iPinLen r % 4096 ≠ 0 || (pinned && flash < iPinAddr r + iPinLen r), 12), (outside (iScheme r) 1 2, 16),
     (bKeys b ≤ iKey r, 17), (63 < iCounter r, 18),
     (2 < iPolicy r || (1 ≤ iPolicy r && (!d.has 3 4 || iGolden r = 0xFF)), 19)] ++ nonZeroAt off r 21 11

def bootFaults (d : Draft) (e : DirEntry) : List Nat :=
  let b := e.body
  let twice := (d.all 0xA).any fun x => x.inst < e.inst && bPort x.body = bPort b
  (faultsAt 0 [(3 < bPort b || !d.has 3 (bPort b) || twice, 0), (3 < bOrder b, 1), (outside (bImages b) 1 8, 2), (2 ≤ byteAt b 3, 3),
      (1000000 < bDelayUs b, 4), (outside (bPgoodMs b) 1 10000, 8), (outside (bKeys b) 1 4, 10)] ++ nonZeroAt 0 b 11 5
    ++ (List.range (bImages b)).flatMap fun i => imageFaults d b (16 + 48 * bKeys b + 32 * i) i (bImage b i)).map (e.off + ·)

/-! ## Steps 27 to 30: POWER, NOSE, TAMPER, PACER -/

/-- The domains that a Formula makes present (R673), and those it needs on (R164). -/
def Draft.domainsPresent (d : Draft) : Nat :=
  let t := d.body 2 0
  maskOf 22 fun n =>
    if n ≤ 4 then true
    else if n = 5 then macMapped t 0 || macMapped t 1
    else if n ≤ 10 then d.has 3 (n - 6)
    else if n ≤ 12 then laneRole t (n - 11) ≠ 0 || (n = 11 && byteAt (d.body 4 0) 4 ≠ 0)
    else if n ≤ 16 then d.has 7 (n - 13)
    else if n = 17 then true
    else d.has 7 (n - 18)

def Draft.domainsNeeded (d : Draft) : Nat :=
  let t := d.body 2 0
  let net := macMapped t 0 || macMapped t 1
  let relay := net || !(d.all 3).isEmpty
  maskOf 22 fun n =>
    if n = 0 then true
    else if n = 5 then net
    else if 6 ≤ n ∧ n ≤ 10 then d.has 3 (n - 6)
    else if 13 ≤ n ∧ n ≤ 16 then d.has 7 (n - 13)
    else if n = 17 then relay
    else if 18 ≤ n then d.has 7 (n - 18)
    else false

def powerFaults (d : Draft) (e : DirEntry) : List Nat :=
  let on := u32 e.body 0
  faultsAt e.off [(on ||| d.domainsPresent ≠ d.domainsPresent || on &&& d.domainsNeeded ≠ d.domainsNeeded, 0),
    (outside (u16 e.body 4) 50 2000, 4)] ++ nonZeroAt e.off e.body 6 2

def noseFaults (e : DirEntry) : List Nat :=
  let b := e.body
  (faultsAt 0 [(8 < byteAt b 0, 0)] ++ nonZeroAt 0 b 1 7
    ++ (List.range (byteAt b 0)).flatMap fun i =>
      let o := 8 + 64 * i
      faultsAt o [(2048 < u16 b (o + 48), 48), (64 ≤ byteAt b (o + 50), 50)] ++ nonZeroAt 0 b (o + 51) 13).map (e.off + ·)

def tamperFaults (s : State) (e : DirEntry) : List Nat :=
  let b := e.body
  let floor (i : Nat) : Nat := fuseWord s.fus.latchE 0x31 / 4 ^ i % 4
  let dqOff (i : Nat) : Bool := !bit (fuseWord s.fus.latchE 0x32) i
  let sources := (List.range 15).filter fun i => 3 < byteAt b i || byteAt b i < floor i || (byteAt b i = 3 && dqOff i)
  let classes := ((List.range 8).filter fun n => 2 < byteAt b (17 + 2 * n)).map fun n => 17 + 2 * n
  (sources ++ nonZeroAt 0 b 15 1 ++ classes).map (e.off + ·)

def pacerFaults (d : Draft) (e : DirEntry) : List Nat :=
  let b := e.body
  let bank : Bool := 1 ≤ e.inst
  let limit := if bank then 64 else 512
  let rec_ (i : Nat) : Bytes := slice b (8 + 16 * i) 16
  let units := (List.range (u16 b 0)).map fun i => byteAt (rec_ i) 3
  let each := (List.range (u16 b 0)).flatMap fun i =>
    let r := rec_ i
    let unit := byteAt r 3
    let ceil := signed 32 (u32 r 8)
    let debt := signed 32 (u32 r 12)
    let small := bank && decide (ceil - debt < (largestDebit (d.body 8 (e.inst - 1)) unit : Nat))
    faultsAt (8 + 16 * i)
      [(limit ≤ u16 r 0 || (decide (1 ≤ i) && u16 r 0 ≤ u16 (rec_ (i - 1)) 0), 0), (outside (byteAt r 2) 6 24, 2),
       (if bank then unit ≠ 1 && unit ≠ 2 else unit ≠ 0, 3), (decide (ceil ≤ 0) || small, 8), (decide (0 < debt), 12)]
  (faultsAt 0 [(limit < u16 b 0 || (bank && !(units.contains 1 && units.contains 2)), 0)] ++ nonZeroAt 0 b 2 6 ++ each).map (e.off + ·)

/-! ## Step 31: SYSTEM (section 4.1, R156) -/

/-- Ranges that Table 1.5 grants the Steward, with the STW_WIN bit that opens each; 6 for one always granted. -/
def stewardRanges : List (Nat × Nat × Nat) :=
  [(0, 0x1FFFF, 6), (0x10100000, 0x101FFFFF, 6), (0x40000000, 0x40FFFFFF, 0), (0x41000000, 0x41FFFFFF, 1), (0x42000000, 0x42FFFFFF, 2),
   (0x43000000, 0x43FFFFFF, 3), (0x44000000, 0x44FFFFFF, 4), (0x45000000, 0x45FFFFFF, 5)]

/-- The Keeper-only blocks of Table 1.6 that have registers, by the register pages they hold. -/
def keeperOnly (lo hi : Nat) : Bool :=
  (0x40000600 ≤ lo && hi ≤ 0x400006FF) || (0x40000700 ≤ lo && hi ≤ 0x400007FF) || (0x40000800 ≤ lo && hi ≤ 0x40000AFF)

def protectionFaults (win : Nat) (p : Bytes) : List Nat :=
  let base := u32 p 0
  let n := byteAt p 4
  let hi := base + 2 ^ n - 1
  let granted := stewardRanges.any fun r => r.1 ≤ base && hi ≤ r.2.1 && (r.2.2 = 6 || bit win r.2.2)
  (if n = 0 then [] else faultsAt 0 [(base % 2 ^ n ≠ 0 || !granted || keeperOnly base hi, 0), (outside n 5 32, 4)])
    ++ faultsAt 0 [(8 ≤ byteAt p 5, 5)] ++ nonZeroAt 0 p 6 2

def systemFaults (e : DirEntry) : List Nat :=
  let b := e.body
  (faultsAt 0 [(7 < byteAt b 0, 0), (64 ≤ byteAt b 1, 1), (outside (byteAt b 2) 16 24, 2), (byteAt b 3 ≠ 0, 3),
      (outside (u16 b 6) 1 600, 6), (outside (u16 b 8) 1 1000, 8), (63 < byteAt b 10, 10), (byteAt b 11 ≠ 0, 11),
      (u32 b 12 % 4096 ≠ 0 || 0x100000 ≤ u32 b 12, 12), (0x100000 < u32 b 12 + u32 b 16, 16)] ++ nonZeroAt 0 b 20 12
    ++ (List.range 16).flatMap fun i => (protectionFaults (byteAt b 1) (slice b (80 + 8 * i) 8)).map (80 + 8 * i + ·)).map (e.off + ·)

/-! ## Steps 32 and 33: REGIONS and RULES (R167) -/

def regionsFaults (d : Draft) (e : DirEntry) : List Nat :=
  let b := e.body
  let desc (n : Nat) : Bytes := slice b (8 + 16 * n) 16
  let log2 := wLog2 (d.body 3 e.inst)
  let each := (List.range (u16 b 0)).flatMap fun n =>
    let again := dType (desc n) = 2 ∧ (List.range n).any fun k => dType (desc k) = 2
    ((regionFault (e.inst = 4) log2 (desc n)).toList ++ if again then [8] else []).map (8 + 16 * n + ·)
  if !d.has 3 e.inst then [e.place]
  else (faultsAt 0 [(256 < u16 b 0, 0)] ++ nonZeroAt 0 b 2 6 ++ each).map (e.off + ·)

/-- Bucket numbers that the Relay's PACER section lists. -/
def Draft.relayBuckets (d : Draft) : List Nat := let b := d.body 0xE 0; (List.range (u16 b 0)).map fun i => u16 b (8 + 16 * i)

def rulesFaults (d : Draft) (e : DirEntry) : List Nat :=
  let b := e.body
  let cl := d.body 6 0
  let t := u16 b 0
  let mirror : Bool := 1 ≤ byteAt (d.body 4 0) 3
  let rule (i : Nat) : Bytes := slice b (8 + 96 * i) 96
  let range (i : Nat) : Bytes := slice b (8 + 96 * t + 8 * i) 8
  let rules := (List.range t).flatMap fun i =>
    let r := rule i
    let again := (List.range i).any fun k => ruFlag (rule k) 0 && ruDir (rule k) = ruDir r && ruIndex (rule k) = ruIndex r
    let tests := [(clTcam cl (ruDir r) ≤ ruIndex r || again, 82), (ruAction r = 3 && !mirror, 84),
                  (ruFlag r 1 && !d.relayBuckets.contains (ruBucket r), 88)]
    ((ruleFault cl r).toList ++ if ruFlag r 0 then faultsAt 0 tests else []).map (8 + 96 * i + ·)
  let ranges := (List.range (u16 b 2)).flatMap fun i =>
    let r := range i
    let valid : Bool := byteAt r 3 ≠ 0
    let again := (List.range i).any fun k => byteAt (range k) 3 ≠ 0 && rgDir (range k) = rgDir r && rgIndex (range k) = rgIndex r
    ((rangeFault r).toList ++ faultsAt 0 [(valid && (clRange cl (rgDir r) ≤ rgIndex r || again), 1)]).map (8 + 96 * t + 8 * i + ·)
  (nonZeroAt 0 b 4 4 ++ rules ++ ranges).map (e.off + ·)

/-! ## Step 34: features (R192) -/

def featureFaults (d : Draft) (s : State) : List Nat :=
  let images := (d.all 0xA).flatMap fun e => (imageRecords e.body).flatMap fun x =>
    let r := x.2
    faultsAt (e.off + x.1) [(s.featureOff 0 && iScheme r = 2, 16),
      ((s.featureOff 4 && iPolicy r = 1) || (s.featureOff 5 && iPolicy r = 2), 19)]
  let nose := if s.featureOff 1 then (d.all 0xC).map DirEntry.place else []
  let custody := faultsAt (d.off 6 0) [(s.featureOff 2 && byteAt (d.body 6 0) 26 = 1, 26)]
  let mirror := faultsAt (d.off 4 0) [(s.featureOff 7 && byteAt (d.body 4 0) 3 ≠ 0, 3)]
  let rb := d.body 0x10 0
  let rules := (List.range (u16 rb 0)).flatMap fun i =>
    let r := slice rb (8 + 96 * i) 96
    faultsAt (d.off 0x10 0 + 8 + 96 * i) [(s.featureOff 7 && ruFlag r 0 && ruAction r = 3, 84)]
  images ++ nose ++ custody ++ mirror ++ rules

/-! ## The whole -/

/-- Steps 16 to 34, each with its code. -/
def sectionSteps (d : Draft) (s : State) : List (Nat × List Nat) :=
  [(0x0301, bankFaults d s), (0x0302, d.step 2 (trackFaults d)), (0x0303, d.step 3 wardenFaults),
   (0x0304, (d.all 3).flatMap deadlineFaults), (0x0305, d.step 4 (infieldFaults d)), (0x0306, d.step 5 (parseFaults d)),
   (0x0307, d.step 6 (classifierFaults d)), (0x0308, d.step 7 (matrixFaults d)), (0x0309, d.step 8 profilesFaults),
   (0x030A, d.step 9 rankFaults), (0x030B, d.step 0xA (bootFaults d)), (0x030C, d.step 0xB (powerFaults d)),
   (0x030D, d.step 0xC noseFaults), (0x030E, d.step 0xD (tamperFaults s)), (0x030F, d.step 0xE (pacerFaults d)),
   (0x0310, d.step 1 systemFaults), (0x0311, d.step 0xF (regionsFaults d)), (0x0312, d.step 0x10 (rulesFaults d)),
   (0x0313, featureFaults d s)]

/-- The steps of Table 4.4 in order, each with its code and the faulty bytes it finds. -/
def formulaSteps (b : Bytes) (s : State) : List (Nat × List Nat) :=
  let d := Draft.of b
  [(0x0101, differs b 0 (ascii "TXFM")), (0x0102, differs b 4 [1, 0, 64, 0]), (0x0103, lengthFaults b), (0x0104, reservedFaults d),
   (0x0105, directoryFaults d)] ++ identitySteps b s ++
  [(0x0106, (d.dir.filter fun e => crc32c e.body ≠ e.crc).map fun e => e.place + 12), (0x0107, missingFaults d),
   (0x0108, duplicateFaults d.dir)] ++ sectionSteps d s

/-- The first step that fails: its code and the offset of its first faulty byte (R172, R173). -/
def firstFault : List (Nat × List Nat) → Option (Nat × Nat)
  | [] => none
  | (code, fs) :: rest => match lowest fs with | some o => some (code, o) | none => firstFault rest

/-- Validation under steps 1 to 34: none when every step passes. -/
def State.validate (b : Bytes) (s : State) : Option (Nat × Nat) := firstFault (formulaSteps b s)

end Sys2Proof.Machine
end

