-- ==== Sys2Proof/Machine/Images.lean ====
section
/-! DEFINITION. Images: the envelope and its verdict (section 4 of chapter 9), the golden directory and the geometry of a recovery
(sections 2 and 3 of chapter 12). -/

namespace Sys2Proof.Machine

/-! ## The envelope -/

/-- Fields of the image header (Table 9.3). -/
def ihVersion (h : Bytes) : Nat := u32 h 8
def ihLen (h : Bytes) : Nat := u32 h 12

/-- Fields of the signature block (Table 9.4). -/
def sbScheme (b : Bytes) : Nat := byteAt b 4
def sbPubLen (b : Bytes) : Nat := u16 b 105
def sbKeys (b : Bytes) : Bytes := slice b 8 97 ++ slice b 107 (sbPubLen b)
def sbSigLen (b : Bytes) : Nat := u16 b (203 + sbPubLen b)

/-- An image as it was read: its header, its signature block, and DIGEST over its LEN bytes (R340). -/
structure Presented where
  header : Bytes
  block : Bytes
  digest : Bytes

/-- The bytes of a signature block of a scheme: from PQ_SIG_LEN for LMS (R347). -/
def blockLength (scheme pqSigLen : Nat) : Nat := if scheme = 2 then 261 + pqSigLen else 5466

/-- LEN bytes and the block that follows them, read through `read` (R347). -/
def readImage (read : Nat → Nat → Bytes) (addr len scheme : Nat) : Presented :=
  { header := read addr 64, digest := sha (read addr len),
    block := read (addr + len) (blockLength scheme (u16 (read (addr + len + 259) 2) 0)) }

/-- Step 1 of R342: the constant, zero and length fields, and the declared scheme and LEN where there is one. -/
def envelopeOk (scheme len : Option Nat) (h b : Bytes) : Bool :=
  h.take 4 == ascii "TXIM" && u16 h 4 == 1 && (firstNonZero h 6 2).isNone && (firstNonZero h 32 32).isNone && decide (64 ≤ ihLen h)
    && len.all (fun n => ihLen h == n) && b.take 4 == ascii "TXIS" && (firstNonZero b 5 3).isNone
    && (sbScheme b == 1 || sbScheme b == 2) && scheme.all (fun n => sbScheme b == n)
    && sbPubLen b == (if sbScheme b = 1 then 1952 else 56) && (pqSigLengths (sbPubLen b)).contains (sbSigLen b)
    && b.length == 205 + sbPubLen b + sbSigLen b

/-- M (R342). -/
def imageMessage (kind : Nat) (digest : Bytes) : Bytes := ascii "TXI-IMG" ++ le 1 kind ++ digest

/-- The verdict of R342: 0 PASS, 1 SIGNATURE, 2 ROLLBACK. `key` tells a declared key hash, `counter` is the counter's value. -/
def State.imageCheck (kind : Nat) (scheme len : Option Nat) (key : Bytes → Bool) (counter : Nat) (x : Presented) (s : State) : Nat :=
  let b := x.block
  let m := imageMessage kind x.digest
  if !envelopeOk scheme len x.header b || (sbScheme b == 2 && s.featureOff 0) then 1
  else if !key (sha (sbKeys b)) then 1
  else if !verify sEcdsa384 (slice b 8 97) m (slice b (107 + sbPubLen b) 96) then 1
  else if !verify (pqScheme (sbScheme b)) (slice b 107 (sbPubLen b)) m (slice b (205 + sbPubLen b) (sbSigLen b)) then 1
  else if ihVersion x.header < counter then 2
  else 0

/-- The counter value a check takes: latched at start, or read at the moment of a check made during the boot session (step 5 of
R342). -/
def State.counterFor (live : Bool) (c : Nat) (s : State) : Nat := if live then s.counterLive c else s.counterLatched c

/-! ## Keeper firmware and the Steward image -/

/-- The usable key unit, 0 or 1, that holds a key hash (R338). -/
def State.keeperUnit (hash : Bytes) (s : State) : Option Nat := [0, 1].find? fun k => s.keyUsable k && s.keyHash k == hash

/-- The verdict on Keeper firmware (R338, R460). -/
def State.judgeKeeper (live : Bool) (x : Presented) (s : State) : Nat :=
  if 786432 < ihLen x.header + x.block.length then 1
  else s.imageCheck 1 none none (fun h => (s.keeperUnit h).isSome) (s.counterFor live 0x80) x

/-- The Keeper firmware image that lies from address 0 of what `read` reads: its block's own SCHEME gives its length. -/
def readKeeper (read : Nat → Nat → Bytes) : Presented :=
  let len := u32 (read 12 4) 0
  if 786432 < len then { header := read 0 64, block := [], digest := [] }
  else readImage read 0 len (byteAt (read (len + 4) 1) 0)

/-- NVM as the Keeper reads it: bank A and bank B; an unlisted byte is erased. -/
def State.nvmA (a n : Nat) (s : State) : Bytes := mread 0xFF s.cores.nvmA a n
def State.nvmB (a n : Nat) (s : State) : Bytes := mread 0xFF s.cores.nvmB a n

/-- Fields of the SYSTEM section that bear on the Steward image (section 4.1 of the Formula). -/
def sysStwCtr (b : Bytes) : Nat := byteAt b 10
def sysStwOff (b : Bytes) : Nat := u32 b 12
def sysStwLen (b : Bytes) : Nat := u32 b 16
def sysStwKey (b : Bytes) : Bytes := slice b 32 48

/-- The Steward image's verdict as read (R345): none where the Formula declares no image (ABSENT). -/
def State.judgeSteward (sys : Bytes) (s : State) : Option (Nat × Presented) :=
  let off := sysStwOff sys
  let len := sysStwLen sys
  if len = 0 then none
  else
    let x := readImage (fun a n => s.nvmB a n) off len (byteAt (s.nvmB (off + len + 4) 1) 0)
    some (s.imageCheck 2 none (some len) (fun h => h == sysStwKey sys) (s.counterLatched (sysStwCtr sys)) x, x)

/-! ## Platform images -/

/-- The image record of a platform. -/
def State.imageRec (p i : Nat) (s : State) : Bytes := bImage (s.bootBody p) i

/-- The key hash that an image record declares. -/
def State.imageKey (p i : Nat) (s : State) : Bytes := bKey (s.bootBody p) (iKey (s.imageRec p i))

/-- A platform or golden image read from a flash at `addr` under an image record (R347, R443). -/
def State.readFor (p i flash addr : Nat) (s : State) : Presented :=
  readImage (fun a n => s.flashRead flash a n) addr (iLen (s.imageRec p i)) (iScheme (s.imageRec p i))

/-- The verdict on an image under a platform's image record. -/
def State.judge (p i : Nat) (live : Bool) (x : Presented) (s : State) : Nat :=
  let r := s.imageRec p i
  s.imageCheck 3 (some (iScheme r)) (some (iLen r)) (fun h => h == s.imageKey p i) (s.counterFor live (iCounter r)) x

/-- The pool pages of an image. -/
def State.imagePages (p i : Nat) (s : State) : List Nat :=
  (List.range (iPinLen (s.imageRec p i) / 4096)).map fun k => s.pinFirst p i + k

/-- An image's pinned pages filled with the bytes read for its window; committed pages are kept (R347, R353, R416, R445). -/
def State.fillPages (p i : Nat) (window : Bytes) (s : State) : State :=
  if iPinLen (s.imageRec p i) = 0 || (s.imagePages p i).any (fun k => s.wdn.committed.contains k) then s else s.poolWrite (4096 * s.pinFirst p i) window

/-- An image's pages become committed (R349, R422). -/
def State.commitPages (p i : Nat) (s : State) : State :=
  let new := (s.imagePages p i).filter fun k => !s.wdn.committed.contains k
  let s := s.modWdn fun w => { w with committed := w.committed ++ new }
  s.modPlat p fun q => { q with pages := q.pages + new.length }

/-- An image's uncommitted pages are zeroed, and the discard is logged (R349). -/
def State.discardPages (p i : Nat) (s : State) : State :=
  let pages := (s.imagePages p i).filter fun k => !s.wdn.committed.contains k
  let s := s.modWdn fun w => { w with pool := pages.foldl (fun m k => mclear m (4096 * k) 4096) w.pool }
  s.logAt (s.now + 31) 6 (bPort (s.bootBody p)) 0x0602 (i + 256 * p) pages.length

/-! ## The golden directory (section 2.2 of chapter 12) -/

/-- A directory copy is valid (R442). -/
def goldenValid (d : Bytes) : Bool :=
  d.take 4 == ascii "TXGD" && u16 d 4 == 1 && crc32c (d.take 1040) == u32 d 1040
    && (List.range 32).all fun i => [0x00, 0x01, 0xFF].contains (byteAt d (16 + 32 * i))

/-- GENERATION of a copy. -/
def goldenGen (d : Bytes) : Nat := u32 d 8

/-- A directory entry (Table 12.5). -/
def goldenEntry (d : Bytes) (g : Nat) : Bytes := slice d (16 + 32 * g) 32
def geValid (e : Bytes) : Bool := byteAt e 0 == 1
def geLog2 (e : Bytes) : Nat := byteAt e 1
def geBase (e : Bytes) : Nat := u32 e 4
def geLen (e : Bytes) : Nat := u32 e 8
def geVersion (e : Bytes) : Nat := u32 e 12

/-- A directory copy on the recovery flash. -/
def State.goldenCopy (k : Nat) (s : State) : Bytes := s.flashRead 4 (4096 * k) 1044

/-- The copy in use (R442): the valid one of higher GENERATION, copy A when they are equal. -/
def State.goldenInUse (s : State) : Option Nat :=
  let a := goldenValid (s.goldenCopy 0)
  let b := goldenValid (s.goldenCopy 1)
  if b && (!a || decide (goldenGen (s.goldenCopy 0) < goldenGen (s.goldenCopy 1))) then some 1 else if a then some 0 else none

/-- The directory read at the start of a Warden R job (R442). -/
def State.readDirectory (s : State) : State :=
  match s.goldenInUse with
  | none => s.modWdn fun w => { w with dirValid := false, dirCopy := false, dirGen := 0 }
  | some k => s.modWdn fun w => { w with dirValid := true, dirCopy := decide (k = 1), dirGen := goldenGen (s.goldenCopy k) }

/-- A valid directory entry, by golden index (R443). -/
def State.golden (g : Nat) (s : State) : Option Bytes :=
  match s.goldenInUse with
  | none => none
  | some k => let e := goldenEntry (s.goldenCopy k) g; if g < 32 && geValid e then some e else none

/-- Bytes of the recovery flash. -/
def State.recoverySize (s : State) : Nat := 2 ^ wLog2 (s.portBody 4)

/-- A window overlaps that of a valid entry with an index that `among` holds. -/
def State.windowTaken (among : Nat → Bool) (base size : Nat) (s : State) : Bool :=
  (List.range 32).any fun g =>
    among g && (match s.golden g with
      | some e => decide (base < geBase e + 2 ^ geLog2 e ∧ geBase e < base + size)
      | none => false)

/-- The span of an image record (R444). -/
def spanOf (r : Bytes) : Nat := 4096 * ceilDiv (iLen r + (if iScheme r = 2 then 3089 else 5466)) 4096

/-- The geometry of R444 fails. -/
def State.geometryFails (p i policy : Nat) (e : Bytes) (s : State) : Bool :=
  let r := s.imageRec p i
  let w := 2 ^ geLog2 e
  let g := iGolden r
  decide (u32 (s.flashRead 4 (geBase e + 12) 4) 0 ≠ iLen r) || decide (w < spanOf r)
    || decide (s.recoverySize < geBase e + w) || s.windowTaken (fun k => decide (k < g)) (geBase e) w
    || (if policy = 1 then
          decide (iAddr r % 4096 ≠ 0 ∨ 2 ^ wLog2 (s.portBody (bPort (s.bootBody p))) < iAddr r + spanOf r)
        else decide (iAddr r % w ≠ 0))

end Sys2Proof.Machine
end

