-- ==== Sys2Proof/Machine/Platforms.lean ====
section
/-! DEFINITION. The held platforms: measurement, verdicts, the release order and the platform commands (sections 5 to 12 of chapter 9,
section 2 of chapter 11). -/

namespace Sys2Proof.Machine

/-! ## Platforms and images -/

/-- The platforms with a BOOT section, ascending. -/
def State.bootPlats (s : State) : List Nat := (List.range 4).filter fun p => s.hasBoot p

/-- The Warden port of a platform, and its number of images. -/
def State.bootPort (p : Nat) (s : State) : Nat := bPort (s.bootBody p)
def State.imageCount (p : Nat) (s : State) : Nat := bImages (s.bootBody p)

def State.image (p i : Nat) (s : State) : ImageState := tget {} (s.plat p).images i
def State.modImage (p i : Nat) (f : ImageState → ImageState) (s : State) : State :=
  s.modPlat p fun q => { q with images := tset {} q.images i (f (tget {} q.images i)) }

/-- The policy that an image follows (R214, R436). -/
def State.policyFor (p i : Nat) (s : State) : Nat :=
  let policy := iPolicy (s.imageRec p i)
  if bit s.fus.region 6 ∧ policy ≠ 0 then 2 else policy

/-- A recovery of the platform is queued or runs (R438). -/
def State.recovering (p : Nat) (s : State) : Bool :=
  (s.wdn.queue.any fun r => r.plat = p) || (match s.wdn.running with | some r => decide (r.plat = p) | none => false)

/-- WAIT_PGOOD is clear or PGOOD[p] is presented high. -/
def State.pgoodMet (p : Nat) (s : State) : Bool := !bWaits (s.bootBody p) || bit s.boot.pgood p

/-- The platform counts as eligible (R354, R679). -/
def State.eligibleNow (p : Nat) (s : State) : Bool := (s.plat p).eligible && s.domainOn (dWarden (s.bootPort p))

/-- Verdict and DIGEST that an image ends with: its recovery's where there was one (R350). -/
def ImageState.last (x : ImageState) : Nat × Bytes :=
  if x.recoveryEntry.isEmpty then (x.verdict.getD 0xFF, sized 48 x.digest) else (byteAt x.recoveryEntry 3, slice x.recoveryEntry 8 48)

/-- The last entry of an image in MA_close. -/
def State.closeEntry (p i : Nat) (s : State) : Option Bytes :=
  (((s.boot.log.take s.flc.count).map Measured.entry).filter fun e => 3 ≤ byteAt e 0 && byteAt e 1 == p && byteAt e 2 == i).getLast?

/-- Each image ends as its entries in MA_close say (R353, R416). -/
def State.matchesClose (p : Nat) (s : State) : Bool :=
  (List.range (s.imageCount p)).all fun i =>
    match s.closeEntry p i with
    | some e => (s.image p i).last == (byteAt e 3, slice e 8 48)
    | none => false

/-- Each image passed, or failed and a recovery passed (R354). -/
def State.imagesPass (p : Nat) (s : State) : Bool :=
  (List.range (s.imageCount p)).all fun i =>
    let x := s.image p i
    x.verdict == some 0 || x.recovery == 1 || x.recovery == 2

/-- Every image of the platform has its final verdict. -/
def State.imagesFinal (p : Nat) (s : State) : Bool := (List.range (s.imageCount p)).all fun i => (s.image p i).final

/-- The platform's state once its images are settled (Table 9.5). -/
def State.settledState (p : Nat) (eligible : Bool) (s : State) : Nat :=
  if !eligible then 7 else if (s.plat p).heldCmd then 8 else 5

/-- A repeated measurement of every platform past closure has ended: the release order starts again (R353). -/
def State.againDone (s : State) : State :=
  if s.bootPlats.any fun p => (s.plat p).measuring = 3 then s
  else
    let s := s.modBoot fun b => { b with nextOrder := 0, ref := s.now, orderAt := none }
    s.bootPlats.foldl (fun s p => s.modPlat p fun q => { q with ordered := false }) s

/-- A platform whose images are all final is settled (R354, R416, R437). -/
def State.settlePlat (p : Nat) (s : State) : State :=
  let kind := (s.plat p).measuring
  if kind = 0 then s
  else if !s.imagesFinal p then s.modPlat p fun q => { q with state := if s.recovering p then 4 else q.state }
  else
    let ok := s.imagesPass p && (kind == 1 || s.matchesClose p)
    let st := s.settledState p ok
    let s := s.modPlat p fun q => { q with measuring := 0, eligible := ok, state := st, pgoodUntil := none }
    let s := if ok then s else s.event 2 0 0x0605 p
    if kind = 3 then s.againDone else s

/-! ## Measurement (section 6) -/

/-- The measurement of an image begins: its limit counts from the first read (R351). -/
def State.measureImage (p i : Nat) (s : State) : State :=
  let s := s.modPlat p fun q => { q with image := i }
  if s.imageCount p ≤ i ∨ (s.image p i).verdict.isSome ∨ s.recovering p then s
  else s.modImage p i fun x => { x with limit := some (s.now + 2 ^ 33) }

/-- The port moves from HOLD to MEASURE and the first image is read, once the HOLD procedure has ended without fault and the PGOOD
wait is met (Table 11.4, R347). -/
def State.tryMeasure (p : Nat) (s : State) : State :=
  let w := s.wport (s.bootPort p)
  if (s.plat p).measuring = 0 ∨ w.phase ≠ 0 ∨ w.holdDue ∨ !w.holdDone ∨ w.fault ≠ 0 ∨ !s.pgoodMet p ∨ s.imagesFinal p then s
  else
    let s := s.setPhase (s.bootPort p) 1 s.now
    (s.modPlat p fun q => { q with state := 3, pgoodUntil := none }).measureImage p 0

/-- A recovery of a failed image is queued (R350, R438). -/
def State.queueRecovery (p i policy : Nat) (s : State) : State :=
  let r : Recovery := { plat := p, image := i, policy := policy, edge := s.now }
  let none' (x : ImageState) : ImageState := { x with limit := none }
  let s := s.modWdn fun w =>
    { w with queue := w.queue ++ [r], rcv := tset {} w.rcv p { (tget {} w.rcv p) with outcome := 2, image := i } }
  s.modImage p (s.plat p).image none'

/-- A verdict is given on the verdict edge: the pages are committed or discarded, and POLICY applies (R349, R350, R437). -/
def State.giveVerdict (p i v : Nat) (s : State) : State :=
  let x := s.image p i
  let version := if v = 4 then 0 else x.version
  let digest := if v = 4 then [] else x.digest
  let policy := s.policyFor p i
  let recovers := v ≠ 0 && policy ≠ 0
  let s := s.modImage p i fun _ => { verdict := some v, final := !recovers, version := version, digest := digest }
  let s := s.event 2 0 0x0601 (i + 256 * p) v (u64 (sized 48 digest) 0)
  let s := if v = 0 then s.commitPages p i else s.discardPages p i
  let s := if recovers then s.queueRecovery p i policy else if v = 0 then s else s.alert 4
  s.settlePlat p

/-- Every image of the platform that has no verdict gets READ (R351). -/
def State.readAll (p : Nat) (s : State) : State :=
  let s := s.modPlat p fun q => { q with pgoodUntil := none }
  (List.range (s.imageCount p)).foldl (fun s i => if (s.image p i).verdict.isSome then s else s.giveVerdict p i 4) s

/-- A platform's measurement begins anew: the images of an earlier one are forgotten, and its port is in HOLD. -/
def State.remeasure (p kind : Nat) (s : State) : State :=
  let s := s.modBoot fun b => { b with verifying := b.verifying.filter fun x => x.1 ≠ p }
  s.modPlat p fun q => { q with images := [], image := 0, measuring := kind, eligible := false, state := 1 }

/-- HOLD_PROCEDURE: the port's reads and checks; a running Warden-own operation delays it (R375, R376, R416). -/
def execHoldProcedure (port : Nat) (reads : HoldReads) (s : State) : Out :=
  onObject (port < 5) (
    let w := s.wport port
    if !s.portDeclared port ∨ !w.holdDue ∨ w.busy ∨ !s.powered (dWarden port) then s
    else
      let s := s.holdSteps port reads
      match s.platOf port with
      | none => s
      | some p =>
        if (s.plat p).measuring = 0 then s
        else if (s.wport port).fault ≠ 0 then s.readAll p
        else s.tryMeasure p)

/-- PGOOD_WAIT_EXPIRY (R351). -/
def execPgoodWaitExpiry (plat : Nat) (s : State) : Out :=
  onObject (plat < 4) (match (s.plat plat).pgoodUntil with
    | none => s
    | some t => (s.advanceTo t).readAll plat)

/-- PGOOD_CHANGE: the level is recorded; a rise may end the wait, or comes late on its terminal edge (R351, R362). -/
def execPgoodChange (plat : Nat) (level : Bool) (s : State) : Out :=
  onObject (plat < 4) (
    let rest := s.boot.pgood - 2 ^ plat * b2n (bit s.boot.pgood plat)
    let s := s.modBoot fun b => { b with pgood := rest + 2 ^ plat * b2n level }
    match (s.plat plat).pgoodUntil with
    | none => if level then s.tryMeasure plat else s
    | some t =>
      if !level then s
      else if t ≤ s.now then (s.readAll plat).eventLate 15 3 0x0501
      else s.tryMeasure plat)

/-- IMAGE_DIGEST_PRESENTED: DIGEST, header and block reach the Keeper, which queues the verification; the port reads the next image
(R347 to R349, R363). -/
def execImageDigestPresented (plat image : Nat) (s : State) : Out :=
  onObject (plat < 4 ∧ image < 8) (
    let q := s.plat plat
    let port := s.bootPort plat
    if !s.inSession 0 ∨ q.measuring = 0 ∨ (s.wport port).phase ≠ 1 ∨ q.image ≠ image ∨ s.recovering plat then s
    else match (s.image plat image).limit with
    | none => s
    | some t =>
      if t ≤ s.now then
        ((s.giveVerdict plat image 4).measureImage plat (image + 1)).eventLate 2 0 0x0601 (image + 256 * plat)
      else
        let r := s.imageRec plat image
        let x := s.readFor plat image port (iAddr r)
        let s := s.fillPages plat image (s.flashRead port (iPinAddr r) (iPinLen r))
        let s := s.modImage plat image fun y =>
          { y with header := x.header, sigBlock := x.block, digest := x.digest, version := ihVersion x.header, queued := true, limit := none }
        let s := s.modBoot fun b => { b with verifying := b.verifying ++ [(plat, image)] }
        (s.keeperJob (.image plat image)).measureImage plat (image + 1))

/-- MEASUREMENT_LIMIT_EXPIRY (R351). -/
def execMeasurementLimitExpiry (plat image : Nat) (s : State) : Out :=
  onObject (plat < 4 ∧ image < 8) (match (s.image plat image).limit with
    | none => s
    | some t => ((s.advanceTo t).giveVerdict plat image 4).measureImage plat (image + 1))

/-- A Keeper job for an image leaves the cluster. -/
def State.endImageJob (p i : Nat) (s : State) : State :=
  match s.cry.jobs.find? fun x => x.2.work = some (KeeperWork.image p i) with
  | some x => s.freeJob x.1
  | none => s.modCry fun c => { c with waiting := c.waiting.filter fun w => decide (w ≠ KeeperWork.image p i) }

/-- IMAGE_VERDICT: the verification that was presented first ends (R342, R349). -/
def execImageVerdict (plat image : Nat) (s : State) : Out :=
  onObject (plat < 4 ∧ image < 8) (
    if s.boot.verifying.head? ≠ some (plat, image) ∨ !s.powered dCrypto then s
    else
      let y := s.image plat image
      let v := s.judge plat image false { header := y.header, block := y.sigBlock, digest := y.digest }
      let s := s.modBoot fun b => { b with verifying := b.verifying.drop 1 }
      (s.endImageJob plat image).giveVerdict plat image v)

/-! ## Releases (section 7) -/

/-- The distinct ORDER values of the BOOT sections, ascending. -/
def State.orders (s : State) : List Nat := (List.range 4).filter fun k => s.bootPlats.any fun p => bOrder (s.bootBody p) == k

/-- The platforms of an order. -/
def State.orderPlats (k : Nat) (s : State) : List Nat := s.bootPlats.filter fun p => bOrder (s.bootBody p) == k

/-- The largest DELAY_US of an order, in cycles. -/
def State.orderDelay (k : Nat) (s : State) : Nat :=
  ((s.orderPlats k).map fun p => bDelayUs (s.bootBody p)).foldl max 0 * 600

/-- Releases stop for the boot session, or until what stops them ends. -/
def State.releaseBarred (s : State) : Bool := s.redFlag || s.vlt.dqSeen || s.restarting

/-- The port of a platform is sent to LAUNCH; armed runners of it come in force on the edge it enters (R356, R450). -/
def State.sendLaunch (p t : Nat) (s : State) : State :=
  let port := s.bootPort p
  let on (r : Runner) : Runner := if r.port = port then { r with inForce := true } else r
  let s := s.modWdn fun w => { w with runners := w.runners.map on }
  s.setPhase port 3 t

/-- A platform is skipped on a release edge (R355, R357). -/
def State.skipPlat (p t : Nat) (s : State) : State :=
  let st := if (s.plat p).eligible then 8 else 7
  (s.modPlat p fun q => { q with state := st, ordered := true, releaseAt := none }).logAt t 15 2 0x0604 p

/-- The next order begins to count from release edge `t` of the one carried out; after the last one the cold start has ended. -/
def State.orderDone (t : Nat) (s : State) : State :=
  let n := s.boot.nextOrder + 1
  let s := s.modBoot fun b => { b with nextOrder := n, ref := t, orderAt := none, rfWait := false }
  if n < s.orders.length then s
  else if s.boot.stage = 0x0A then s
  else (s.modBoot fun b => { b with stage := 0x0A }).logAt t 2 0 0x0002 0x0A

/-- RELEASE_ORDER_DUE: the next order becomes due; its platforms' ports are sent to LAUNCH, or it waits for a lift or for link 0
(R355 to R357). -/
def execReleaseOrderDue (s : State) : Out :=
  .next (match s.orders[s.boot.nextOrder]? with
    | none => s
    | some k =>
      if !s.flc.closed ∨ s.boot.orderAt.isSome ∨ s.boot.plats.any (fun x => x.2.measuring = 3) then s
      else
        let s := s.advanceTo (max (s.boot.ref + 1 + s.orderDelay k) s.boot.liftRef)
        if s.releaseBarred then s.modBoot fun b => { b with rfWait := s.redFlag }
        else if !s.inSession 0 then s
        else
          let t := s.now + 62
          let ps := s.orderPlats k
          let go (s : State) (p : Nat) : State :=
            if s.eligibleNow p ∧ !(s.plat p).heldCmd then
              (s.sendLaunch p s.relayEdge).modPlat p fun q => { q with releaseAt := some t, releaseCmd := none }
            else s.skipPlat p t
          let s := (ps.foldl go s).modBoot fun b => { b with orderAt := some t, rfWait := false }
          if ps.any fun p => (s.plat p).releaseAt.isSome then s else s.orderDone t)

/-- The platform leaves reset on its release edge (R356). -/
def State.releasePlat (p : Nat) (s : State) : State :=
  let b := baton s.now 15
  (s.modPlat p fun q => { q with released := true, state := 6, releaseBaton := b, releaseAt := none, ordered := true }).event 15 2 0x0603 p

/-- The order that a platform belongs to waits again (R357, R360). -/
def State.orderWaits (s : State) : State :=
  let clear (s : State) (p : Nat) : State :=
    s.modPlat p fun q => if q.releaseCmd.isNone then { q with releaseAt := none } else q
  (s.bootPlats.foldl clear s).modBoot fun b => { b with orderAt := none, rfWait := s.redFlag }

/-- The last platform of an order has been released or skipped. -/
def State.closeOrder (s : State) : State :=
  match s.boot.orderAt with
  | none => s
  | some t => if s.boot.plats.any fun x => x.2.releaseAt = some t ∧ x.2.releaseCmd.isNone then s else s.orderDone t

/-- The release edge of a platform in the release order. -/
def State.orderedRelease (p : Nat) (s : State) : State :=
  if s.releaseBarred ∨ !s.inSession 0 then s.orderWaits
  else if (s.plat p).heldCmd ∨ !s.pgoodMet p ∨ !s.eligibleNow p then (s.skipPlat p s.now).closeOrder
  else ((s.releasePlat p).takesEffect .kpr 0 [objReset p]).closeOrder

/-- The release edge of a SYS.RELEASE_PLATFORM: it loses to an order that holds the platform or enters the Red flag on that edge (R360). -/
def State.commandedRelease (p : Nat) (c : CmdRef) (s : State) : State :=
  let s := s.modPlat p fun q => { q with releaseAt := none, releaseCmd := none }
  match s.winner (objReset p :: if c.port = .kpr then [] else [objLockdown]) with
  | some w => s.respondRef c cSuperseded (le 1 w.port.index ++ zeros 1 ++ le 2 w.opcode)
  | none =>
  if (s.redFlag ∧ c.port ≠ .kpr) ∨ s.vlt.dqSeen then s.refuseRef c 0x0040
  else if s.restarting ∨ (s.plat p).heldCmd then s.respondRef c cSuperseded (zeros 4)
  else if !s.inSession 0 then
    (match s.refOut c with | some o => s.setOut { o with link := some 0 } | none => s)
  else if !s.eligibleNow p then s.refuseRef c 0x0003
  else if !s.pgoodMet p then s.refuseRef c 0x0004
  else
    let s := s.releasePlat p
    s.respondRef c cOk (le 8 (s.plat p).releaseBaton)

/-- PLATFORM_RELEASE: the Relay's acknowledgement is presented on the release edge (R356, R360, R362). -/
def execPlatformRelease (plat : Nat) (s : State) : Out :=
  onObject (plat < 4) (match (s.plat plat).releaseAt with
    | none => s
    | some t =>
      let s := s.advanceTo t
      match (s.plat plat).releaseCmd with
      | none => s.orderedRelease plat
      | some c => s.commandedRelease plat { port := c.1, session := c.2.1, tag := c.2.2 })

/-- SYS.RELEASE_PLATFORM (section 12). -/
def execSysReleasePlatform (r : Req) (s : State) : Out :=
  .next (s.command 0x0030 r (fun o s =>
    let p := byteAt o.payload 0
    s.formedBy o 4 [(decide (3 < p), 0)] [(1, 3)] fun s =>
      s.order o (objReset p :: o.lockObjs) fun s =>
      s.checks o
        [(s.redRefuses o, 0x0040), (!s.hasBoot p, 0x0001), (!s.flc.closed, 0x0002), (!s.eligibleNow p, 0x0003),
         (!(s.plat p).ordered, 0x0006), (!s.inSession 0, 0x0007), (!s.pgoodMet p, 0x0004)]
        fun s =>
          if (s.plat p).released then s.done o (le 8 (s.plat p).releaseBaton)
          else
            let s := (s.takesEffect o.port o.opcode [objReset p]).sendLaunch p s.relayEdge
            s.modPlat p fun q =>
              { q with heldCmd := false, releaseAt := some (s.now + 62), releaseCmd := some (o.port, o.session, o.tag) }))

/-- PRSTn is driven low and HELD_CMD set (SYS.HOLD_PLATFORM, R416). -/
def State.holdByCommand (p : Nat) (s : State) : State :=
  s.modPlat p fun q =>
    { q with heldCmd := true, released := false, state := if q.state = 5 ∨ q.state = 6 then 8 else q.state }

/-- SYS.HOLD_PLATFORM (section 12, R360, R365). -/
def execSysHoldPlatform (r : Req) (s : State) : Out :=
  .next (s.command 0x0031 r (fun o s =>
    let p := byteAt o.payload 0
    s.formedBy o 4 [(decide (3 < p), 0)] [(1, 3)] fun s =>
      s.order o [objReset p] fun s =>
        let low := s.heldLow p
        let s := (s.takesEffect o.port o.opcode [objReset p]).holdByCommand p
        s.done o (le 8 (baton (if low then o.edge else o.edge + 1) 15))))

/-- The objects of WDN.SET_PHASE toward HOLD: the port and its platform's reset (R416). -/
def State.holdObjs (port : Nat) (s : State) : List (Nat × Nat) :=
  match s.platOf port with | some q => [objWarden port, objReset q] | none => [objWarden port]

/-- WDN.SET_PHASE toward HOLD (R416). -/
def State.phaseHold (o : Outstanding) (port : Nat) (s : State) : State :=
  let t := s.relayEdge
  let s := match s.platOf port with
    | some p => ((s.takesEffect o.port o.opcode [objWarden port, objReset p]).holdByCommand p).remeasure p 2
    | none => s.takesEffect o.port o.opcode [objWarden port]
  (s.enterHold port t).done o (le 8 (baton t 6))

/-- WDN.SET_PHASE (R414 to R416). -/
def execWdnSetPhase (r : Req) (s : State) : Out :=
  .next (s.command 0x3005 r (fun o s =>
    let target := byteAt o.payload 1
    s.wdnCommand o 4 [(decide (target ≠ 0 ∧ target ≠ 3 ∧ target ≠ 4), 1)] [(2, 2)] fun p s =>
      s.checks o
        [(p == 4, 0x0002), (!s.portDeclared p, 0x0001), (!s.flc.closed, 0x0030), (decide (target ≠ 0) && s.redRefuses o, 0x0040)]
        fun s =>
        s.viaLink o 0 fun s =>
        let phase := (s.wport p).phase
        s.order o (if target = 0 then s.holdObjs p else objWarden p :: o.lockObjs) fun s =>
        s.checks o [(phase == 2, 0x0008), (target == 3 || (target == 4 && phase != 3 && phase != 4), 0x0003)] fun s =>
          if target = 4 then
            if phase = 4 then s.done o (le 8 (s.wport p).phaseBaton)
            else
              let t := s.relayEdge
              ((s.takesEffect o.port o.opcode [objWarden p]).setPhase p 4 t).done o (le 8 (baton t 6))
          else s.phaseHold o p))

/-! ## Registers and SYS.GET_BOOT (section 11) -/

/-- KPR.BOOT_STAT. -/
def State.bootStat (s : State) : Nat :=
  s.boot.stage + 32 * b2n s.boot.esWait + 64 * b2n s.boot.rfWait + 128 * b2n s.flc.closed
    + 256 * maskOf 4 (fun p => s.heldLow p) + 4096 * s.boot.pgood + 65536 * s.boot.nextOrder

/-- KPR.BOOT_PLAT[p]. -/
def State.bootPlat (p : Nat) (s : State) : Nat :=
  let q := s.plat p
  q.state + 16 * (q.image % 8) + 128 * b2n q.heldCmd + 65536 * q.pages

/-- The byte of an image in SYS.GET_BOOT. -/
def State.imageByte (p i : Nat) (s : State) : Nat :=
  let x := s.image p i
  if s.imageCount p ≤ i ∨ !x.final then 0xFF else x.verdict.getD 0 + 16 * x.recovery

/-- The record of a platform in SYS.GET_BOOT. -/
def State.bootRecord (p : Nat) (s : State) : Bytes :=
  let q := s.plat p
  le 1 q.state ++ le 1 (if s.hasBoot p then bOrder (s.bootBody p) else 0xFF) ++ le 1 (if s.hasBoot p then s.imageCount p else 0)
    ++ le 1 (b2n (bit s.boot.pgood p) + 2 * b2n q.heldCmd)
    ++ (List.range 8).flatMap (fun i => le 1 (if s.hasBoot p then s.imageByte p i else 0xFF)) ++ le 8 q.releaseBaton ++ le 2 q.pages ++ zeros 10

/-- SYS.GET_BOOT. -/
def execSysGetBoot (r : Req) (s : State) : Out :=
  .next (s.command 0x0032 r (fun o s => s.wellFormed o 0 [] fun s =>
    s.done o (le 1 s.boot.stage ++ le 1 (b2n s.boot.esWait + 2 * b2n s.boot.rfWait + 4 * b2n s.flc.closed) ++ zeros 2
      ++ le 4 s.bootCount ++ le 8 (if s.flc.closed then baton s.boot.closeCycle 2 else 0)
      ++ (List.range 4).flatMap fun p => s.bootRecord p)))

end Sys2Proof.Machine
end

