-- ==== Sys2Proof/Machine/Formula.lean ====
section
/-! DEFINITION. The Formula slots: validation at cold start, the fallback and no-Formula operation, staging and the queries (R150, R151,
sections 6, 7, 9 and 13 of chapter 4; steps 6 to 8 of Table 9.1). -/

namespace Sys2Proof.Machine

/-! ## Slots -/

/-- Offset of a Formula slot in NVM bank A (R150). -/
def slotAddr (k : Nat) : Nat := 0xC0000 + 98304 * k

/-- What a slot holds: TOTAL_LEN bytes where the header gives a length that a Formula can have, else the whole slot. -/
def State.slotBytes (k : Nat) (s : State) : Bytes :=
  let n := u32 (s.nvmA (slotAddr k + 8) 4) 0
  s.nvmA (slotAddr k) (if 64 ≤ n ∧ n ≤ 98304 then n else 98304)

/-- The slot erased. -/
def State.eraseSlot (k : Nat) (s : State) : State := s.modCores fun c => { c with nvmA := mclear c.nvmA (slotAddr k) 98304 }

/-- A slot written with a Formula. -/
def State.writeSlot (k : Nat) (b : Bytes) (s : State) : State :=
  (s.eraseSlot k).modCores fun c => { c with nvmA := mwrite 0xFF c.nvmA (slotAddr k) b }

/-- The staging slot. -/
def State.stagingSlot (s : State) : Nat := 1 - s.frm.active

/-- A refusal: its code and offset logged and kept (R173). -/
def State.rejectFormula (code off : Nat) (s : State) : State :=
  (s.modFrm fun f => { f with rejectCode := code, rejectOffset := off }).event 2 0 0x000A code off

/-! ## Tamper responses in force (R238) -/

/-- FLOOR of TAMPER_CFG (R191). -/
def State.floorResponses (s : State) : Nat := fuseWord s.fus.latchE 0x31 % 2 ^ 30

/-- The response table written to KPR.MSH_RESP and to the response copy. -/
def State.setResponses (v : Nat) (s : State) : State := s.modVlt fun t => { t with resp := v, respCopy := v }

/-- The responses of a TAMPER section. -/
def tamperResponses (b : Bytes) : Nat := ((List.range 15).map fun i => byteAt b i % 4 * 4 ^ i).sum

/-! ## Stages -/

/-- A change of stage, logged in slot 2 (R336). -/
def State.setStage (k : Nat) (s : State) : State := (s.modBoot fun b => { b with stage := k }).event 2 0 0x0002 k

/-! ## Steps 6 to 8 -/

/-- No-Formula operation: partner dies and platforms held, MB and SVC open (R151, R359, R675). -/
def State.noFormulaOperation (s : State) : State :=
  let down (k : Link) : Link := { state := if k.state = .absent then .absent else .down, losses := k.losses, tagFail := k.tagFail, retx := k.retx }
  let s := { s with links := (List.range 5).foldl (fun t l => tset {} t l (down (s.link l))) s.links }
  let s := (List.range 5).foldl (fun s l => s.setDomain (dFilong l) {}) s
  let s := s.modFrm fun f => { f with noFormula := true, candidate := none }
  let s := (s.modBoot fun b => { b with phase := 0, applying := [], declared := 0 }).setStage 0x1E
  let s := (s.modMb fun m => { m with isOpen := true }).modSvc fun v => { v with isOpen := true }
  s.beginCommit

/-- Step 7: the Steward image is verified and entry 2 appended (R264, R345). -/
def State.verifySteward (f : Formula) (s : State) : State :=
  let (v, version, digest) := match s.judgeSteward ((f.section? 1 0).getD []) with
    | some (v, x) => (v, ihVersion x.header, x.digest)
    | none => (3, 0, [])
  let s := s.modBoot fun b => { b with stwVerdict := v, stwVersion := version, stwDigest := digest }
  let s := s.modCores fun c => { c with steward := if v = 0 then .inReset else .held }
  s.appendEntry (measurementEntry 2 0xFF 0xFF v version digest 0)

/-- The links that a Formula declares: link 0, and one for each BANK section (R344). -/
def Formula.declares (f : Formula) (l : Nat) : Bool := l = 0 || (f.section? 7 (l - 1)).isSome

/-- Step 8: the declared links train, their domains on; every other link goes to ABSENT (R344, R675). -/
def State.trainLinks (f : Formula) (s : State) : State :=
  let go (s : State) (l : Nat) : State :=
    let k := s.link l
    if f.declares l then
      (s.setLink l { state := .train, deadline := some (s.now + 12000), losses := k.losses, tagFail := k.tagFail, retx := k.retx }).setDomain
        (dFilong l) { condition := .on }
    else s.setLink l { state := .absent }
  ((List.range 5).foldl go s).modBoot fun b =>
    { b with declared := maskOf 5 f.declares, phase := 1, applying := [] }

/-- Step 6 on the slot to be tried, with one fallback, then steps 7 and 8 (R151, R335). -/
def State.tryFormula : Nat → State → State
  | 0, s => s.noFormulaOperation
  | n + 1, s =>
    let b := s.slotBytes (if s.frm.triedOther then s.stagingSlot else s.frm.active)
    match s.validate b with
    | some (code, off) =>
      let s := s.rejectFormula code off
      if s.frm.triedOther then s.noFormulaOperation else (s.modFrm fun f => { f with triedOther := true }).tryFormula n
    | none =>
      let f := formulaOf b
      let s := (s.modFrm fun q => { q with candidate := some f }).setStage 0x05
      (s.verifySteward f).trainLinks f

/-- Step 6 begins. -/
def State.startFormula (s : State) : State := (s.setStage 0x04).tryFormula 2

/-- An application fails: every partner die is reset, FLOOR is written back, and the other slot is tried (R175, R238). -/
def State.failApplication (code off : Nat) (s : State) : State :=
  let s := (s.rejectFormula code off).setResponses s.floorResponses
  let down (k : Link) : Link := { state := if k.state = .absent then .absent else .down, losses := k.losses, tagFail := k.tagFail, retx := k.retx }
  let s := { s with links := (List.range 5).foldl (fun t l => tset {} t l (down (s.link l))) s.links }
  let s := (List.range 5).foldl (fun s l => s.setDomain (dFilong l) {}) s
  let s := (s.modFrm fun f => { f with candidate := none }).modBoot fun b => { b with phase := 0, applying := [], declared := 0 }
  if s.frm.triedOther then s.noFormulaOperation
  else ((s.modFrm fun f => { f with triedOther := true }).setStage 0x04).tryFormula 1

/-! ## Step 1 of the application (Table 4.5) -/

/-- SYSTEM, TAMPER and the Steward's window and watchdog are applied on the Keeper (R238). -/
def State.applyKeeper (f : Formula) (s : State) : State :=
  let sys := (f.section? 1 0).getD []
  let tam := (f.section? 0xD 0).getD []
  let w := byteAt sys 1
  let s := s.modCores fun c =>
    { c with winKpr := bit w 0, winRly := bit w 1, winBnk := bits w 5 2, wdogEn := u16 sys 4 ≠ 0, wdogTimeout := u16 sys 4 }
  let nose := (List.range 8).foldl (fun m n => tset 0xFF m n (256 * byteAt tam (17 + 2 * n) + byteAt tam (16 + 2 * n))) ([] : Sparse Nat)
  (s.setResponses (tamperResponses tam)).modVlt fun t => { t with noseResp := nose }

/-! ## Staging -/

/-- The staged Formula is known no longer. -/
def State.unstage (s : State) : State := s.modFrm fun f => { f with staged := none, revalidating := false }

/-- A FRM.STAGE received before this one is outstanding. -/
def State.staging (o : Outstanding) (s : State) : Bool :=
  (s.paths.outstanding.takeWhile fun x => !x.isFor o.port o.session o.tag).any fun x => x.opcode = 0xC001

/-- FRM.STAGE (R178, R181). -/
def execFrmStage (r : Req) (s : State) : Out :=
  .next (s.command 0xC001 r (fun o s =>
    if o.bulk.length < 64 ∨ 98304 < o.bulk.length then s.malformed o 0
    else s.wellFormed o 8 [] fun s =>
      s.order o [objStage] fun s =>
        s.checks o [(s.staging o, 0x0002)] fun s =>
          let s := (s.takesEffect o.orderPort o.opcode [objStage]).unstage
          let s := s.writeSlot s.stagingSlot o.bulk
          match s.validate o.bulk with
          | some (code, off) => ((s.rejectFormula code off).eraseSlot s.stagingSlot).refuse o code
          | none =>
            let f := formulaOf o.bulk
            (s.modFrm fun q => { q with staged := some f }).done o (sized 48 f.digest ++ le 4 f.serial)))

/-- STAGING_REVALIDATE: after Heart closure the staging slot is validated (R178). -/
def execStagingRevalidate (s : State) : Out :=
  .next (if !s.frm.revalidating then s
    else
      let b := s.slotBytes s.stagingSlot
      let s := s.modFrm fun f => { f with revalidating := false }
      match s.validate b with
      | some (code, off) => s.rejectFormula code off
      | none => s.modFrm fun f => { f with staged := some (formulaOf b) })

/-! ## Queries and registers -/

/-- KPR.FRM_STAT. -/
def State.frmStat (s : State) : Nat :=
  s.frm.active + 2 * b2n s.frm.applied.isSome + 4 * b2n s.frm.isSealed + 8 * b2n s.frm.staged.isSome + 16 * b2n s.frm.fallback
    + 32 * b2n s.frm.activating + 65536 * (match s.frm.applied with | some f => f.version | none => 0)

/-- KPR.FRM_SERIAL. -/
def State.frmSerial (s : State) : Nat := match s.frm.applied with | some f => f.serial | none => 0

/-- KPR.FRM_REJECT. -/
def State.frmReject (s : State) : Nat := s.frm.rejectCode + 65536 * min 0xFFFF (s.frm.rejectOffset / 2)

/-- FRM.GET_INFO. -/
def execFrmGetInfo (r : Req) (s : State) : Out :=
  .next (s.command 0xC000 r (fun o s => s.wellFormed o 0 [] fun s =>
    let staged := s.frm.staged.getD {}
    s.done o (le 1 (if s.frm.noFormula then 0xFF else s.frm.active) ++ le 1 (bits s.frmStat 5 1) ++ zeros 2 ++ le 4 s.frmSerial
      ++ le 2 (s.frmStat / 65536) ++ zeros 2 ++ le 4 staged.serial ++ le 2 staged.version ++ le 2 s.frm.rejectCode
      ++ le 4 s.frm.rejectOffset ++ s.formulaDigest ++ sized 48 staged.digest)))

/-- FRM.GET_RANKS (R94, R162). -/
def execFrmGetRanks (r : Req) (s : State) : Out :=
  .next (s.command 0xC003 r (fun o s => s.wellFormed o 2 [] fun s =>
    let op := u16 o.payload 0
    s.done o (le 1 (((cmdInfo op).map CmdInfo.ranks).getD 0) ++ le 1 (s.effectiveRanks op) ++ zeros 2)))

end Sys2Proof.Machine
end

