-- ==== Sys2Proof/Machine/Lanes.lean ====
section
/-! DEFINITION. The Lane engines: the master queue, the completion records and the target ports (chapter 13). -/

namespace Sys2Proof.Machine

def State.lane (e : Nat) (s : State) : Lane := tget {} s.lanes e

def State.modLane (e : Nat) (f : Lane → Lane) (s : State) : State := { s with lanes := tset {} s.lanes e (f (tget {} s.lanes e)) }

/-- Address of a register of engine `e` in the core address map. -/
def laneAddr (e off : Nat) : Nat := 0x41030000 + 0x100 * e + off

/-- An event of an engine: slot 7, source 1 + e (Table 2.2). -/
def State.laneEvent (e code : Nat) (a0 : Nat := 0) (a1 : Nat := 0) (s : State) : State := s.event 7 (1 + e) code a0 a1

/-! ## Queue entries (Tables 13.2 and 13.3) -/

def entSel (b : Bytes) : Nat := byteAt b 0 % 4
def entCont (b : Bytes) : Bool := bit (byteAt b 0) 7
def entMode (b : Bytes) : Nat := byteAt b 1 % 4
def entDiv (b : Bytes) : Nat := u16 b 2
def entPhases (b : Bytes) : Nat := byteAt b 4
def entTag (b : Bytes) : Nat := u16 b 6
def entPhase (b : Bytes) (i : Nat) : Nat := u32 b (8 + 4 * i)
def entOut (b : Bytes) : Nat := u32 b 24
def entIn (b : Bytes) : Nat := u32 b 28

def phBits (p : Nat) : Nat := bits p 12 0
def phLanes (p : Nat) : Nat := bits p 14 13
/-- DIR: 0 OUT, 1 IN, 2 DUPLEX, 3 DUMMY. -/
def phDir (p : Nat) : Nat := bits p 16 15
def phDtr (p : Nat) : Bool := bit p 17

/-- Bits that one SCK period of a phase carries; one for DUMMY, whose BITS counts periods. -/
def phPerPeriod (p : Nat) : Nat := if 2 ≤ phDir p then 1 else 2 ^ phLanes p * (if phDtr p then 2 else 1)

/-- SCK periods of a phase. -/
def phPeriods (p : Nat) : Nat := ceilDiv (phBits p) (phPerPeriod p)

/-- The phases of an entry. -/
def entList (b : Bytes) : List Nat := (List.range (entPhases b)).map (entPhase b)

/-- Bytes that the phases of the listed directions take (R477). -/
def entLen (b : Bytes) (dirs : List Nat) : Nat :=
  (((entList b).filter fun p => dirs.contains (phDir p)).map fun p => ceilDiv (phBits p) 8).sum

/-- SCK periods of an entry. -/
def entPeriods (b : Bytes) : Nat := ((entList b).map phPeriods).sum

/-- The first fault of a phase descriptor, as an offset in it (R478, check 5). -/
def phaseFault (b : Bytes) (lanes p : Nat) : Option Nat :=
  let quiet := 2 ≤ phDir p
  let slow := phDtr p ∧ (entMode b ∉ [0, 3] ∨ entDiv b % 2 = 1 ∨ entDiv b < 6)
  if phBits p = 0 ∨ 4096 < phBits p ∨ phBits p % phPerPeriod p ≠ 0 then some 0
  else if (quiet ∧ phLanes p ≠ 0) ∨ lanes < 2 ^ phLanes p then some 1
  else if (quiet ∧ phDtr p) ∨ slow ∨ p / 2 ^ 18 % 64 ≠ 0 then some 2
  else if p / 2 ^ 24 ≠ 0 then some 3
  else none

/-- The first fault of an entry, if any (R478, checks 5 and 6): the selects and lanes that are mapped, and the area's size. -/
def entryFault (b : Bytes) (selMapped : Nat → Bool) (lanes area : Nat) : Option Nat :=
  let phases := (List.range 4).findSome? fun i =>
    if i < entPhases b then (phaseFault b lanes (entPhase b i)).map fun k => 8 + 4 * i + k else firstNonZero b (8 + 4 * i) 4
  let region (off len at' : Nat) : Option Nat :=
    if off + len ≤ area ∨ (off = 0xFFFFFFFF ∧ len = 0) then none else some at'
  if byteAt b 0 / 4 % 32 ≠ 0 ∨ !selMapped (entSel b) then some 0
  else if byteAt b 1 / 8 ≠ 0 then some 1
  else if entDiv b < 3 ∨ 4095 < entDiv b then some 2
  else if entPhases b = 0 ∨ 4 < entPhases b then some 4
  else if byteAt b 5 ≠ 0 then some 5
  else match phases with
    | some k => some k
    | none => (region (entOut b) (entLen b [0, 2]) 24).or (region (entIn b) (entLen b [1, 2]) 28)

/-- Lanes mapped from IO0 upward. -/
def State.laneWidth (e : Nat) (s : State) : Nat := ((List.range 8).takeWhile fun k => s.mapped (laneCode e (5 + k))).length

/-! ## Records -/

/-- A completion record of edge `t` placed in the FIFO, and the Steward's Lane interrupt (R490). A record with another code than OK is logged,
with LATE_AT_EXPIRY where its completion lost to an expiry (R506, R507). -/
def State.laneRecordAt (t e tag type code phase : Nat) (late : Bool) (s : State) : State :=
  let w := tag + 65536 * type + 1048576 * code + 16777216 * phase
  let s := s.modLane e fun l => { l with records := l.records ++ [(w, t % 2 ^ 32)] }
  let s := s.modCores fun c => { c with irqSteward := c.irqSteward ||| 8 }
  if code = 0 then s
  else s.putRec { cycle := t, slot := 7, source := 1 + e, code := 0x0710, late := late, arg0 := code, arg1 := tag, arg2 := 0 }

/-- A record of the present edge. -/
def State.laneRecord (e tag type code phase : Nat) (s : State) : State := s.laneRecordAt s.now e tag type code phase false

/-- An entry completes with a code on edge `t`. -/
def State.endEntry (e : Nat) (b : Bytes) (code phase t : Nat) (late : Bool) (s : State) : State :=
  let s := if code = 1 then s.modLane e fun l => { l with errBroken := satInc 255 l.errBroken } else s
  s.laneRecordAt t e (entTag b) 0 code phase late

/-- Every queued entry completes with a code on edge `t`, in queue order (R491, R499). -/
def State.flushQueue (e code t : Nat) (s : State) : State :=
  let q := (s.lane e).queue
  q.foldl (fun s b => s.endEntry e b code 0 t false) (s.modLane e fun l => { l with queue := [] })

/-- Pool bytes that the spec leaves open: free values (log entry 3). -/
def State.openBytes (a n : Nat) (s : State) : State :=
  let t := s.poolWrite a (fit n fun i => Config.freeByte (s.free + i))
  { t with free := s.free + n }

/-- The in buffer of an entry that was stopped: what had arrived stays, and the rest is unspecified (R489). -/
def State.spoilInput (e : Nat) (b : Bytes) (s : State) : State :=
  let n := entLen b [1, 2]
  if n = 0 then s else s.openBytes ((s.laneArea e).1 + entIn b) n

/-! ## The master -/

/-- A push's outcome latched (R478). -/
def State.pushOutcome (e result detail offset : Nat) (s : State) : State :=
  s.modLane e fun l => { l with result := result, detail := detail, offset := offset }

/-- The checks of a push in order, and the entry queued (R476, R478). -/
def State.pushEntry (e : Nat) (s : State) : State :=
  let l := s.lane e
  let b := sized 32 l.staged
  if s.laneRole e ≠ 1 then s.pushOutcome e 1 0x01 0
  else if !s.powered (dLane e) then s.pushOutcome e 1 0x10 0
  else if s.draining (dLane e) then s.pushOutcome e 3 0 0
  else if 16 ≤ l.queue.length then s.pushOutcome e 1 0x02 0
  else match entryFault b (fun k => s.mapped (laneCode e (1 + k))) (s.laneWidth e) (0x8000 * (s.laneArea e).2) with
    | some off => s.pushOutcome e 2 0 off
    | none => (s.pushOutcome e 0 0 0).modLane e fun l => { l with queue := l.queue ++ [b] }

/-- LANE_PUSH. -/
def execLanePush (core : CoreId) (engine : Nat) (_value : Word) (s : State) : Out :=
  onObject (engine < 2) (s.relayAccess core (laneAddr engine 0x30) (fun s => s.pushEntry engine))

/-- An entry completes CONT_BROKEN on its start edge: a held select rises, and a broken chain ends with the first entry that has
CONT clear (R487, R488). -/
def State.breakEntry (e : Nat) (b : Bytes) (late : Bool) (s : State) : State :=
  let s := s.modLane e fun l =>
    { l with held := none, highSince := if l.held.isSome then s.now else l.highSince, broken := l.broken && entCont b }
  s.endEntry e b 1 0 s.now late

/-- The hold timer's terminal count (R488). -/
def State.contTimeout (e : Nat) (s : State) : State :=
  match (s.lane e).held with
  | none => s
  | some h =>
    let s := s.advanceTo h.deadline
    (s.modLane e fun l => { l with held := none, broken := true, highSince := s.now }).laneEvent e 0x0711

/-- LANE_CONT_TIMEOUT; a running entry that continues the select has stopped the timer. -/
def execLaneContTimeout (engine : Nat) (s : State) : Out :=
  onObject (engine < 2) (if (s.lane engine).running.isSome then s else s.contTimeout engine)

/-- LANE_ENTRY_START: the queue's head starts on its start edge (R479, R487, R488, R506, R508). -/
def execLaneEntryStart (engine : Nat) (s : State) : Out :=
  onObject (engine < 2) (
    let l := s.lane engine
    match l.queue with
    | [] => s
    | b :: rest =>
      if l.running.isSome ∨ 32 ≤ l.records.length ∨ l.copy ∨ (l.copyWaits ∧ l.held.isNone) ∨ !s.domainOn (dLane engine) then s
      else
        let s := if l.held.isNone then s.advanceTo (l.highSince + 2 * max 1 l.csi * entDiv b) else s
        let pop (s : State) : State := s.modLane engine fun l => { l with queue := rest }
        match l.held with
        | some h =>
          if h.deadline ≤ s.now then
            (pop (s.contTimeout engine)).breakEntry engine b true
          else if h.sel ≠ entSel b ∨ h.mode ≠ entMode b then (pop s).breakEntry engine b false
          else (pop s).modLane engine fun l => { l with held := none, running := some (b, s.now) }
        | none =>
          if l.broken then (pop s).breakEntry engine b false
          else (pop s).modLane engine fun l => { l with running := some (b, s.now) })

/-- The edge on which the last input bit of the phases from period `k` on is presented: the cycle after it is sampled (R484); 0 where
no phase receives. -/
def lastPresented (b : Bytes) (first rtd : Nat) : List Nat → Nat → Nat
  | [], _ => 0
  | p :: ps, k =>
    let rest := lastPresented b first rtd ps (k + phPeriods p)
    if phDir p ∈ [1, 2] then
      let trailing := first + (2 * (k + phPeriods p) - 1) * entDiv b
      let edge := if entMode b ∈ [0, 2] ∧ ¬phDtr p then trailing - entDiv b else trailing
      max (edge + rtd / 4 + 1) rest
    else rest

/-- Half-periods from the start edge to the edge that ends the last SCK period, and to the completion edge (R486, R489). -/
def laneCompletion (l : Lane) (b : Bytes) (start : Nat) : Nat :=
  let first := start + max 1 l.css * entDiv b
  let last := first + (2 * entPeriods b - 1) * entDiv b
  let rises := if entCont b then last else last + max 1 l.csh * entDiv b
  max rises (lastPresented b first l.rtd (entList b) 0 + 1)

/-- One IN or DUPLEX phase's bytes: the unused bits of its last byte written as zero (R481). -/
def phaseIn (lsb : Bool) (p : Nat) (bs : Bytes) : Bytes :=
  let n := ceilDiv (phBits p) 8
  let rem := phBits p % 8
  let bs := sized n bs
  if rem = 0 then bs
  else
    let last := byteAt bs (n - 1)
    bs.take (n - 1) ++ [BitVec.ofNat 8 (if lsb then last % 2 ^ rem else last / 2 ^ (8 - rem) * 2 ^ (8 - rem))]

/-- The in buffer that the device's bytes give, phase by phase. -/
def inBytes (lsb : Bool) : List Nat → Bytes → Bytes
  | [], _ => []
  | p :: ps, bs =>
    if phDir p ∈ [1, 2] then phaseIn lsb p bs ++ inBytes lsb ps (bs.drop (ceilDiv (phBits p) 8)) else inBytes lsb ps bs

/-- The phase that runs at an edge. -/
def phaseAt (b : Bytes) (ps : List Nat) (k period : Nat) : Nat :=
  match ps with
  | [] => k - 1
  | p :: ps => if period < phPeriods p then k else phaseAt b ps (k + 1) (period - phPeriods p)

/-- The phase of a running entry at the present edge. -/
def State.runningPhase (l : Lane) (b : Bytes) (start : Nat) (s : State) : Nat :=
  let first := start + max 1 l.css * entDiv b
  if s.now < first ∨ entDiv b = 0 then 0 else min (entPhases b - 1) (phaseAt b (entList b) 0 ((s.now - first) / (2 * entDiv b)))

/-- LANE_ENTRY_COMPLETE: the running entry runs to its end; `input` is what the device sent in its IN and DUPLEX phases. On the
claim-timeout edge it completes ABORTED_POWER (R489, R507). -/
def execLaneEntryComplete (engine : Nat) (input : Bytes) (s : State) : Out :=
  onObject (engine < 2) (
    let l := s.lane engine
    match l.running with
    | none => s
    | some (b, start) =>
      let done := max s.now (laneCompletion l b start)
      let t := (s.domain (dLane engine)).timer
      let clear (s : State) : State := s.modLane engine fun l => { l with running := none, highSince := s.now }
      if s.draining (dLane engine) ∧ t ≤ done then
        let s := s.advanceTo t
        let phase := if t = done then entPhases b - 1 else s.runningPhase l b start
        let s := if t = done then s else s.spoilInput engine b
        (clear s).endEntry engine b 4 phase t (t = done)
      else
        let s := s.advanceTo done
        let n := entLen b [1, 2]
        let s := if n = 0 then s
          else s.poolWrite ((s.laneArea engine).1 + entIn b) (inBytes (bit (byteAt b 1) 2) (entList b) input)
        let held : Option HeldSel :=
          if entCont b then some { sel := entSel b, mode := entMode b, deadline := s.now + 2 ^ l.contTo } else none
        ((clear s).modLane engine fun l => { l with held := held }).endEntry engine b 0 (entPhases b - 1) s.now false)

/-- The end of the SCK period in progress (R491). -/
def periodEnd (l : Lane) (b : Bytes) (start now : Nat) : Nat :=
  let first := start + max 1 l.css * entDiv b
  if now ≤ first then now else first + ceilDiv (now - first) (2 * entDiv b) * (2 * entDiv b)

/-- LANE_CANCEL: queued entries complete CANCELLED, a held select rises, and a running entry stops at the end of its SCK period
(R491, R505). -/
def execLaneCancel (core : CoreId) (engine : Nat) (value : Word) (s : State) : Out :=
  onObject (engine < 2) (s.relayAccess core (laneAddr engine 0x38) (fun s =>
    let s := s.logReserved core (laneAddr engine 0x38) (value.toNat / 2 * 2)
    if value.getLsbD 0 then
      let s := s.flushQueue engine 2 s.now
      let s := s.modLane engine fun l =>
        { l with held := none, broken := false, highSince := if l.held.isSome then s.now else l.highSince }
      match (s.lane engine).running with
      | none => s
      | some (b, start) =>
        let l := s.lane engine
        let phase := s.runningPhase l b start
        let s := s.advanceTo (periodEnd l b start s.now)
        let s := s.spoilInput engine b
        (s.modLane engine fun l => { l with running := none, highSince := s.now }).endEntry engine b 2 phase s.now false
    else s))

/-- LANE_DONE_READ: the oldest record is removed and its second word latched in the core's own copy (R492). -/
def execLaneDoneRead (core : CoreId) (engine : Nat) (s : State) : Out :=
  onObject (engine < 2) (s.relayAccess core (laneAddr engine 0x40) (fun s =>
    match (s.lane engine).records with
    | [] => s.readResult core 0x000F0000
    | (w0, w1) :: rest =>
      let put (l : Lane) : Lane :=
        match core with
        | .keeper => { l with records := rest, doneHiKeeper := w1 }
        | .steward => { l with records := rest, doneHiSteward := w1 }
      (s.modLane engine put).readResult core w0))

/-! ## The target -/

/-- The target is open (R497). -/
def State.targetOpen (e : Nat) (s : State) : Bool :=
  decide (s.laneRole e = 2) && (s.lane e).isOpen && s.powered (dLane e)
    && !(s.draining (dLane e) && decide ((s.domain (dLane e)).timer ≤ s.now))

/-- The target drives its lanes at all: its role and its domain (R497). -/
def State.targetAlive (e : Nat) (s : State) : Bool := decide (s.laneRole e = 2) && s.powered (dLane e) && !(s.link 0).dark

/-- An unlisted transaction byte is counted (R493). -/
def State.laneOther (e : Nat) (s : State) : State := s.modLane e fun l => { l with errOther := satInc 255 l.errOther }

/-- The lower-numbered free RX slot. -/
def Lane.freeRx (l : Lane) : Option Nat := if !l.rx0 then some 0 else if !l.rx1 then some 1 else none

/-- A frame discarded, counted and logged; one that came on the edge on which the target closed came late (R494, R502). -/
def State.laneDiscard (e : Nat) (aborted : Bool) (s : State) : State :=
  let s := s.modLane e fun l =>
    { l with discards := satInc 255 l.discards, errAborted := if aborted then satInc 255 l.errAborted else l.errAborted,
             errNotReady := if aborted then l.errNotReady else satInc 255 l.errNotReady }
  s.putRec { cycle := s.now, slot := 7, source := 1 + e, code := if aborted then 0x0712 else 0x0713,
             late := !aborted && decide ((s.lane e).closedAt = some s.now), arg0 := 0, arg1 := 0, arg2 := 0 }

/-- LANE_TARGET_WRITE: a WRITE takes effect at select release (R493, R494). -/
def execLaneTargetWrite (engine : Nat) (transaction : Byte) (data : Bytes) (extraBits : Nat) (s : State) : Out :=
  onObject (engine < 2) (
    if !s.targetAlive engine then s
    else if transaction ≠ 0x02 ∧ transaction ≠ 0x32 then s.laneOther engine
    else
      let l := s.lane engine
      let nr : Byte := BitVec.ofNat 8 l.notReady
      let mark := if l.freeRx.isSome then (0x5A : Byte) else nr
      let s := s.modLane engine fun l => { l with drove := if transaction = 0x02 then List.replicate data.length mark else [] }
      if extraBits % 8 ≠ 0 ∨ data.isEmpty ∨ 4096 < data.length ∨ (l.crcEn ∧ !crcPasses data) then s.laneDiscard engine true
      else match l.freeRx with
        | none => s.laneDiscard engine false
        | some r =>
          if 32 ≤ l.records.length ∨ !s.targetOpen engine then s.laneDiscard engine false
          else
            let s := s.poolWrite ((s.laneArea engine).1 + 0x2000 + 0x1000 * r) data
            let s := s.modLane engine fun l => { l with rx0 := l.rx0 || decide (r = 0), rx1 := l.rx1 || decide (r = 1) }
            s.laneRecord engine data.length 1 0 r)

/-- LANE_TARGET_READ: `clocked` bytes after the dummy clocks (R495). -/
def execLaneTargetRead (engine clocked : Nat) (s : State) : Out :=
  onObject (engine < 2) (
    if !s.targetAlive engine then s
    else
      let l := s.lane engine
      let idle : Bytes := List.replicate clocked (BitVec.ofNat 8 l.notReady)
      match l.tx, s.targetOpen engine with
      | some n, true =>
        let frame := s.poolRead ((s.laneArea engine).1 + 0x4000) n
        let s := s.modLane engine fun l => { l with drove := (((0x5A : Byte) :: le 2 n ++ frame) ++ zeros clocked).take clocked }
        if 3 + n ≤ clocked then (s.modLane engine fun l => { l with tx := none }).laneRecord engine n 2 0 0 else s
      | _, _ => s.modLane engine fun l => { l with drove := idle })

/-- LANE_TARGET_STATUS (R497, R498). -/
def execLaneTargetStatus (engine : Nat) (s : State) : Out :=
  onObject (engine < 2) (
    if !s.targetAlive engine then s
    else if !s.targetOpen engine then s.modLane engine fun l => { l with drove := List.replicate 4 (BitVec.ofNat 8 l.notReady) }
    else
      let l := s.lane engine
      let free := b2n (!l.rx0) + b2n (!l.rx1)
      let b0 := 1 + 2 * b2n (decide (0 < free) && decide (l.records.length < 32)) + 4 * b2n l.tx.isSome + 8 * b2n (decide (0 < l.discards))
      s.modLane engine fun l => { l with drove := le 1 b0 ++ le 1 free ++ zeros 1 ++ le 1 l.discards, discards := 0 })

/-- LANE_RX_FREE: a write of RLY.LANE_TGT (R496). -/
def execLaneRxFree (core : CoreId) (engine : Nat) (value : Word) (s : State) : Out :=
  onObject (engine < 2) (s.relayAccess core (laneAddr engine 0x48) (fun s =>
    let s := s.logReserved core (laneAddr engine 0x48) (value.toNat % 65536 / 32 * 32)
    s.modLane engine fun l =>
      { l with rx0 := l.rx0 && !value.getLsbD 0, rx1 := l.rx1 && !value.getLsbD 1, txBusy := l.txBusy && !value.getLsbD 4 }))

/-- LANE_TX_STAGE (R496, R503). -/
def execLaneTxStage (core : CoreId) (engine : Nat) (value : Word) (s : State) : Out :=
  onObject (engine < 2) (s.relayAccess core (laneAddr engine 0x4C) (fun s =>
    let n := value.toNat % 8192
    let s := s.logReserved core (laneAddr engine 0x4C) (value.toNat / 8192 * 8192)
    if n = 0 ∨ 4096 < n then s.logRefusedWrite core (laneAddr engine 0x4C) value
    else if (s.lane engine).tx.isSome then s.modLane engine fun l => { l with txBusy := true }
    else s.modLane engine fun l => { l with tx := some n }))

/-! ## Power and COPY -/

/-- The claim on LANE e (R499). -/
def State.laneClaim (e : Nat) (s : State) : Bool :=
  let l := s.lane e
  l.running.isSome || l.held.isSome || l.copy

/-- The start of a drain on edge `a` (R499). -/
def State.laneDrain (e a : Nat) (s : State) : State :=
  let s := s.flushQueue e 3 (a + 1)
  s.modLane e fun l => if l.running.isNone then { l with held := none, highSince := a + 1 } else l

/-- The claim timer of LANE e ends (R499): the running entry is aborted, a staged frame unstaged, and a COPY that holds engine 0 is
cut. -/
def State.laneTimerEnds (e : Nat) (s : State) : State :=
  if s.draining (dLane e) ∧ (s.domain (dLane e)).drop.isNone then
    let s := s.advanceTo (s.domain (dLane e)).timer
    let l := s.lane e
    let s := match l.running with
      | some (b, start) =>
        let phase := s.runningPhase l b start
        let s := s.spoilInput e b
        (s.modLane e fun l => { l with running := none, highSince := s.now }).endEntry e b 4 phase s.now false
      | none => s
    let s := match l.tx with
      | some n => (s.modLane e fun l => { l with tx := none }).laneRecord e n 3 4 0
      | none => s
    let s := s.modLane e fun l => { l with held := none, copy := false, closedAt := some s.now }
    let s := if l.copy then s.modWdn fun w => { w with running := w.running.map fun r => { r with cut := true } } else s
    s.drainEnds (dLane e) s.now true
  else s

/-- LANE_CLAIM_TIMEOUT. -/
def execLaneClaimTimeout (engine : Nat) (s : State) : Out := onObject (engine < 2) (s.laneTimerEnds engine)

/-- COPY_TAKES_ENGINE: the COPY that runs becomes the executing entry of engine 0 once no entry runs and no select is held (R500,
R508). -/
def execCopyTakesEngine (s : State) : Out :=
  .next (
    let l := s.lane 0
    if l.copyWaits ∧ l.running.isNone ∧ l.held.isNone ∧ s.domainOn (dLane 0) then s.modLane 0 fun l => { l with copyWaits := false, copy := true } else s)

/-- A re-initialised Relay returns both engines to reset (R501). -/
def State.resetLanes (s : State) : State := { s with lanes := [] }

/-! ## Registers -/

/-- RLY.LANE_CFG[e]. -/
def State.laneCfg (e : Nat) (s : State) : Nat :=
  let l := s.lane e
  s.laneRole e + 4 * b2n l.wphold + 8 * b2n l.crcEn + 16 * b2n l.isOpen + 256 * l.css + 4096 * l.csh + 65536 * l.csi + 1048576 * l.rtd

/-- RLY.LANE_PUSH_STAT[e]. -/
def State.lanePushStat (e : Nat) (s : State) : Nat :=
  let l := s.lane e
  l.result + 4 * l.detail + 256 * l.offset + 8192 * l.queue.length + 262144 * b2n l.running.isSome + 524288 * b2n l.held.isSome
    + 1048576 * b2n l.copy + 2097152 * min 32 l.records.length

/-- RLY.LANE_TGT[e]; the select is never low between two commands. -/
def State.laneTgt (e : Nat) (s : State) : Nat :=
  let l := s.lane e
  b2n l.rx0 + 2 * b2n l.rx1 + 4 * b2n l.tx.isSome + 16 * b2n l.txBusy + 65536 * l.tx.getD 0

/-- RLY.LANE_ERR[e]. -/
def State.laneErr (e : Nat) (s : State) : Nat :=
  let l := s.lane e
  l.errAborted + 256 * l.errNotReady + 65536 * l.errBroken + 16777216 * l.errOther

/-- RLY.LANE_AREA[e]. -/
def State.laneAreaReg (e : Nat) (s : State) : Nat :=
  let (a, n) := s.laneArea e
  if n = 0 then 0 else 0x800000 + a + 2 ^ 24 * n

end Sys2Proof.Machine
end

