-- ==== Sys2Proof/Machine/Links.lean ====
section
/-! DEFINITION. The Filong links: flits, acknowledgement and loss, pairing, the application of a Formula on the partner dies, the Starting
gun and its checks, the session key exchange, relinking and re-initialisation (section 2 of chapter 1, section 3 of chapter 2, R174 to
R176, R281; steps 8 to 12 of Table 9.1). -/

namespace Sys2Proof.Machine

/-! ## One end of a link -/

/-- Link latency in cycles (R26). -/
def linkLatency (l : Nat) : Nat := if l = 0 then 14 else 16

/-- Flits sent while fewer than 32 await acknowledgement, 16 cycles each; a flit's ack timer runs 128 cycles from its last bit
(R22, R31, R32). -/
def LinkEnd.pump (now : Nat) : Nat → LinkEnd → LinkEnd
  | 0, e => e
  | n + 1, e =>
    match e.waiting with
    | [] => e
    | (0, _) :: rest => LinkEnd.pump now n { e with waiting := rest }
    | (c + 1, k) :: rest =>
      if 32 ≤ e.unacked.length then e
      else
        let last := max now e.lineFree + 16
        let f : SentFlit := { seq := e.sent, deadline := last + 128, kind := k }
        LinkEnd.pump now n { e with sent := e.sent + 1, lineFree := last, unacked := e.unacked ++ [f], waiting := (c, k) :: rest }

/-- `count` flits of a kind offered from edge `now`. -/
def LinkEnd.send (now count kind : Nat) (e : LinkEnd) : LinkEnd :=
  LinkEnd.pump now 64 { e with waiting := e.waiting ++ [(count, kind)] }

/-- The oldest unacknowledged flit times out: it and every later one are sent again (R32). -/
def LinkEnd.retransmit (now : Nat) (e : LinkEnd) : LinkEnd :=
  let go (a : Nat × List SentFlit) (f : SentFlit) : Nat × List SentFlit :=
    let last := max now a.1 + 16
    (last, a.2 ++ [{ f with deadline := last + 128 }])
  let (free, fs) := e.unacked.foldl go (e.lineFree, [])
  { e with lineFree := free, unacked := match fs with
    | [] => []
    | f :: rest => { f with timeouts := f.timeouts + 1 } :: rest }

/-- A cumulative acknowledgement covers a flit (R22). -/
def ackCovers (ack seq : Nat) : Bool := (ack + 4096 - seq % 4096) % 4096 < 2048

/-- An acknowledgement frees what it covers, and waiting flits follow. -/
def LinkEnd.acked (now ack : Nat) (e : LinkEnd) : LinkEnd :=
  LinkEnd.pump now 64 { e with unacked := e.unacked.filter fun f => !ackCovers ack f.seq }

/-- The end that sends in a direction, and the end that receives. -/
def Link.sender (toKeeper : Bool) (k : Link) : LinkEnd := if toKeeper then k.partner else k.keeper
def Link.modSender (toKeeper : Bool) (f : LinkEnd → LinkEnd) (k : Link) : Link :=
  if toKeeper then { k with partner := f k.partner } else { k with keeper := f k.keeper }

/-- The Keeper offers flits on a link. -/
def State.keeperSends (l now count kind : Nat) (s : State) : State := s.modLink l fun k => { k with keeper := k.keeper.send now count kind }

/-! ## What a partner die holds -/

/-- The REGIONS sections fill both tables of each declared port (R407). -/
def State.applyRegions (s : State) : State :=
  let table (p : Nat) : Sparse Bytes :=
    let b := s.sect 0x0F p
    (List.range (u16 b 0)).foldl (fun t i => tset noDescriptor t i (slice b (8 + 16 * i) 16)) []
  (List.range 5).foldl
    (fun s p => if s.portDeclared p then s.modPort p fun q => { q with live := table p, shadow := table p } else s) s

/-- The Relay's sections take effect (step 2 of Table 4.5). -/
def State.applyRelay (s : State) : State :=
  (((s.applyNet.applyPacer 0).applyRegions).resetLanes).modWdn fun w => { w with custom := [] }

/-- A bucket takes the lower of its CEIL and the LEVEL recorded at switch-off (R680). -/
def State.restoreLevels (die : Nat) (s : State) : State :=
  let go (s : State) (r : Bytes) : State :=
    let n := bkNum r
    match tfind s.pwr.recorded (1024 * die + n) with
    | some v => let k := s.bucket die n; s.setBucket die n { k with level := min k.ceil v }
    | none => s
  ((s.bucketRecs die).foldl go s).modPwr fun p => { p with recorded := p.recorded.filter fun e => e.1 / 1024 ≠ die }

/-- A Bank's sections take effect on a die that started anew; what the Keeper holds of its compartments stays (R36, R616, R680). -/
def State.reapplyBank (b : Nat) (s : State) : State :=
  let us := u16 (s.bankBody b) 2
  ((s.modBank b fun _ => { heatUs := us, heatWas := us, lastHeat := s.now, lastSample := s.now }).applyPacer (1 + b)).resyncBank b

/-- The Relay is reset: its pool, tables, queues and port states are lost, and every platform is held (R36, R501). -/
def State.relayLost (s : State) : State :=
  let keep (r : Recovery) : Bool := r.ticket.isSome
  let s := s.modWdn fun w =>
    { w with ports := [], pool := [], committed := [], runners := [], queue := w.queue.filter keep,
             running := w.running.filter keep }
  let s := ({ s with net := { keeperIn := s.net.keeperIn } }).resetLanes.orderWaits
  let go (s : State) (p : Nat) : State :=
    let s := match (s.plat p).releaseCmd with
      | some c => s.respondRef { port := c.1, session := c.2.1, tag := c.2.2 } cSuperseded (zeros 4)
      | none => s
    s.modPlat p fun q =>
      { q with released := false, pages := 0, releaseAt := none, releaseCmd := none, state := if q.state = 6 then 8 else q.state }
  s.bootPlats.foldl go s

/-- Every declared Warden port enters HOLD when the order reaches the Relay; Warden R runs its HOLD procedure (R375, Table 11.4). -/
def State.holdPorts (s : State) : State :=
  let t := s.relayEdge
  let s := (List.range 4).foldl (fun s p => if s.portDeclared p then s.enterHold p t else s) s
  if s.portDeclared 4 then s.modPort 4 fun q => { q with holdDue := true } else s

/-- A Relay that started anew has its sections again: every port returns to HOLD and every platform is measured again (R36, R352,
R353). -/
def State.relayBack (s : State) : State :=
  let s := s.holdPorts
  let go (s : State) (p : Nat) : State :=
    if s.flc.closed then s.remeasure p 3
    else if (s.plat p).measuring = 0 ∧ s.boot.stage < 8 then s
    else (s.remeasure p 1).modPlat p fun q => { q with state := if s.pgoodMet p then 1 else 2 }
  s.bootPlats.foldl go s

/-- An image's final verdict is READ, and no recovery follows: the Relay is held (R352). -/
def State.readFinal (p i : Nat) (s : State) : State :=
  if (s.image p i).final then s
  else (s.modImage p i fun _ => { verdict := some 4, final := true }).event 2 0 0x0601 (i + 256 * p) 4

/-- Every image of every platform gets READ (R352). -/
def State.readEverything (s : State) : State :=
  let go (s : State) (p : Nat) : State :=
    let s := s.modPlat p fun q => { q with measuring := 1 }
    ((List.range (s.imageCount p)).foldl (fun s i => s.readFinal p i) s).settlePlat p
  s.bootPlats.foldl go s

/-- The Relay is held for the boot session (R35, R67, R352, R359). -/
def State.relayHeld (s : State) : State :=
  let s := s.relayLost
  if s.flc.closed then
    s.bootPlats.foldl (fun s p => s.modPlat p fun q => { q with state := 7, eligible := false, measuring := 0 }) s
  else
    let s := s.bootPlats.foldl (fun s p => s.modPlat p fun q => { q with images := [] }) s
    if s.boot.stage < 8 then s else s.readEverything

/-! ## Loss, relinks and holds -/

/-- Link 0 leaves SESSION: reviews resolve DENY, and a running recovery is marked (R33, R420, R469). -/
def State.relayGone (s : State) : State :=
  s.denyReviews.modWdn fun w => { w with running := w.running.map fun r => { r with lost := true } }

/-- The link stays DOWN and its partner die is held in reset; `slot` is that of the record (R35, R67, R145, R282). -/
def State.holdDie (l slot : Nat) (s : State) : State :=
  let k := s.link l
  let s := s.setLink l { state := .down, attempts := k.attempts, losses := k.losses, tagFail := k.tagFail, retx := k.retx,
                         everSession := k.everSession }
  let s := ((s.emptySlot (113 + l)).event slot 0 0x0405 l 1).settleLost l 1
  if l = 0 then s.relayHeld else s.resyncBank (l - 1)

/-- The next relink attempt of the present loss, or the hold after the third (R35). -/
def State.nextAttempt (l : Nat) (s : State) : State :=
  if 3 ≤ (s.link l).attempts then s.holdDie l 2
  else
    let s := s.modLink l fun k =>
      { k with state := .train, attempts := k.attempts + 1, deadline := some (s.now + 12000), attemptEnd := some (s.now + 60000) }
    s.event 2 0 0x0404 l 2 (s.link l).attempts

/-- A link becomes LOST: both keys read zero, its slot is emptied and the relink begins. A training that fails in step 8 ends the
application instead (R32, R35, R38, R282, R344). -/
def State.loseLink (l : Nat) (s : State) : State :=
  let k := s.link l
  if k.state ∉ [.train, .pair, .session] then s
  else
    let first := k.attempts = 0
    let s := s.setLink l
      { k with state := .lost, losses := if first then satInc 65535 k.losses else k.losses, keeper := {}, partner := {}, nonce := [],
               checkDue := none, deadline := none, attemptEnd := none, nonceWait := false, keyx := false, aligned := false,
               mode := if k.state = .session then 1 else k.mode }
    let s := (s.emptySlot (113 + l)).event 2 0 0x0401 l 5
    let s := if l = 0 ∧ k.state = .session then s.relayGone else s
    if s.boot.phase = 1 ∧ k.state = .train ∧ k.mode = 0 then s else s.nextAttempt l

/-- The partner die is reset and re-initialised: a further attempt for the same loss (R36). -/
def State.reinit (l : Nat) (s : State) : State :=
  let k := s.link l
  let s := s.setLink l
    { k with state := .lost, keeper := {}, partner := {}, nonce := [], checkDue := none, deadline := none, attemptEnd := none,
             nonceWait := false, keyx := false, aligned := false, mode := 2, offset := none, checksFailed := 0, held := true, toApply := [] }
  let s := (s.emptySlot (113 + l)).event 2 0 0x0401 l 1
  let s := if l = 0 then s.relayGone.relayLost else s.resyncBank (l - 1)
  s.nextAttempt l

/-! ## The gun and its checks -/

/-- A GUN_CHECK leaves on the first free edge from `first` (R66). -/
def State.sendCheck (l first : Nat) (s : State) : State :=
  let go (k : Link) : Link :=
    let f := max first k.keeper.lineFree
    { k with keeper := k.keeper.send f 1 0, checkDue := some (f + 16 + 256), checkV := f + 16 + linkLatency l }
  s.modLink l go

/-- A single-die gun, followed by its check (R68). -/
def State.singleGun (l : Nat) (s : State) : State :=
  let first := max (s.now + 1) (s.link l).keeper.lineFree
  let s := s.modLink l fun k => { k with keeper := k.keeper.send first 1 0 }
  let s := s.advanceTo (first + 16 + linkLatency l)
  let s := (s.modLink l fun k => { k with offset := some 0 }).modClk fun c => { c with singleGuns := satInc 255 c.singleGuns }
  s.sendCheck l (s.now + 1)

/-- The cold-start gun on every declared link in PAIR, and the checks that follow it (R65, R66). -/
def State.fireGun (s : State) : State :=
  let start := s.now + 1
  let on := (List.range 5).filter fun l => bit s.boot.declared l && decide ((s.link l).state = .pair)
  let go (s : State) (l : Nat) : State :=
    s.modLink l fun k => { k with keeper := k.keeper.send (if l = 0 then start + 2 else start) 1 0, offset := some 0 }
  let s := ((on.foldl go s).setStage 0x07).advanceTo (start + 32)
  let s := (s.modClk fun c => { c with gunDone := true, gun := s.now }).modBoot fun b => { b with phase := 3 }
  on.foldl (fun s l => s.sendCheck l (s.now + 1)) s.beginCommit

/-! ## Session keys (R281) -/

/-- The key exchange of a link begins: N is drawn, the link key derived into its slot and the two KEYX flits sent. Without an open Heart
note it cannot run, and while the DRBG cannot deliver it waits (R270, R281, R326). -/
def State.startKeyx (l : Nat) (s : State) : State :=
  if !s.slotValid 127 then s.loseLink l
  else if !s.drbgReady then s.modLink l fun k => { k with nonceWait := true }
  else
    let (n, s) := s.generate 32
    let s := s.derive 127 (113 + l) (sysAttr 16 1 0 0 32) 32 "TXI filong" (le 1 l ++ n) id
    ((s.keeperSends l s.now 1 1).keeperSends l s.now 1 2).modLink l fun k => { k with keyx := true, nonceWait := false }

/-- A Bank that comes back learns whether the Red flag is in force (R249, R251). -/
def State.syncLockdown (b : Nat) (s : State) : State :=
  if s.redFlag ∧ !(s.bank b).lockdown then s.applyLockdown b (s.now + 33)
  else if !s.redFlag ∧ (s.bank b).lockdown then s.applyLift b
  else s

/-- The acknowledgement of the second KEYX is presented: both ends install the key and the link enters SESSION (R281). -/
def State.enterSession (l : Nat) (s : State) : State :=
  let k := s.link l
  let key := s.slotKey (113 + l)
  let s := s.setLink l
    { k with state := .session, keeper := { key := key }, partner := { key := key }, everSession := true, keyx := false, nonce := [],
             attempts := if k.mode = 1 then k.attempts else 0, attemptEnd := none, deadline := none, nonceWait := false }
  let s := s.event 2 0 0x0401 l 4
  let s := if l = 0 then s else s.applyWatch (l - 1) s.now (s.pwr.state = .watch)
  if k.mode = 1 then s.sendCheck l (s.now + 1)
  else if k.mode = 0 then s
  else
    let s := s.settleLost l 1
    if l = 0 then s else s.syncLockdown (l - 1)

/-- The counters agree after a relink: the partner resumes with its state intact (R34, R36, R145). -/
def State.resumePartner (l : Nat) (s : State) : State :=
  let s := (s.modLink l fun k => { k with attempts := 0 }).settleLost l 1
  if l = 0 then
    match s.wdn.running with
    | some r =>
      if r.lost ∧ r.ticket.isNone then s.modWdn fun w => { w with running := none, queue := { r with lost := false, cut := false } :: w.queue }
      else s
    | none => s
  else (s.bankDeliver (l - 1)).syncLockdown (l - 1)

/-- A check passes or fails (R36, R66, R67). -/
def State.checkEnds (l counter : Nat) (ok : Bool) (s : State) : State :=
  let s := s.event 1 0 0x0402 l (if ok then 1 else 2) counter
  let s := s.modLink l fun k => { k with checkDue := none, aligned := ok, checksFailed := if ok then k.checksFailed else k.checksFailed + 1 }
  let k := s.link l
  if ok then
    if k.mode = 1 then s.resumePartner l
    else if k.mode = 0 then (if s.boot.phase = 4 then s.startKeyx l else s)
    else s.startKeyx l
  else if k.mode = 1 then s.reinit l
  else if 3 ≤ k.checksFailed then s.holdDie l 1
  else s.singleGun l

/-- The partner's answer (R66): on or after its terminal edge it comes too late. -/
def State.checkAnswer (l counter : Nat) (s : State) : State :=
  match (s.link l).checkDue with
  | none => s
  | some t => if t ≤ s.now then (s.checkEnds l counter false).eventLate 1 0 0x0402 l 2 counter else s.checkEnds l counter (counter = (s.link l).checkV)

/-! ## Application of the sections (R174) -/

/-- The Formula under application, else the applied one. -/
def State.formulaInUse (s : State) : Formula := (s.frm.candidate.or s.frm.applied).getD {}

/-- Directory indices of the sections addressed to a link's partner, in the order of Table 4.5. -/
def Formula.sectionsFor (l : Nat) (f : Formula) : List Nat :=
  let pick (type : Nat) (inst : Nat → Bool) : List Nat :=
    (List.range f.sections.length).filter fun i => match f.sections[i]? with | some x => x.type = type && inst x.inst | none => false
  let all (_ : Nat) : Bool := true
  let ports := (List.range 5).flatMap fun p => pick 3 (fun n => n == p)
  if l = 0 then pick 2 all ++ ports ++ pick 4 all ++ pick 5 all ++ pick 6 all ++ pick 0xE (· == 0) ++ pick 0xF all ++ pick 0x10 all
  else pick 7 (· == l - 1) ++ pick 8 (· == l - 1) ++ pick 0xE (· == l)

/-- Flits of a section's message: a 4-byte header before its bytes (R24). -/
def Formula.sectionFlits (n : Nat) (f : Formula) : Nat := ceilDiv (4 + ((f.sections[n]?).map fun x => x.body.length).getD 0) 16

/-- The next section of a link is sent. -/
def State.sendSection (l : Nat) (s : State) : State :=
  match (s.link l).toApply with
  | [] => s
  | n :: _ => s.keeperSends l s.now (s.formulaInUse.sectionFlits n) 0

/-- The sections of a link begin to be sent. -/
def State.startSections (l : Nat) (s : State) : State :=
  (s.modLink l fun k => { k with toApply := s.formulaInUse.sectionsFor l }).sendSection l

/-- The measured rail of a Warden port does not match VIO (step 35 of Table 4.4): channel 1 + p of the Relay, within 5 %. -/
def State.vioFails (n : Nat) (s : State) : Bool :=
  match s.formulaInUse.sections[n]? with
  | none => false
  | some x =>
    let r := tget ({} : Reading) s.pwr.readings (16 + 1 + x.inst)
    let mv := r.value
    x.type = 3 && r.presented && (if byteAt x.body 0 = 0 then mv < 1710 || 1890 < mv else mv < 3135 || 3465 < mv)

/-- Offset of a section of the Formula under application. -/
def State.sectionOffset (n : Nat) (s : State) : Nat :=
  ((directory (s.slotBytes (if s.frm.triedOther then s.stagingSlot else s.frm.active)))[n]?.map DirEntry.off).getD 0

/-- A re-initialised or switched-on die has all its sections: they take effect, and its single-die gun follows (R36, R680). -/
def State.dieApplied (l : Nat) (s : State) : State :=
  let on := (s.link l).mode = 3
  let s := if l = 0 then s.applyRelay else s.reapplyBank (l - 1)
  let s := if on then s.restoreLevels l else s
  let s := if l = 0 then s.relayBack else s
  s.singleGun l

/-- A partner acknowledges a section (R174): the next is sent; the last ends its die's step. -/
def State.sectionAcked (l n : Nat) (s : State) : State :=
  let k := s.link l
  if k.state ≠ .pair ∨ k.toApply.head? ≠ some n then s
  else if k.mode = 0 ∧ s.vioFails n then s.failApplication 0x0401 (s.sectionOffset n)
  else
    let s := s.modLink l fun k => { k with toApply := k.toApply.drop 1 }
    if !(s.link l).toApply.isEmpty then s.sendSection l
    else if k.mode = 0 then
      let s := s.modBoot fun b => { b with applying := b.applying.drop 1 }
      match s.boot.applying with
      | next :: _ => if (s.link next).state = .pair then s.startSections next else s
      | [] => s
    else s.dieApplied l

/-! ## The seal (R176) -/

/-- The domains that come on in step 9 (R675). -/
def State.domainsAtSeal (s : State) : State :=
  let on (n : Nat) (v : Bool) (s : State) : State := if v then s.setDomain n { condition := .on } else s
  let s := (List.range 5).foldl (fun s p => on (dWarden p) (s.portDeclared p) s) s
  let s := (List.range 4).foldl (fun s b => on (dBank b) (s.bankDeclared b) s) s
  let copies := s.bootPlats.any fun p => (List.range (s.imageCount p)).any fun i => iPolicy (s.imageRec p i) == 1
  on (dLane 0) copies (on dRelayNet (s.macOn 0 || s.macOn 1) s)

/-- The rates that SVC_BAUD codes (R119). -/
def svcRates : List Nat := [115200, 230400, 460800, 921600, 1000000, 1500000, 2000000, 3000000]

/-- The open Heart note of the seal: none from a Base note that is not VALID (R268, R270). -/
def State.openHeart (s : State) : State :=
  if s.vlt.state ≠ 0x3C ∨ s.vlt.dqSeen then s.emptySlot 127
  else s.fillSlot 127 (sysAttr 4 1 0 4 48) 0
    (acc (xorBytes s.vlt.noteA s.vlt.noteB) (ascii "TXI heart open") (s.formulaDigest ++ sized 48 s.flc.ma) 48)

/-- CDI_STW, when the Steward verdict is PASS (R268, R275). -/
def State.stewardCdi (s : State) : State :=
  if s.boot.stwVerdict ≠ 0 then s
  else s.derive 125 124 (sysAttr 4 1 0 4 48 4) 48 "TXI dice stw" (sized 48 s.boot.stwDigest ++ le 4 s.boot.stwVersion ++ s.formulaDigest) id

/-- The seal, on the edge after the last section is acknowledged: the Formula is applied, the fallback stands, and the slots of the seal
are filled (R151, R176, R268). -/
def State.sealFormula (f : Formula) (s : State) : State :=
  let s := s.advanceTo (s.now + 1)
  let back := s.frm.triedOther
  let s := s.modFrm fun q =>
    { q with applied := some f, candidate := none, isSealed := true, fallback := back, active := if back then 1 - q.active else q.active }
  let s := if back then s.event 2 0 0x000B s.frm.active else s
  let sys := s.sect 1 0
  let s := (s.modSvc fun v => { v with baud := svcRates.getD (byteAt sys 0) 115200 }).setSwirl (byteAt sys 2)
  let s := s.applyRelay.domainsAtSeal
  let s := (List.range 4).foldl (fun s b => if s.bankDeclared b then s.applyBank b else s) s
  s.stewardCdi.openHeart

/-! ## The cold start's steps on the links -/

/-- Declared links on which a test holds. -/
def State.declaredLinks (s : State) : List Nat := (List.range 5).filter fun l => bit s.boot.declared l

/-- The step of the cold start that is complete gives way to the next (R334, R335). -/
def State.coldNext : Nat → State → State
  | 0, s => s
  | n + 1, s =>
    let ls := s.declaredLinks
    let st (l : Nat) : LinkState := (s.link l).state
    match s.boot.phase with
    | 1 =>
      if ls.any fun l => st l = .train then s
      else if ls.any fun l => st l ≠ .pair then (s.failApplication 0x0402 0).coldNext n
      else
        let s := (s.applyKeeper s.formulaInUse).modBoot fun b => { b with phase := 2, applying := ls }
        ((s.setStage 0x06).startSections 0).coldNext n
    | 2 =>
      if ls.any fun l => st l = .down then (s.failApplication 0x0402 0).coldNext n
      else if s.boot.applying.isEmpty then ((s.sealFormula s.formulaInUse).fireGun).coldNext n
      else s
    | 3 =>
      if ls.all fun l => (s.link l).aligned || st l = .down then
        let s := s.modBoot fun b => { b with phase := 4 }
        ((ls.filter fun l => (s.link l).aligned).foldl (fun s l => s.startKeyx l) s).coldNext n
      else s
    | 4 => if s.boot.stage = 0x07 ∧ ls.all fun l => st l = .session || st l = .down then s.modBoot fun b => { b with portsDue := true } else s
    | _ => s

/-- What a link row leads to in the cold start. -/
def State.coldStep (s : State) : State := s.coldNext 8

/-! ## Pairing (R30) -/

/-- What follows the entry into PAIR: the step that the link was in (R35, R36, R680). -/
def State.afterPair (l : Nat) (s : State) : State :=
  let k := s.link l
  match k.mode with
  | 0 =>
    if s.boot.phase = 2 then (if s.boot.applying.head? = some l then (if k.toApply.isEmpty then s.startSections l else s.sendSection l) else s)
    else if 3 ≤ s.boot.phase then (if k.offset.isSome then s.sendCheck l (s.now + 1) else s.singleGun l)
    else s
  | 1 => s.startKeyx l
  | _ => s.startSections l

/-- The link enters PAIR: N_P is drawn and both ends form the pairing traffic key; it waits while the DRBG cannot deliver (R30). -/
def State.enterPair (l : Nat) (s : State) : State :=
  if !s.drbgReady then s.modLink l fun k => { k with nonceWait := true, deadline := none }
  else
    let (n, s) := s.generate 32
    if n = zeros 32 then s.loseLink l
    else
      let pair := fuseBytes s.fus.latchA (0x10 + 8 * l) 8
      let key := aes pair (n.take 16) ++ aes pair (n.drop 16)
      let s := s.modLink l fun k =>
        { k with state := .pair, nonce := n, keeper := { key := key }, partner := { key := key }, deadline := none, nonceWait := false,
                 attemptEnd := if k.mode = 1 then k.attemptEnd else none, held := false, dark := false,
                 offset := if k.dark then none else k.offset }
      (s.event 2 0 0x0401 l 3).afterPair l

/-- LINK_TRAIN_DONE: the lanes are deskewed, or what waited for the DRBG is tried again (R30, R32). -/
def execLinkTrainDone (link : Nat) (s : State) : Out :=
  onObject (link < 5) (
    let k := s.link link
    let late := match k.deadline with | some t => decide (t ≤ s.now) | none => false
    if k.state = .train then
      if late then ((s.loseLink link).eventLate 2 0 0x0401 link 3).coldStep else (s.enterPair link).coldStep
    else if k.state = .pair ∧ k.nonceWait then (s.startKeyx link).coldStep
    else s)

/-- TRAIN_TIMEOUT (R32). -/
def execTrainTimeout (link : Nat) (s : State) : Out :=
  onObject (link < 5) (match (s.link link).state, (s.link link).deadline with
    | .train, some t => ((s.advanceTo t).loseLink link).coldStep
    | _, _ => s)

/-- RELINK_ATTEMPT_TIMEOUT (R35). -/
def execRelinkAttemptTimeout (link : Nat) (s : State) : Out :=
  onObject (link < 5) (match (s.link link).attemptEnd with
    | some t => ((s.advanceTo t).loseLink link).coldStep
    | none => s)

/-- CADENCE_LOSS: the partner's gates, selects and RGMII outputs go off, and its counter stands (R37). -/
def execCadenceLoss (link : Nat) (s : State) : Out :=
  onObject (link < 5) (
    let s := s.modLink link fun k => { k with dark := true }
    if link = 0 then s
    else
      let ended := (s.requests (link - 1)).filter fun x => x.2.start.isSome
      ended.foldl (fun s x => s.modComp x.1 fun c => { c with req := none }) s)

/-- GUN_CHECK_RESULT (R66). -/
def execGunCheckResult (link counter : Nat) (s : State) : Out :=
  onObject (link < 5) ((s.checkAnswer link counter).coldStep)

/-- GUN_CHECK_TIMEOUT (R66). -/
def execGunCheckTimeout (link : Nat) (s : State) : Out :=
  onObject (link < 5) (match (s.link link).checkDue with
    | some t => ((s.advanceTo t).checkEnds link 0 false).coldStep
    | none => s)

/-! ## Flits received -/

/-- The types that a link's state carries (R28). -/
def stateCarries (st : LinkState) (type : Nat) : Bool :=
  match st with
  | .pair => type ∈ [0, 1, 2, 3, 4, 5, 7, 8, 9]
  | .session => type ∈ [0, 1, 2, 3, 4, 5, 9, 0xA]
  | _ => false

/-- The GCM nonce of a flit (R23). -/
def flitNonce (l : Nat) (toKeeper : Bool) (count : Nat) : Bytes := be 12 (l % 16 * 2 ^ 92 + b2n toKeeper * 2 ^ 91 + count % 2 ^ 64)

/-- Bits [31:0] of a flit (Table 1.2). -/
def flitHead (f : Flit) : Bytes := le 4 (f.reserved % 16 + 16 * (f.ack % 4096) + 65536 * (f.seq % 4096) + 268435456 * (f.type % 16))

/-- TAG of a flit under a key (Table 1.2). -/
def flitTag (key : Bytes) (l : Nat) (toKeeper : Bool) (count : Nat) (f : Flit) : Bytes :=
  ((gcmSeal key (flitNonce l toKeeper count) (flitHead f) (sized 16 f.payload)).2).take 12

/-- A flit discarded by its type or its tag: the third in a row loses the link (R28, R32). -/
def State.tagFails (l : Nat) (toKeeper : Bool) (s : State) : State :=
  let s := s.modLink l fun k => k.modSender (!toKeeper) fun e => { e with tagRun := e.tagRun + 1 }
  let s := if toKeeper then s.modLink l fun k => { k with tagFail := satInc 65535 k.tagFail } else s
  let s := s.event 2 0 0x0403 l
  if 3 ≤ ((s.link l).sender (!toKeeper)).tagRun then s.loseLink l else s

/-- The ack timer of the oldest unacknowledged flit ends: the flits are sent again, or the fourth time the link is lost (R32). -/
def State.ackExpires (l : Nat) (toKeeper : Bool) (s : State) : State :=
  match ((s.link l).sender toKeeper).unacked with
  | [] => s
  | f :: rest =>
    if 3 ≤ f.timeouts then s.loseLink l
    else
      let s := s.modLink l fun k => k.modSender toKeeper (LinkEnd.retransmit s.now)
      if toKeeper then s else s.modLink l fun k => { k with retx := satAdd 65535 k.retx (rest.length + 1) }

/-- The ACK field of an accepted flit is taken by the end that received it; on a flit's terminal edge the expiry comes first
(R31, R39). -/
def State.takeAck (l : Nat) (toKeeper : Bool) (ack : Nat) (s : State) : State :=
  let mine (s : State) : LinkEnd := (s.link l).sender (!toKeeper)
  let late := match (mine s).unacked with | f :: _ => decide (f.deadline ≤ s.now) && ackCovers ack f.seq | [] => false
  let s := if late then (s.ackExpires l (!toKeeper)).eventLate 2 0 0x0401 l else s
  let second := (mine s).unacked.any fun f => f.kind = 2 ∧ ackCovers ack f.seq
  let s := s.modLink l fun k => k.modSender (!toKeeper) (LinkEnd.acked s.now ack)
  if toKeeper ∧ second ∧ (s.link l).keyx then s.enterSession l else s

/-- What an accepted flit brings to the Keeper (R66, R174). -/
def State.toKeeper (l type : Nat) (m : Message) (s : State) : State :=
  match m with
  | .sectionAck n => s.sectionAcked l n
  | .gunCheck v => if type = 9 then s.checkAnswer l v else s
  | _ => s

/-- What an accepted flit brings to a partner die (R38, R65, R243, R249, R251, R614). -/
def State.toPartner (l type : Nat) (m : Message) (s : State) : State :=
  if type = 0xA then
    let s := s.modLink l fun k => { k with partner := { k.partner with key := [] } }
    if l = 0 then s else s.applyLockdown (l - 1) s.now
  else match m with
  | .gun g => if type = 8 then s.modLink l fun k => { k with offset := some ((g : Int) - s.now) } else s
  | .lockdown => if l = 0 then s.denyReviews else s.applyLockdown (l - 1) s.now
  | .lift => if l = 0 then s else s.applyLift (l - 1)
  | .actOpen c => if l = 1 + c / 256 ∧ s.compPresent c then s.applyOpen c none s.now (baton s.now (compSlot c)) else s
  | .actRelock c => if l = 1 + c / 256 ∧ s.compPresent c then s.applyRelock c none s.now (baton s.now (compSlot c)) else s
  | _ => s

/-- A flit is presented (R28, R31, R32, R40). -/
def State.flitArrives (l : Nat) (toKeeper : Bool) (f : Flit) (m : Message) (s : State) : State :=
  let k := s.link l
  let rx := k.sender (!toKeeper)
  if k.state ∉ [.pair, .session] then s
  else if !stateCarries k.state f.type then s.tagFails l toKeeper
  else if f.seq % 4096 ≠ rx.accepted % 4096 ∨ k.dark ∧ !toKeeper then s
  else if f.tag ≠ flitTag rx.key l toKeeper rx.accepted f ∨ rx.key = [] then s.tagFails l toKeeper
  else
    let n := rx.accepted + 1
    let s := s.modLink l fun k => k.modSender (!toKeeper) fun e => { e with accepted := n, tagRun := 0 }
    let s := s.modLink l fun k => k.modSender toKeeper fun e => { e with sent := max e.sent n }
    let s := if f.type = 0 then s else s.takeAck l toKeeper f.ack
    if (s.link l).state ∉ [.pair, .session] then s
    else if toKeeper then s.toKeeper l f.type m
    else s.toPartner l f.type m

/-- FLIT_RECEIVED. -/
def execFlitReceived (link : Nat) (toKeeper : Bool) (flit : Flit) (message : Message) (s : State) : Out :=
  onObject (link < 5) ((s.flitArrives link toKeeper flit message).coldStep)

/-- ACK_TIMER_EXPIRY (R32). -/
def execAckTimerExpiry (link : Nat) (toKeeper : Bool) (s : State) : Out :=
  onObject (link < 5) (match ((s.link link).sender toKeeper).unacked with
    | f :: _ => ((s.advanceTo f.deadline).ackExpires link toKeeper).coldStep
    | [] => s)

/-! ## Registers and commands (sections 7 and 8 of chapter 1, sections 11 and 12 of chapter 2) -/

/-- The STATE code of a link. -/
def LinkState.code : LinkState → Nat
  | .absent => 0 | .down => 1 | .train => 2 | .pair => 3 | .session => 4 | .lost => 5

/-- A link that the part lacks is ABSENT. -/
def State.linkState (l : Nat) (s : State) : LinkState := if l ≠ 0 ∧ s.part.banks < l then .absent else (s.link l).state

/-- KPR.FIL_STATE[l] and KPR.FIL_ERR[l]. -/
def State.filState (l : Nat) (s : State) : Nat :=
  if s.linkState l = .absent then 0 else (s.linkState l).code + 16 * ((s.link l).attempts % 4) + 65536 * (s.link l).losses
def State.filErr (l : Nat) (s : State) : Nat := if s.linkState l = .absent then 0 else (s.link l).tagFail + 65536 * (s.link l).retx

/-- KPR.TOPOLOGY. -/
def State.topology (s : State) : Nat :=
  let declared := ((List.range 4).filter fun b => s.bankDeclared b).length
  s.part.banks + 16 * declared + 256 * maskOf 4 (fun b => s.inSession (1 + b)) + 4096 * (s.part.keeperRev % 256)
    + 1048576 * (s.part.relayRev % 256)

/-- KPR.TK_STAT. -/
def State.tkStat (s : State) : Nat :=
  b2n s.clk.gunDone + 2 * maskOf 5 (fun l => (s.link l).aligned) + 256 * s.clk.singleGuns + 65536 * b2n s.clk.clkFaultPrev

/-- SYS.GET_TOPOLOGY. -/
def execSysGetTopology (r : Req) (s : State) : Out :=
  .next (s.command 0x0010 r (fun o s => s.wellFormed o 0 [] fun s => s.done o (le 4 s.topology ++ le 4 s.frmSerial ++ le 4 s.bootCount)))

/-- SYS.GET_LINKS. -/
def execSysGetLinks (r : Req) (s : State) : Out :=
  .next (s.command 0x0011 r (fun o s => s.wellFormed o 0 [] fun s =>
    s.done o ((List.range 5).flatMap fun l => le 4 (s.filState l) ++ le 4 (s.filErr l))))

/-- SYS.GET_TIME. -/
def execSysGetTime (r : Req) (s : State) : Out :=
  .next (s.command 0x0020 r (fun o s => s.wellFormed o 0 [] fun s =>
    s.done o (le 8 (baton o.edge o.port.slot) ++ le 8 (if s.clk.gunDone then baton s.clk.gun 1 else 0) ++ le 4 s.bootCount ++ le 4 s.tkStat)))

/-- The result of a check of SYS.CHECK_ALIGN on a link in SESSION: the partner's counter as it stands (R66). -/
def State.alignResult (l : Nat) (s : State) : Nat :=
  if !s.inSession l then 0 else if (s.link l).offset = some 0 ∧ !(s.link l).dark then 1 else 2

/-- One check of SYS.CHECK_ALIGN: a mismatch starts the re-initialisation (R36). -/
def State.alignCheck (l : Nat) (s : State) : State :=
  match s.alignResult l with
  | 0 => s
  | 1 => (s.event 1 0 0x0402 l 1).modLink l fun k => { k with aligned := true }
  | _ => (s.event 1 0 0x0402 l 2).reinit l

/-- SYS.CHECK_ALIGN. -/
def execSysCheckAlign (r : Req) (s : State) : Out :=
  .next (s.command 0x0021 r (fun o s => s.wellFormed o 0 [] fun s =>
    let results := (List.range 5).flatMap fun l => le 1 (s.alignResult l)
    ((List.range 5).foldl (fun s l => s.alignCheck l) s).done o (results ++ zeros 3)))

end Sys2Proof.Machine
end

