-- ==== Sys2Proof/Machine/Power.lean ====
section
/-! DEFINITION. The power states, the domains with their claims and drains, the governor's settings and the monitors (chapter 19). -/

namespace Sys2Proof.Machine

/-- The owner runs on a payload of a fixed length without a fault; else MALFORMED at the fault (Table 3.4, step 9). -/
def State.formed (o : Outstanding) (len : Nat) (fault : Option Nat) (body : State → State) (s : State) : State :=
  if o.payload.length ≠ len then s.malformed o (min o.payload.length len)
  else match fault with
    | some off => s.malformed o off
    | none => body s

/-! ## Power states (section 1) -/

/-- The code of a state (Table 19.1), and the state of a code. -/
def PowerState.code : PowerState → Nat
  | .run => 0 | .dim => 1 | .watch => 2 | .vault => 3
def powerState (n : Nat) : PowerState := if n = 0 then .run else if n = 1 then .dim else if n = 2 then .watch else .vault

/-- A domain may be on in a state (Table 19.1, Table 19.3). -/
def PowerState.allows (st : PowerState) (n : Nat) : Bool :=
  match st with
  | .run => true
  | .dim => n ≠ dNose && n ≠ dSensor
  | .watch => n = dKcore || 13 ≤ n
  | .vault => false

/-- The domain is present (R673). -/
def State.domainPresent (n : Nat) (s : State) : Bool :=
  if n < 5 then true
  else if n = dRelayNet then s.macOn 0 || s.macOn 1
  else if n ≤ 10 then s.portDeclared (n - 6)
  else if n = 11 then s.laneRole 0 ≠ 0 || 1 ≤ infieldBanks (s.sect 0x04 0) 4
  else if n = 12 then s.laneRole 1 ≠ 0
  else if n ≤ 16 then s.bankDeclared (n - 13)
  else if n = 17 then s.frm.applied.isSome
  else if n ≤ 21 then s.bankDeclared (n - 18)
  else false

/-- A present domain stands in none of the listed conditions. -/
def State.someDomain (test : Nat → Condition → Bool) (s : State) : Bool :=
  (List.range 22).any fun n => s.domainPresent n && test n (s.domain n).condition

/-- A domain outside the target state is on, judged as it stood before the edge (R667, R694). -/
def State.outsideOn (target : PowerState) (s : State) : Bool :=
  s.someDomain fun n _ =>
    let c := s.conditionBefore n
    if target = .vault then n ≠ dKcore && decide (c ≠ .off) else !target.allows n && decide (c ≠ .off ∧ c ≠ .gated)

/-- A new state takes effect: on the Keeper now, on each Bank in SESSION when its message is applied (R668). -/
def State.enterPower (st : PowerState) (cause : Nat) (s : State) : State :=
  let s := s.modPwr fun p => { p with state := st, lastChange := s.now }
  let s := s.event 2 0 0x0C01 st.code cause
  s.banksInSession.foldl (fun s b => s.applyWatch b s.bankEdge (st = .watch)) s

/-- PWR.SET_STATE (R667, R668, R671, R694). -/
def execPwrSetState (r : Req) (s : State) : Out :=
  .next (s.command 0x1001 r (fun o s =>
    let target := powerState (byteAt o.payload 0)
    s.formed o 4 ((firstDetail [(decide (3 < byteAt o.payload 0), 0)]).or (firstNonZero o.payload 1 3)) fun s =>
    s.checks o [(!s.flc.closed, 0x0030), (s.pwr.vaultDue.isSome && !s.tookEffect 0x1001, 0x0011)] fun s =>
    s.order o [objPower] fun s =>
    s.checks o [(decide (target ≠ s.pwr.state) && s.outsideOn target, 0x0010)] fun s =>
      let s := s.fusePower.takesEffect o.port o.opcode [objPower]
      let s := if target = s.pwr.state then s
        else if target = .vault then s.sealBatch.modPwr fun p => { p with vaultDue := some (s.now + 2 ^ 20) }
        else s.enterPower target 0
      s.done o (le 8 (baton o.edge 2))))

/-- WAKEN_LOW: a wake order moves WATCH to DIM; elsewhere it is logged (R669, R695, R765). -/
def execWakenLow (s : State) : Out :=
  .next (
    let s := s.modPwr fun p => { p with wake := true }
    if !s.boot.started ∨ s.pwr.state = .vault then s
    else if (s.winner [objPower]).isSome then
      s.putRec { cycle := s.now, slot := 15, source := 1, code := 0x0501, superseded := true }
    else
      let s := s.event 15 1 0x0501
      if s.pwr.state = .watch then (s.takesEffect .pnl 0 [objPower]).enterPower .dim 1 else s)

/-! ## Domains (section 2) -/

/-- Slot and source index of a domain's block (R682, Table 2.2). -/
def domainSlot (n : Nat) : Nat × Nat :=
  if n = 1 then (3, 0) else if n ≤ 4 then (5, 0) else if n = 5 then (8, 0) else if n ≤ 9 then (6, n - 6) else if n = 10 then (7, 0)
  else if n ≤ 12 then (7, n - 10) else if n ≤ 16 then (n - 3, 1024) else (2, 0)

/-- The link whose partner die holds a domain; none for the Keeper's and for FILONG. -/
def domainLink (n : Nat) : Option Nat := if n < 5 ∨ 17 ≤ n then none else if n ≤ 12 then some 0 else some (n - 12)

/-- The apply edge of an order (R676). -/
def State.domainEdge (n : Nat) (s : State) : Nat := match domainLink n with | none => s.now | some 0 => s.relayEdge | some _ => s.bankEdge

/-- The order's work is done through its die's link. -/
def State.domainLinked (o : Outstanding) (n : Nat) (body : State → State) (s : State) : State :=
  match domainLink n with
  | none => body s
  | some l => s.viaLink o l body

/-- A switch is logged on edge `t`: the domain, and 0 OFF, 1 ON or 2 GATED (R682). -/
def State.logSwitch (n code t : Nat) (s : State) : State := s.logAt t (domainSlot n).1 (domainSlot n).2 0x0C02 n code

/-- A read of an image of the platform on a port is in progress. -/
def State.measuresOn (p : Nat) (s : State) : Bool :=
  match s.platOf p with
  | none => false
  | some q => (s.plat q).images.any fun x => x.2.limit.isSome

/-- A recovery runs on the port of its platform. -/
def State.recoversOn (p : Nat) (s : State) : Bool := match s.wdn.running with | some r => s.bootPort r.plat = p | none => false

/-- A Warden R job runs (R459): a recovery or an install; the updates end within their command. -/
def State.wardenRBusy (s : State) : Bool := s.wdn.running.isSome || s.wdn.install.isSome

/-- The claim on a domain (Table 19.5). -/
def State.claimHeld (n : Nat) (s : State) : Bool :=
  if n = dSteward then 0 < s.outCount .stw 0
  else if n = dCrypto then s.cryptoClaim
  else if n = dNose then s.noseClaim
  else if 6 ≤ n ∧ n ≤ 9 then
    (s.wport (n - 6)).wip || (s.powered n && (s.wport (n - 6)).holdDue) || s.measuresOn (n - 6) || s.recoversOn (n - 6)
  else if n = 10 then s.wdn.running.isSome
  else if n = 11 ∨ n = 12 then s.laneClaim (n - 11)
  else if 13 ≤ n ∧ n ≤ 16 then !(s.requests (n - 13)).isEmpty
  else false

/-- What a drain begins with in its owning chapter. -/
def State.drainBegins (n ticket : Nat) (s : State) : State :=
  if n = dCrypto then (s.cryptoDrain ticket).dropSeals
  else if n = dNose then s.noseDrains ticket
  else if n = 11 ∨ n = 12 then s.laneDrain (n - 11) (s.domainEdge n)
  else if 13 ≤ n ∧ n ≤ 16 then s.bankDrains (n - 13) ticket
  else s

/-- The Steward core stops: its TCM and the response ring's registers read as after reset (R678). -/
def State.stewardStops (s : State) : State :=
  let s := s.modCores fun c =>
    { c with tcmSteward := [], wdogStart := none, irqSteward := 0, steward := if c.steward = .held then .held else .inReset }
  s.modStw fun q => { q with ringBase := 0, ringSizeW := 0x800, ringWr := 0, ringRd := 0, rang := false }

/-- The Steward core runs from the reset vector of bank B, unless R52 or its verdict holds it (R676). -/
def State.stewardStarts (s : State) : State :=
  if s.boot.stwVerdict ≠ 0 ∨ s.cores.steward = .held then s
  else s.modCores fun c => { c with steward := .running, wdogStart := some s.now }

/-- A partner die's FILONG domain switches off: its bucket levels are recorded and its link goes DOWN (R680). -/
def State.filongOff (l : Nat) (s : State) : State :=
  let put (m : Sparse Int) (r : Bytes) : Sparse Int := tins m (1024 * l + bkNum r) (s.bucket l (bkNum r)).level
  let s := s.modPwr fun p => { p with recorded := (s.bucketRecs l).foldl put p.recorded }
  let k := s.link l
  let s := s.setLink l { losses := k.losses, tagFail := k.tagFail, retx := k.retx, everSession := k.everSession }
  let s := ((s.emptySlot (113 + l)).event 2 0 0x0401 l 1).settleLost l 1
  if l = 0 then s.relayGone.relayLost else s.resyncBank (l - 1)

/-- A FILONG domain switches on: its link trains (R680), and a Bank's governor settings are the defaults (R688). -/
def State.filongOn (l : Nat) (s : State) : State :=
  let s := s.modLink l fun k => { k with state := .train, mode := 3, attempts := 0, held := true, deadline := some (s.now + 12000) }
  let s := s.event 2 0 0x0401 l 2
  if l = 0 then s else s.modPwr fun p => { p with bankGov := tdel p.bankGov (l - 1) }

/-- What a domain loses when its rail or clock drops (R674, R678 to R680, R682). -/
def State.domainLoses (n : Nat) (s : State) : State :=
  if n = dSteward then s.stewardStops
  else if n = dNose then s.modNose fun x => { x with state := .off }
  else if n = dSensor then s.modNose fun x => { x with rings := [] }
  else if n = dRelayNet then s.netOff
  else if 6 ≤ n ∧ n ≤ 10 then
    let s := if n = 10 then s.modLog fun l => { l with store := { l.store with cut := l.store.writing.isSome } } else s
    s.modPort (n - 6) fun q =>
      { q with sfdp := [], ident := [], sfdpOk := false, sr1 := 0, sr2 := 0, sr3 := 0, wel := false, deepPd := false, armed := false,
               undecided := none, allowed := none, held := none, op := none, drove := [] }
  else if n = 11 ∨ n = 12 then { s with lanes := tdel s.lanes (n - 11) }
  else if 17 ≤ n then s.filongOff (n - 17)
  else s

/-- How a domain starts on its ready edge (R676, R658, R679). -/
def State.domainStarts (n : Nat) (s : State) : State :=
  if n = dSteward then s.stewardStarts
  else if n = dNose then
    s.modNose fun x => if x.scrubOwed then { x with state := .scrubbing, scrubEnd := s.now + 655360 } else { x with state := .empty }
  else if n = dSensor then s.modNose fun x => { x with rings := [] }
  else if n = dRelayNet then s.netBack
  else if 6 ≤ n ∧ n ≤ 10 then s.modPort (n - 6) fun q => { q with holdDue := true }
  else if 13 ≤ n ∧ n ≤ 16 then s.resyncBank (n - 13)
  else s

/-- Ready time (Table 19.4). -/
def readyTime (n : Nat) (gated : Bool) : Nat := if 17 ≤ n then 660000 else if gated then 2048 else if n ≤ 4 then 12000 else 30000

/-- The notice of a domain order: the Baton of its edge and whether the drain reached T. -/
def domainNotice (n t : Nat) (reachedT : Bool) : Bytes := le 8 (baton t (domainSlot n).1) ++ le 1 (b2n reachedT) ++ zeros 3

/-- OP ON: SWITCHING from the apply edge, or from an earlier drop still to come, until the ready edge (R676). -/
def State.domainOnOrder (o : Outstanding) (n : Nat) (s : State) : State :=
  let d := s.domain n
  let t := max (s.domainEdge n) (d.drop.getD 0)
  let (k, s) := s.ticketed o cPending []
  if d.condition = .switching then s.setDomain n { d with joined := d.joined ++ [k] }
  else
    let s := s.setDomain n { condition := .switching, ready := t + readyTime n (d.condition = .gated), ticket := some k }
    if 17 ≤ n then s.filongOn (n - 17) else s

/-- OP OFF or GATE: at once where no claim is held; else DRAIN with its ticket (R681, R692). Orders of ON that are overtaken end
SUPERSEDED. -/
def State.domainOffOrder (o : Outstanding) (n : Nat) (gate : Bool) (s : State) : State :=
  let t := s.domainEdge n
  let d := s.domain n
  let s := (d.ticket.toList ++ d.joined).foldl (fun s k => s.settleTicket k cSuperseded (le 1 o.port.index ++ zeros 1 ++ le 2 o.opcode)) s
  if s.claimHeld n then
    let (k, s) := s.ticketed o cDeferred []
    (s.setDomain n { condition := .drain, toGate := gate, timer := t + s.claimUs * 600, ticket := some k }).drainBegins n k
  else
    let s := s.setDomain n { condition := if gate then .gated else .off, drop := some (t + drainZ n) }
    let s := (s.domainLoses n).logSwitch n (if gate then 2 else 0) (t + drainZ n)
    s.done o (le 8 (baton (t + drainZ n) (domainSlot n).1))

/-- The domain stands in the target condition of an order already. -/
def targetMet (op : Nat) (c : Condition) : Bool := if op = 1 then c = .on else if op = 2 then c = .gated else c = .off

/-- A domain of the die that a FILONG domain powers is not OFF (R677). -/
def State.dieBusy (l : Nat) (s : State) : Bool := s.someDomain fun n c => domainLink n = some l && decide (c ≠ .off)

/-- The die's FILONG domain is not ON. -/
def State.filongDown (n : Nat) (s : State) : Bool := match domainLink n with | none => false | some l => !s.domainOn (dFilong l)

/-- The platform on the port of domain WARDENn is not held low (R677). -/
def State.platRuns (n : Nat) (s : State) : Bool :=
  decide (6 ≤ n ∧ n ≤ 9) && (match s.platOf (n - 6) with | some p => !s.heldLow p | none => false)

/-- A domain order once it is well formed (section 10): its checks, then the order. -/
def State.domainOrder (o : Outstanding) (n op : Nat) (s : State) : State :=
  let d := s.domain n
  s.checks o [(!s.flc.closed, 0x0030), (s.pwr.vaultDue.isSome && !s.tookEffect 0x1001, 0x0011), (!s.domainPresent n, 0x0001),
              (decide (n = dKcore ∨ op = 2 ∧ 17 ≤ n), 0x0003)] fun s =>
  s.order o [objDomain n] fun s =>
  if d.condition = .drain then s.busyDrain o (d.ticket.getD 0)
  else
    s.checks o (if op = 1 then [(!s.pwr.state.allows n, 0x0002), (s.filongDown n, 0x0007)]
      else [(s.platRuns n, 0x0004), (decide (n = 10 ∧ s.wdn.runners ≠ []), 0x0005), (decide (17 ≤ n) && s.dieBusy (n - 17), 0x0006)]) fun s =>
      let s := s.takesEffect o.port o.opcode [objDomain n]
      if targetMet op d.condition then s.done o []
      else s.domainLinked o n fun s => if op = 1 then s.domainOnOrder o n else s.domainOffOrder o n (op = 2)

/-- PWR.SET_DOMAIN (R676, R677, R681 to R683, R693). -/
def execPwrSetDomain (r : Req) (s : State) : Out :=
  .next (s.command 0x1002 r (fun o s =>
    let n := byteAt o.payload 0
    let op := byteAt o.payload 1
    s.formed o 4 ((firstDetail [(decide (21 < n), 0), (decide (2 < op), 1)]).or (firstNonZero o.payload 2 2)) fun s => s.domainOrder o n op))

/-- The ready edge: the domain is ON and starts, and its notices follow (R676). -/
def State.becomesOn (n : Nat) (s : State) : State :=
  let d := s.domain n
  let s := ((s.setDomain n { condition := .on }).domainStarts n).logSwitch n 1 s.now
  (d.ticket.toList ++ d.joined).foldl (fun s k => s.settleTicket k cOk (domainNotice n s.now false)) s

/-- A FILONG domain whose link ends held comes off again, and its orders end REFUSED_STATE 0x0008. -/
def State.filongFails (n : Nat) (s : State) : State :=
  let d := s.domain n
  let s := s.setDomain n {}
  (d.ticket.toList ++ d.joined).foldl (fun s k => s.settleTicket k cState (le 2 0x0008 ++ zeros 2)) s

/-- DOMAIN_READY: on the ready edge; a FILONG domain is ready when its link is in SESSION again (R676, R680). -/
def execDomainReady (domain : Nat) (s : State) : Out :=
  onObject (domain < 22) (
    let d := s.domain domain
    if d.condition ≠ .switching then s
    else if domain < 17 then (s.advanceTo d.ready).becomesOn domain
    else match (s.link (domain - 17)).state with
      | .session => s.becomesOn domain
      | .down => s.filongFails domain
      | _ => s)

/-! ## Claims and drains (section 3) -/

/-- On T of WARDENn the port's work stops (R684). -/
def State.wardenStops (p : Nat) (s : State) : State :=
  let s := (s.landOp p).modPort p fun q =>
    let q := if q.op.isSome ∨ q.undecided.isSome ∨ q.allowed.isSome ∨ q.held.isSome then q.abort else q
    { q with op := none, undecided := none, allowed := none, held := none, wel := false }
  let s := s.denyReview p 0x070B s.now false
  let s := match s.platOf p with
    | some q => if s.measuresOn p then s.readAll q else s
    | none => s
  let stop (r : Recovery) : Recovery := { r with stopped := if r.policy = 1 then 0x17 else 0x13 }
  if s.recoversOn p then s.modWdn fun w => { w with running := w.running.map stop } else s

/-- On T of STEWARD every STW command still outstanding completes ABORTED_POWER (R685). -/
def State.stewardAborts (s : State) : State :=
  let mine (j : Job) : Bool := match j.cmd with | some c => c.port = .stw | none => false
  let s := s.stopJobs mine cAbortedPower []
  (s.paths.outstanding.filter fun o => o.port = .stw).foldl (fun s o => s.respond o cAbortedPower []) s

/-- On T of WARDEN_R its recovery ends with GOLDEN_READ (R685). -/
def State.wardenRStops (s : State) : State := s.modWdn fun w => { w with running := w.running.map fun r => { r with stopped := 0x13 } }

/-- The claim timer of a domain in DRAIN ends (Table 19.5). -/
def State.claimEnds (n : Nat) (s : State) : State :=
  let d := s.domain n
  if d.condition ≠ .drain ∨ d.drop.isSome then s
  else if n = dCrypto then s.cryptoTimerEnds
  else if n = dNose then s.noseTimerEnds
  else if n = 11 ∨ n = 12 then s.laneTimerEnds (n - 11)
  else if 13 ≤ n ∧ n ≤ 16 then s.bankTimerEnds (n - 13)
  else
    let s := s.advanceTo d.timer
    let s := if n = dSteward then s.stewardAborts
      else if n = 10 then s.wardenRStops
      else if 6 ≤ n ∧ n ≤ 9 then s.wardenStops (n - 6)
      else s
    s.drainEnds n s.now true

/-- DOMAIN_CLAIM_RELEASE: the drain ends on the edge after the last release; a release on T comes after the expiry (R682, R692). -/
def execDomainClaimRelease (domain : Nat) (s : State) : Out :=
  onObject (domain < 22) (
    let d := s.domain domain
    if d.condition ≠ .drain ∨ d.drop.isSome ∨ s.claimHeld domain then s
    else if d.timer ≤ s.now then
      (s.claimEnds domain).eventLate (domainSlot domain).1 (domainSlot domain).2 0x0C02 domain 3
    else if domain = dNose then s.noseDrainEnd (s.now + 1) false
    else s.drainEnds domain (s.now + 1) false)

/-- DOMAIN_CLAIM_TIMEOUT: the terminal edge T (R681). -/
def execDomainClaimTimeout (domain : Nat) (s : State) : Out := onObject (domain < 22) (s.claimEnds domain)

/-- DOMAIN_RAIL_DROP: the rail or the clock of a drained domain drops, and the drain ticket's notice follows (R682). -/
def execDomainRailDrop (domain : Nat) (s : State) : Out :=
  onObject (domain < 22) (
    let d := s.domain domain
    match d.condition, d.drop with
    | .drain, some t =>
      let s := s.advanceTo t
      let s := s.setDomain domain { condition := if d.toGate then .gated else .off }
      let s := (s.domainLoses domain).logSwitch domain (if d.toGate then 2 else 0) t
      d.ticket.toList.foldl (fun s k => s.settleTicket k cOk (domainNotice domain t d.reachedT)) s
    | _, _ => s)

/-- On the edge after Heart closure each present domain takes its DOMAINS_ON value, as orders of rank KEEPER (R675). -/
def State.domainsAtClosure (s : State) : State :=
  let want := u32 (s.sect 0x0B 0) 0
  let o : Outstanding := { port := .kpr, session := 0, opcode := 0x1002, tag := 0, payload := [], bulk := [], edge := s.now,
                           deadline := s.now, progress := .begun }
  let go (s : State) (n : Nat) : State := if s.domainPresent n then s.domainOrder o n (b2n (bit want n)) else s
  (List.range 22).foldl (fun s n => if n = dKcore then s else go s n) s

/-! ## The governor (section 4) -/

/-- PWR.SET_GOVERNOR (R688). -/
def execPwrSetGovernor (r : Req) (s : State) : Out :=
  .next (s.command 0x1005 r (fun o s =>
    let b := o.payload
    let scope := byteAt b 0
    let degrees (v : Nat) : Int := if v ≤ 150 then (v : Int) else (v : Int) - 256
    let knee := degrees (byteAt b 2)
    let stop := degrees (byteAt b 3)
    let floor := u16 b 4
    let faults := [(decide (4 < scope), 0), (decide (byteAt b 1 ≠ 0), 1), (decide (knee < -40), 2),
                   (decide (stop < -40 ∨ stop ≤ knee), 3), (decide (32000 < floor ∨ scope = 0 ∧ floor ≠ 0), 4)]
    s.formed o 8 ((firstDetail faults).or (firstNonZero b 6 2)) fun s =>
      if scope = 0 then
        let g := s.pwr.keeperGov
        let s := s.modPwr fun p => { p with keeperGov := { knee := knee, stop := stop, floor := 0, since := s.now, was := (g.knee, g.stop, 0) } }
        s.done o (le 8 (baton s.now 2))
      else
        s.checks o [(!s.bankDeclared (scope - 1), 0x0001), (!s.inSession scope, 0x0008)] fun s =>
          let t := s.bankEdge
          let was := s.bankGovernor (scope - 1)
          let g : Governor := { knee := knee, stop := stop, floor := floor, since := t, was := was }
          let s := s.modPwr fun p => { p with bankGov := tins p.bankGov (scope - 1) g }
          s.done o (le 8 (baton t (9 + scope)))))

/-! ## Monitors (section 5) -/

/-- Channels of a die (Table 19.6). -/
def channels (die : Nat) : Nat := if die = 0 then 5 else if die = 1 then 8 else 4

/-- A monitor runs while its die's FILONG domain, or KCORE, is on and the Cadence runs. -/
def State.monitorRuns (die : Nat) (s : State) : Bool := s.clk.running && (if die = 0 then true else s.domainOn (dFilong (die - 1)))

/-- A rail lies within 5 % of one of the nominal voltages. -/
def nearOne (mv : Nat) (nominals : List Nat) : Bool := nominals.any fun n => 95 * n ≤ 100 * mv && 100 * mv ≤ 105 * n

/-- A reading stands outside its limits (R690); for a junction, `high` and `low` are whether it already did. -/
def State.overLimit (die c v : Nat) (high low : Bool) (s : State) : Bool × Bool :=
  if c = 0 then
    let t := signed 16 v
    (if high then 580 ≤ t else 600 < t, if low then t ≤ -160 else t < -180)
  else if die = 0 then
    if c = 1 then (decide (v < 760 ∨ 840 < v), false)
    else if c = 2 then (decide (v < 1710 ∨ 1890 < v), false)
    else if c = 3 then (!nearOne v [1800, 3300], false)
    else (false, false)
  else if die = 1 then
    if c ≤ 5 then
      let vio := byteAt (s.portBody (c - 1)) 0
      (!nearOne v (if !s.portDeclared (c - 1) then [1800, 3300] else if vio = 0 then [1800] else [3300]), false)
    else if c = 6 then (!nearOne v [1800, 2500, 3300], false)
    else (false, false)
  else if c = 1 then (decide (v < 10800 ∨ 13200 < v), false)
  else if c = 2 then
    let (_, _, floor) := s.bankGovernor (die - 2)
    (false, decide (v * u16 (s.bankBody (die - 2)) 10 < 100 * floor))
  else (false, false)

/-- Slot and source of a die's monitors. -/
def monitorSlot (die : Nat) : Nat × Nat := if die = 0 then (2, 0) else if die = 1 then (7, 0) else (8 + die, 1024)

/-- MONITOR_READING: a conversion ends on this edge; a limit crossed or cleared is logged once (R689, R690). -/
def execMonitorReading (die channel value : Nat) (s : State) : Out :=
  onObject (die < 6 ∧ channel < channels die) (
    if !s.monitorRuns die then s
    else
      let i := 16 * die + channel
      let old := tget ({} : Reading) s.pwr.readings i
      let v := value % 65536
      let (high, low) := s.overLimit die channel v old.high old.low
      let same := old.edge = s.now && old.presented
      let r : Reading := { value := v, edge := s.now, before := if same then old.before else old.value,
                           beforeEdge := if same then old.beforeEdge else old.edge, presented := true, high := high, low := low }
      let s := s.modPwr fun p => { p with readings := tins p.readings i r }
      let log (changed now : Bool) (s : State) : State :=
        if changed then s.event (monitorSlot die).1 (monitorSlot die).2 0x0C03 channel v (b2n now) else s
      log (low != old.low) low (log (high != old.high) high s))

/-! ## Registers -/

/-- A mask over the domains. -/
def State.domainMask (c : Condition) (s : State) : Nat := maskOf 22 fun n => decide ((s.domain n).condition = c)
def State.claimMask (s : State) : Nat := maskOf 22 fun n => s.claimHeld n
def State.drains (s : State) : Nat := ((List.range 22).filter fun n => s.draining n).length

/-- KPR.PWR_STAT. -/
def State.pwrStat (s : State) : Nat :=
  s.pwr.state.code + 4 * b2n s.pwr.vaultDue.isSome + 8 * b2n s.pwr.wake + 256 * s.drains + 65536 * s.claimUs

/-- A governor's register: KPR.GOV_KEEPER without a floor, BNK.GOV with it. -/
def govReg (g : Int × Int × Nat) : Nat := unsigned 8 g.1 + 256 * unsigned 8 g.2.1 + 65536 * g.2.2

/-- MON[c] of a die: the last reading and its age. -/
def State.monReg (die c : Nat) (s : State) : Nat :=
  let r := tget ({} : Reading) s.pwr.readings (16 * die + c)
  s.lastReading die c + 65536 * min 65535 ((s.now - (if r.edge = s.now then r.beforeEdge else r.edge)) / 64)

/-! ## Queries (section 10) -/

/-- PWR.GET_STATE. -/
def execPwrGetState (r : Req) (s : State) : Out :=
  .next (s.command 0x1000 r (fun o s => s.wellFormed o 0 [] fun s =>
    let flags := b2n s.pwr.vaultDue.isSome + 2 * b2n s.pwr.wake + 4 * b2n (decide (0 < s.drains))
    s.done o (le 1 s.pwr.state.code ++ le 1 flags ++ le 2 s.claimUs ++ le 8 (baton s.pwr.lastChange 2) ++ zeros 4)))

/-- PWR.GET_DOMAINS. -/
def execPwrGetDomains (r : Req) (s : State) : Out :=
  .next (s.command 0x1003 r (fun o s => s.wellFormed o 0 [] fun s =>
    s.done o (le 4 (maskOf 22 fun n => s.domainPresent n) ++ le 4 (s.domainMask .on) ++ le 4 (s.domainMask .switching)
      ++ le 4 (s.domainMask .gated) ++ le 4 (s.domainMask .drain) ++ le 4 s.claimMask ++ le 4 (maskOf 22 s.pwr.state.allows) ++ zeros 4)))

/-- PWR.GET_MONITORS. -/
def execPwrGetMonitors (r : Req) (s : State) : Out :=
  .next (s.command 0x1004 r (fun o s =>
    let die := byteAt o.payload 0
    s.formed o 4 ((firstDetail [(decide (5 < die), 0)]).or (firstNonZero o.payload 1 3)) fun s =>
    s.checks o [(decide (0 < die) && !s.domainPresent (16 + die), 0x0001), (decide (0 < die) && !s.inSession (die - 1), 0x0008)] fun s =>
      let k := tget ({} : Reading) s.pwr.readings (16 * die)
      let edge := if k.edge = s.now then k.beforeEdge else k.edge
      let value (c : Nat) : Bytes := if c < channels die then le 2 (s.lastReading die c) else zeros 2
      s.done o (le 1 die ++ zeros 1 ++ (List.range 8).flatMap value ++ zeros 2
        ++ le 4 (if 2 ≤ die then s.energyAvail (die - 2) else 0)
        ++ le 8 (if k.presented then baton edge (monitorSlot die).1 else 0))))

end Sys2Proof.Machine
end

