-- ==== Sys2Proof/Machine/Mend.lean ====
section
/-! DEFINITION. Recoveries, the updates of golden images and of Keeper firmware, and the RCV queries (sections 1 to 8, 14 and 15 of
chapter 12). -/

namespace Sys2Proof.Machine

/-! ## Warden R -/

/-- Every granule of a range of the recovery flash is allowed for a class by the Warden R descriptors (R429); none is while Warden R is
off. -/
def State.recoveryAllows (cls a n : Nat) (s : State) : Bool :=
  s.powered (dWarden 4) && (granules a (ceilDiv n 4096)).all fun g => decideAddr (s.wport 4).live 4 cls g == 1

/-- A runner is in force on some port: Warden R runs in lockstep (R453). -/
def State.lockstep (s : State) : Bool := s.wdn.runners.any Runner.inForce

/-! ## The recovery (sections 1 to 6) -/

/-- What a recovery ends with: its outcome, the entry's verdict, VERSION and DIGEST (Table 12.2). -/
structure Mended where
  outcome : Nat
  verdict : Nat := 4
  version : Nat := 0
  digest : Bytes := []

/-- The recovery that runs next: the earliest edge, then the lowest platform (R438). -/
def nextRecovery : List Recovery → Option Recovery
  | [] => none
  | r :: rest =>
    match nextRecovery rest with
    | none => some r
    | some x => if x.edge < r.edge ∨ (x.edge = r.edge ∧ x.plat < r.plat) then some x else some r

/-- The recovery record of a platform. -/
def State.modRcv (p : Nat) (f : PlatRcv → PlatRcv) (s : State) : State :=
  s.modWdn fun w => { w with rcv := tset {} w.rcv p (f (tget {} w.rcv p)) }

/-- RECOVERY_START: the next recovery starts once Warden R is free (R438, R442, R446, R450). -/
def execRecoveryStart (s : State) : Out :=
  .next (match nextRecovery s.wdn.queue with
    | none => s
    | some r =>
      if s.wardenRBusy ∨ s.log.store.writing.isSome ∨ !s.inSession 0 ∨ !s.domainOn (dWarden 4) ∨ s.lockstep ∨ s.restarting then s
      else
        let s := s.readDirectory
        let s := s.modWdn fun w => { w with queue := w.queue.erase r, running := some { r with start := s.now } }
        let s := s.modRcv r.plat fun k => { outcome := 1, image := r.image, attempts := satInc 65535 k.attempts }
        let s := if r.ticket.isNone then s.modPlat r.plat fun q => { q with state := 4 } else s
        if r.policy ≠ 1 then s
        else
          let s := if r.ticket.isNone then s
            else s.modWdn fun w => { w with runners := w.runners.filter fun x => x.plat ≠ r.plat }
          (s.setPhase (s.bootPort r.plat) 2 s.now).modLane 0 fun l => { l with copyWaits := true })

/-- The recovery on the running record ends; the chunk buffers of a COPY hold open bytes after it (R439, R446, R456, R475). -/
def State.endRecovery (r : Recovery) (m : Mended) (s : State) : State :=
  let (p, i) := (r.plat, r.image)
  let passed := m.outcome = 3
  let s := (s.modRcv p fun k => { k with outcome := m.outcome }).modWdn fun w => { w with running := none }
  let s := s.event 7 0 0x0606 (i + 256 * p) m.outcome
  let s := if r.policy = 1 ∧ ((s.lane 0).copy ∨ r.cut) then s.openBytes (s.laneArea 0).1 0x2000 else s
  let s := if r.policy = 1 then s.modLane 0 fun l => { l with copy := false, copyWaits := false } else s
  let s := if (s.wport (s.bootPort p)).phase = 2 then s.setPhase (s.bootPort p) 1 (s.now + 1) else s
  let s := if passed then s else s.alert 5
  let e := measurementEntry (if r.policy = 1 then 5 else 4) p i m.verdict m.version m.digest 0
  let how := if !passed then 3 else if r.policy = 1 then 2 else 1
  let s := s.modImage p i fun x => { x with final := true, recovery := how, recoveryEntry := e }
  match r.ticket with
  | none => (s.measureImage p (s.plat p).image).settlePlat p
  | some k =>
    let s := s.appendEntry e
    let s := if passed ∧ s.imagesPass p then s.modPlat p fun q => { q with state := 8, heldCmd := true, eligible := true } else s
    s.settleTicket k cOk (le 1 m.outcome ++ le 1 m.verdict ++ zeros 2 ++ le 4 m.version ++ sized 48 m.digest)

/-- A SUBSTITUTE on PASS arms its runner over pinned pages filled from the golden bytes (R445, R450, R451). -/
def State.armRunner (r : Recovery) (e : Bytes) (s : State) : State :=
  let rec' := s.imageRec r.plat r.image
  let size := 2 ^ geLog2 e
  let run : Runner := { plat := r.plat, image := r.image, port := s.bootPort r.plat, addr := iAddr rec', span := spanOf rec', base := geBase e,
                        windowLog2 := geLog2 e, pinAddr := iPinAddr rec', pinLen := iPinLen rec' }
  let s := s.modWdn fun w => { w with runners := (w.runners.filter fun x => !(x.plat = r.plat ∧ x.image = r.image)) ++ [run] }
  (s.fillPages r.plat r.image (s.flashRead 4 (geBase e + iPinAddr rec' % size) (iPinLen rec'))).commitPages r.plat r.image

/-- Steps 4 to 6 of COPY: the span erased, the golden image programmed, the image measured again (R446 to R449). A busy timeout cuts it
after some number of bytes. -/
def State.copyImage (r : Recovery) (e : Bytes) (block : Nat) (s : State) : Mended × State :=
  let (p, i) := (r.plat, r.image)
  let rec' := s.imageRec p i
  let port := s.bootPort p
  let len := iLen rec' + block
  let (cutAt, s) := if r.cut then s.freeVal else (0, s)
  let n := if r.cut then cutAt % (len + 1) else len
  let s := s.setFlash port (nor (mclear (s.flash port) (iAddr rec') (spanOf rec')) (iAddr rec') (s.flashRead 4 (geBase e) n))
  if r.cut then ({ outcome := 0x17 }, s)
  else
    let x := s.readFor p i port (iAddr rec')
    let v := s.judge p i false x
    let s := s.fillPages p i (s.flashRead port (iPinAddr rec') (iPinLen rec'))
    let s := if v = 0 then s.commitPages p i else s.discardPages p i
    ({ outcome := if v = 0 then 3 else 0x18, verdict := v, version := ihVersion x.header, digest := x.digest }, s)

/-- The end of a running recovery, where there is one on this edge: steps 1 to 7 of Table 12.6, or those of section 5. None while the
COPY waits for Lane engine 0, and while the golden verdict waits for domain CRYPTO. -/
def State.recoveryEnds (r : Recovery) (s : State) : Option (Mended × State) :=
  let (p, i) := (r.plat, r.image)
  let rec' := s.imageRec p i
  let port := s.bootPort p
  let copies := r.policy = 1
  match s.golden (iGolden rec') with
  | none => some ({ outcome := 0x10 }, s)
  | some e =>
    if !s.recoveryAllows 0 (geBase e) 64 then some ({ outcome := 0x13 }, s)
    else if s.geometryFails p i r.policy e then some ({ outcome := 0x14 }, s)
    else if copies ∧ 4096 ∉ sfdpErases (s.wport port).sfdp then some ({ outcome := 0x16 }, s)
    else if !copies ∧ (wProto (s.portBody port) ≠ wProto (s.portBody 4) ∨ wAddrBytes (s.portBody port) ≠ wAddrBytes (s.portBody 4)) then
      some ({ outcome := 0x15 }, s)
    else if !copies ∧ s.wdn.runners.any (fun x => x.port ≠ port) then some ({ outcome := 0x1A }, s)
    else
      let x := s.readFor p i 4 (geBase e)
      if !s.recoveryAllows 0 (geBase e) (iLen rec' + x.block.length) then some ({ outcome := 0x13 }, s)
      else if !s.powered dCrypto then none
      else
        let v := s.judge p i r.ticket.isSome x
        let golden : Mended := { outcome := if v = 0 then 3 else 0x10 + v, verdict := v, version := ihVersion x.header, digest := x.digest }
        if v ≠ 0 then some (golden, if copies then s else s.discardPages p i)
        else if !copies then some (golden, s.armRunner r e)
        else if !(s.lane 0).copy ∧ !r.cut then none
        else some (s.copyImage r e x.block.length)

/-- The terminal edge of a recovery (R440). -/
def Recovery.limit (r : Recovery) : Nat := r.start + 2 ^ 38

/-- RECOVERY_OUTCOME (R439, R466, R469, R684). -/
def execRecoveryOutcome (s : State) : Out :=
  .next (match s.wdn.running with
    | none => s
    | some r =>
      if r.limit ≤ s.now then (s.endRecovery r { outcome := 0x19 }).eventLate 2 0 0x0601 (r.image + 256 * r.plat)
      else if r.stopped ≠ 0 then s.endRecovery r { outcome := r.stopped }
      else if r.lost then
        if r.ticket.isSome ∧ (s.inSession 0 ∨ (s.link 0).state = .down) then s.endRecovery r { outcome := 0x1B } else s
      else match s.recoveryEnds r with
        | none => s
        | some (m, s) => s.endRecovery r m)

/-- RECOVERY_LIMIT_EXPIRY (R440). -/
def execRecoveryLimitExpiry (s : State) : Out :=
  .next (match s.wdn.running with
    | none => s
    | some r => (s.advanceTo r.limit).endRecovery r { outcome := 0x19 })

/-- RCV.MEND (R456, R457, R467). -/
def execRcvMend (r : Req) (s : State) : Out :=
  .next (s.command 0x8001 r (fun o s =>
    let p := byteAt o.payload 0
    let i := byteAt o.payload 1
    let op := byteAt o.payload 2
    s.formed o 4 (firstDetail [(decide (3 < p), 0), (decide (1 < op), 2), (decide (byteAt o.payload 3 ≠ 0), 3)]) fun s =>
    let ready := decide ((s.wport (s.bootPort p)).phase = 1) && s.imagesFinal p && s.heldLow p
    let other := s.wdn.runners.any fun x => x.plat ≠ p
    s.checks o
      [(!s.hasBoot p || decide (s.imageCount p ≤ i) || decide (iGolden (s.imageRec p i) = 0xFF) || !s.portDeclared 4, 0x0001)] fun s =>
    s.order o (objReset p :: o.lockObjs) fun s =>
    s.checks o
      [(!s.flc.closed, 0x0030), (s.redRefuses o, 0x0040), (!ready, 0x0007), (s.wardenRBusy || !s.wdn.queue.isEmpty || other, 0x0002),
       (decide (op = 0 ∧ infieldBanks (s.sect 0x04 0) 4 = 0), 0x0004), (decide (255 ≤ s.boot.log.length), 0x0003)] fun s =>
    s.needsCrypto o fun s =>
      let s := s.takesEffect o.port o.opcode [objReset p]
      let (k, s) := s.ticketed o cDeferred []
      let rc : Recovery := { plat := p, image := i, policy := if op = 0 then 1 else 2, edge := s.now, ticket := some k }
      (s.modWdn fun w => { w with queue := w.queue ++ [rc] }).modRcv p fun x => { x with outcome := 2, image := i }))

/-! ## Updates (section 8) -/

/-- A Warden R update ends within its command: DEFERRED, and its notice. -/
def State.updateEnds (o : Outstanding) (code : Nat) (result : Bytes) (s : State) : State :=
  let (k, s) := s.ticketed o cDeferred []
  s.settleTicket k code result

/-- The notice of a failed update. -/
def State.updateFails (o : Outstanding) (detail : Nat) (s : State) : State := s.updateEnds o cState (le 2 detail ++ zeros 2)

/-- Another job runs or waits, or a runner is armed or in force (R459). -/
def State.wardenRTaken (s : State) : Bool := s.wardenRBusy || !s.wdn.queue.isEmpty || !s.wdn.runners.isEmpty

/-- A directory copy of 1044 bytes with one entry replaced and GENERATION raised (R442, R459). -/
def newDirectory (old : Option Bytes) (g : Nat) (entry : Bytes) : Bytes :=
  let ents := (List.range 32).flatMap fun k => if k = g then sized 32 entry else match old with | some d => goldenEntry d k | none => zeros 32
  let body := ascii "TXGD" ++ le 2 1 ++ zeros 2 ++ le 4 ((old.map goldenGen).getD 0 + 1) ++ zeros 4 ++ ents
  body ++ le 4 (crc32c body)

/-- The new directory is written to the copy not in use (R459). -/
def State.writeDirectory (g : Nat) (entry : Bytes) (s : State) : State :=
  let k := match s.goldenInUse with | some 0 => 1 | _ => 0
  let d := newDirectory (s.goldenInUse.map fun u => s.goldenCopy u) g entry
  (s.setFlash 4 (nor (mclear (s.flash 4) (4096 * k) 4096) (4096 * k) d)).readDirectory

/-- The WRITE of a golden update, once its checks have passed (R459). -/
def State.goldenWrite (o : Outstanding) (g log2 p i base : Nat) (s : State) : State :=
  let k := match s.goldenInUse with | some 0 => 1 | _ => 0
  if !s.recoveryAllows 1 base o.bulk.length then s.updateFails o 0x000B
  else
    let s := s.setFlash 4 (nor (s.flash 4) base o.bulk)
    let x := s.readFor p i 4 base
    if !s.recoveryAllows 0 base o.bulk.length then s.updateFails o 0x000B
    else
      let v := s.judge p i true x
      if v ≠ 0 then s.updateFails o (0x000B + v)
      else if !s.recoveryAllows 2 (4096 * k) 4096 ∨ !s.recoveryAllows 1 (4096 * k) 4096 then s.updateFails o 0x000B
      else
        let version := ihVersion x.header
        let s := s.writeDirectory g (le 1 1 ++ le 1 log2 ++ zeros 2 ++ le 4 base ++ le 4 (ihLen x.header) ++ le 4 version ++ x.digest.take 16)
        s.updateEnds o cOk (le 4 s.wdn.dirGen ++ le 4 version ++ sized 48 x.digest)

/-- RCV.UPDATE_GOLDEN (R459). -/
def execRcvUpdateGolden (r : Req) (s : State) : Out :=
  .next (s.command 0x8002 r (fun o s =>
    let b := o.payload
    let total := u32 b 0
    let write := byteAt b 8 = 1
    let g := byteAt b 9
    let log2 := byteAt b 10
    let p := byteAt b 11
    let i := byteAt b 12
    let base := u32 b 16
    let known := decide (p < 4) && s.hasBoot p && decide (i < s.imageCount p)
    let rec' := s.imageRec p i
    let block := blockLength (iScheme rec') (u16 o.bulk (iLen rec' + 259))
    let faults := if write then
        [(known && decide (total ≠ iLen rec' + block), 0), (decide (31 < g), 9), (decide (log2 < 16 ∨ 28 < log2), 10),
         (known && decide (2 ^ log2 < spanOf rec'), 10), (decide (3 < p), 11)]
      else [(decide (total ≠ 0), 0), (decide (1 < byteAt b 8), 8), (decide (g ≠ 0), 9), (decide (log2 < 16 ∨ 28 < log2), 10),
            (decide (p ≠ 0), 11), (decide (i ≠ 0), 12)]
    s.formed o 20 ((firstDetail faults).or (firstNonZero b 13 3)) fun s =>
    let size := 2 ^ log2
    s.checks o
      [(!s.portDeclared 4 || (decide write && !known), 0x0001), (!s.flc.closed, 0x0030), (s.wardenRTaken, 0x0002),
       (decide (base % size ≠ 0 ∨ base < 0x200000 ∨ s.recoverySize < base + size) || s.windowTaken (fun _ => true) base size, 0x000A)]
      fun s =>
      s.viaLink o 0 fun s =>
        let s := s.readDirectory
        if write then s.needsCrypto o fun s => s.goldenWrite o g log2 p i base
        else if !s.recoveryAllows 2 base size then s.updateFails o 0x000B
        else (s.setFlash 4 (mclear (s.flash 4) base size)).updateEnds o cOk []))

/-- The staging window of Keeper firmware (Table 12.3). -/
def keeperWindow : Nat := 0x100000

/-- The staged Keeper firmware as it is read back. -/
def State.stagedKeeper (s : State) : Presented := readKeeper fun a n => s.flashRead 4 (keeperWindow + a) n

/-- The refusal of a staged image, or none (R460). -/
def State.keeperRefusal (x : Presented) (s : State) : Option Nat :=
  let v := s.judgeKeeper true x
  if v ≠ 0 then some (0x000B + v) else if ihVersion x.header ≤ s.boot.kfVersion.getD 0 then some 0x000E else none

/-- The effects of R179 items 1 to 3: every platform is held, and claimed domains drain; the restart comes no earlier than 2^20 cycles
on. -/
def State.restartBegins (s : State) : State :=
  let s := s.bootPlats.foldl (fun s p => s.modPlat p fun q =>
    { q with released := false, state := if q.state = 5 ∨ q.state = 6 then 8 else q.state }) s
  let s := s.modFrm fun f => { f with restartFrom := s.now + 2 ^ 20 }
  let go (s : State) (n : Nat) : State :=
    if s.domainOn n ∧ s.claimHeld n then
      (s.setDomain n { condition := .drain, timer := s.domainEdge n + s.claimUs * 600 }).drainBegins n 0
    else s
  (List.range 22).foldl go s

/-- RCV.UPDATE_KEEPER (R460). -/
def execRcvUpdateKeeper (r : Req) (s : State) : Out :=
  .next (s.command 0x8003 r (fun o s =>
    let b := o.payload
    let total := u32 b 0
    let op := byteAt b 8
    let len := u32 o.bulk 12
    let block := blockLength (byteAt o.bulk (len + 4)) (u16 o.bulk (len + 259))
    let range := if op = 1 then decide (total < 64 + block ∨ 786432 < total) else decide (total ≠ 0)
    s.formed o (if op = 2 then 60 else 12) ((firstDetail [(range, 0), (decide (2 < op), 8)]).or (firstNonZero b 9 3)) fun s =>
    let match? := match s.wdn.staged with | some (_, d) => d == slice b 12 48 | none => false
    s.checks o
      [(!s.portDeclared 4, 0x0001), (!s.flc.closed, 0x0030), (s.wdn.running.isSome || !s.wdn.queue.isEmpty || !s.wdn.runners.isEmpty, 0x0002),
       (s.wdn.install.isSome, 0x0009), (decide (op = 2) && !match?, 0x0008)] fun s =>
      s.viaLink o 0 fun s =>
        let s := s.readDirectory
        if op = 0 then
          let s := s.modWdn fun w => { w with staged := none }
          if !s.recoveryAllows 2 keeperWindow 0x100000 then s.updateFails o 0x000B
          else (s.setFlash 4 (mclear (s.flash 4) keeperWindow 0x100000)).updateEnds o cOk []
        else if op = 1 then
          s.needsCrypto o fun s =>
            let s := s.modWdn fun w => { w with staged := none }
            if !s.recoveryAllows 1 keeperWindow total ∨ !s.recoveryAllows 0 keeperWindow total then s.updateFails o 0x000B
            else
              let s := s.setFlash 4 (nor (s.flash 4) keeperWindow o.bulk)
              let x := s.stagedKeeper
              match s.keeperRefusal x with
              | some d => s.updateFails o d
              | none =>
                let s := s.modWdn fun w => { w with staged := some (ihVersion x.header, sized 48 x.digest) }
                s.updateEnds o cOk (le 4 (ihVersion x.header) ++ sized 48 x.digest)
        else s.needsCrypto o fun s =>
          let (k, s) := s.ticketed o cDeferred []
          (s.modWdn fun w => { w with install := some k }).restartBegins))

/-! ## Registers and queries (sections 14 and 15) -/

/-- KPR.RCV_STAT. -/
def State.rcvStat (s : State) : Nat :=
  let job := if !s.portDeclared 4 then 0 else if s.wdn.running.isSome then 2 else if s.wdn.install.isSome then 4 else if s.lockstep then 5 else 1
  job + 8 * b2n s.wdn.dirValid + 16 * b2n s.wdn.dirCopy + 32 * ((s.wdn.runners.head?.map Runner.port).getD 4)
    + 256 * (s.boot.log.length % 256) + 65536 * (s.wdn.dirGen % 65536)

/-- KPR.RCV_PLAT[p]. -/
def State.rcvPlat (p : Nat) (s : State) : Nat :=
  let k := tget {} s.wdn.rcv p
  let mine := s.wdn.runners.filter fun x => x.plat = p
  k.outcome + 64 * (k.image % 8) + 512 * b2n (mine.any fun x => !x.inForce) + 1024 * b2n (mine.any Runner.inForce) + 65536 * k.attempts

/-- The ticket of a platform's queued or running RCV.MEND, 0 for none. -/
def State.mendTicket (p : Nat) (s : State) : Nat :=
  (((s.wdn.running.toList ++ s.wdn.queue).filter fun r => r.plat = p).findSome? Recovery.ticket).getD 0

/-- The directory entry that was read for a golden index; zeros where there is none. -/
def State.readEntry (g : Nat) (s : State) : Bytes :=
  if s.wdn.dirValid ∧ g < 32 then goldenEntry (s.goldenCopy (b2n s.wdn.dirCopy)) g else zeros 32

/-- RCV.GET_POLICY. -/
def execRcvGetPolicy (r : Req) (s : State) : Out :=
  .next (s.command 0x8000 r (fun o s =>
    let p := byteAt o.payload 0
    s.formed o 4 ((firstDetail [(decide (3 < p), 0)]).or (firstNonZero o.payload 1 3)) fun s =>
    s.checks o [(!s.hasBoot p, 0x0001)] fun s =>
      let copy := if s.wdn.dirValid then b2n s.wdn.dirCopy else 0xFF
      let image (i : Nat) : Bytes :=
        let x := s.imageRec p i
        let e := s.readEntry (iGolden x)
        le 1 (iPolicy x) ++ le 1 (iGolden x) ++ le 1 (iCounter x) ++ le 1 (s.counterLatched (iCounter x)) ++ le 1 (byteAt e 0)
          ++ le 1 (geLog2 e) ++ zeros 2 ++ le 4 (geVersion e) ++ le 4 (geBase e)
      s.done o (le 1 p ++ le 1 (s.imageCount p) ++ le 1 (s.bootPort p) ++ le 1 copy ++ (List.range (s.imageCount p)).flatMap image)))

/-- RCV.GET_STATUS. -/
def execRcvGetStatus (r : Req) (s : State) : Out :=
  .next (s.command 0x8004 r (fun o s => s.wellFormed o 0 [] fun s =>
    s.done o (le 4 s.rcvStat ++ le 4 (if s.wdn.dirValid then s.wdn.dirGen else 0)
      ++ (List.range 4).flatMap fun p => le 4 (s.rcvPlat p) ++ le 4 (s.mendTicket p))))

end Sys2Proof.Machine
end

