-- ==== Sys2Proof/Machine/Attest.lean ====
section
/-! DEFINITION. The measurement log, the certificates, the Quote and the SPDM responder (sections 9 to 11 of chapter 12). -/

namespace Sys2Proof.Machine

/-- An ECDSA P-384 signature with the ALIAS key, r ∥ s; open bytes while slot 122 is empty, for which no rule gives it. -/
def State.aliasSign (msg : Bytes) (s : State) : Bytes × State :=
  if s.slotValid 122 then
    let (k, s) := s.randomBytes 48
    (sign sEcdsa384 96 (s.slotKey 122) msg k, s)
  else (fit 96 fun i => Config.freeByte (s.free + i), { s with free := s.free + 96 })

/-! ## The measurement log (R461) -/

/-- The log: its head and one record per entry. -/
def State.measurementLog (s : State) : Bytes :=
  ascii "TXML" ++ le 1 1 ++ le 1 (if s.flc.closed then s.flc.count else 0) ++ zeros 2 ++ le 4 s.boot.log.length ++ le 4 s.bootCount
    ++ s.boot.log.flatMap fun m => sized 64 m.entry ++ le 8 m.baton

/-- ATT.GET_LOG. -/
def execAttGetLog (r : Req) (s : State) : Out :=
  .next (s.command 0x7001 r (fun o s =>
    s.formed o 8 (firstDetail [(decide (u32 o.payload 0 ≠ 0), 0)]) fun s => s.bulkOut o s.measurementLog []))

/-! ## Certificates (R462) -/

/-- DER: a length, a value under its tag, and the values that the certificates use. -/
def derLen (n : Nat) : Bytes := if n < 128 then le 1 n else if n < 256 then le 1 0x81 ++ le 1 n else le 1 0x82 ++ be 2 n
def der (tag : Nat) (b : Bytes) : Bytes := le 1 tag ++ derLen b.length ++ b
def derSeq (parts : List Bytes) : Bytes := der 0x30 parts.flatten
def derOid (b : List Nat) : Bytes := der 6 (b.map fun v => BitVec.ofNat 8 v)

/-- An unsigned number as INTEGER: no more leading zeros than its sign needs. -/
def derInt (b : Bytes) : Bytes :=
  let short := b.dropWhile fun v => v == 0
  der 2 (if short.isEmpty then [0] else if 128 ≤ byteAt short 0 then 0 :: short else short)

def oidEcPublicKey : Bytes := derOid [0x2A, 0x86, 0x48, 0xCE, 0x3D, 0x02, 0x01]
def oidP384 : Bytes := derOid [0x2B, 0x81, 0x04, 0x00, 0x22]
def oidEcdsaSha384 : Bytes := derOid [0x2A, 0x86, 0x48, 0xCE, 0x3D, 0x04, 0x03, 0x03]
def oidSha384 : Bytes := derOid [0x60, 0x86, 0x48, 0x01, 0x65, 0x03, 0x04, 0x02, 0x02]
def oidCommonName : Bytes := derOid [0x55, 0x04, 0x03]
def oidTcbInfo : Bytes := derOid [0x67, 0x81, 0x05, 0x05, 0x04, 0x01]

/-- The hex digits of bytes, upper case. -/
def hexText (b : Bytes) : Bytes :=
  let digit (n : Nat) : Byte := BitVec.ofNat 8 (if n < 10 then 0x30 + n else 0x37 + n)
  b.flatMap fun v => [digit (v.toNat / 16), digit (v.toNat % 16)]

/-- A name of one common name, and an extension. -/
def derName (text : Bytes) : Bytes := derSeq [der 0x31 (derSeq [oidCommonName, der 0x0C text])]
def derExtension (oid : Bytes) (critical : Bool) (value : Bytes) : Bytes :=
  derSeq ([oid] ++ (if critical then [der 1 [0xFF]] else []) ++ [der 4 value])

/-- A P-384 subject public key. -/
def derPublic (point : Bytes) : Bytes := derSeq [derSeq [oidEcPublicKey, oidP384], der 3 (0 :: point)]

/-- The first 20 bytes of SHA-384 of a public key: serial number and key identifier. -/
def keyId (point : Bytes) : Bytes := (sha point).take 20

/-- The part of the Alias certificate that is signed (Table 12.9): subject key, issuer key, DEVID, SV_KF and H_KF. -/
def aliasBody (point issuer devid : Bytes) (svn : Nat) (hkf : Bytes) : Bytes :=
  let id := keyId point
  let serial := match id with | [] => [] | v :: vs => (v &&& 0x7F) :: vs
  let tcb := derSeq [der 0x80 (ascii "Kowyn"), der 0x81 (ascii "Ibain"), le 1 0x83 ++ (derInt (be 4 svn)).drop 1,
                     der 0xA6 (derSeq [oidSha384, der 4 hkf])]
  derSeq
    [der 0xA0 (derInt [2]), derInt serial, derSeq [oidEcdsaSha384], derName (ascii "Ibain DeviceID " ++ hexText devid),
     derSeq [der 0x18 (ascii "20240101000000Z"), der 0x18 (ascii "99991231235959Z")],
     derName (ascii "Ibain Alias " ++ hexText devid), derPublic point,
     der 0xA3 (derSeq
       [derExtension (derOid [0x55, 0x1D, 0x23]) false (derSeq [der 0x80 (keyId issuer)]),
        derExtension (derOid [0x55, 0x1D, 0x0E]) false (der 4 id),
        derExtension (derOid [0x55, 0x1D, 0x0F]) true (der 3 [7, 0x80]),
        derExtension oidTcbInfo false tcb])]

/-- The Alias certificate is issued with the DEVICEID key at each start of Keeper firmware. -/
def State.issueAlias (s : State) : State :=
  let pub (n : Nat) : Bytes := publicOf sEcdsa384 97 (s.slotKey n)
  let body := aliasBody (pub 122) (pub 123) s.devid (s.boot.kfVersion.getD 0) (sized 48 s.boot.kfDigest)
  let (k, s) := s.randomBytes 48
  let sig := sign sEcdsa384 96 (s.slotKey 123) (sha body) k
  let cert := derSeq [body, derSeq [oidEcdsaSha384], der 3 (0 :: derSeq [derInt (sig.take 48), derInt (sig.drop 48)])]
  s.modWdn fun w => { w with certs := tins w.certs 2 cert }

/-- The Heart certificate without its signature (Table 12.10). -/
def State.heartBody (s : State) : Bytes :=
  ascii "TXHC" ++ le 1 1 ++ zeros 3 ++ le 4 s.bootCount ++ s.devid ++ sized 48 s.flc.maClose ++ s.formulaDigest
    ++ publicHalf 3 (s.slotKey 121) ++ publicHalf 3 (s.slotKey 120) ++ publicHalf 2 (s.slotKey 119) ++ zeros 3

/-- The Heart certificate is issued with the ALIAS key on the Heart closure edge. -/
def State.issueHeart (s : State) : State :=
  let body := s.heartBody
  let (sig, s) := s.aliasSign (sha (ascii "TXI-HRT" ++ body))
  s.modWdn fun w => { w with certs := tins w.certs 3 (body ++ sig) }

/-- A certificate of Table 12.9. -/
def State.certificate (k : Nat) (s : State) : Bytes :=
  match tfind s.wdn.certs k with
  | some b => b
  | none => if k < 2 then Config.shippedCert k else []

/-- The slot 0 chain in SPDM form (Table 12.12). -/
def State.spdmChain (s : State) : Bytes :=
  let certs := s.certificate 0 ++ s.certificate 1 ++ s.certificate 2
  le 2 (4 + 48 + certs.length) ++ zeros 2 ++ sha (s.certificate 0) ++ certs

/-- ATT.GET_CERT. -/
def execAttGetCert (r : Req) (s : State) : Out :=
  .next (s.command 0x7002 r (fun o s =>
    let k := byteAt o.payload 8
    s.formed o 12 ((firstDetail [(decide (u32 o.payload 0 ≠ 0), 0), (decide (4 < k), 8)]).or (firstNonZero o.payload 9 3)) fun s =>
    s.checks o [(decide (k = 3) && !s.flc.closed, 0x0006)] fun s =>
      s.bulkOut o (if k = 4 then s.spdmChain else s.certificate k) []))

/-! ## The Quote (R463) -/

/-- FLAGS of the Quote. -/
def State.quoteFlags (s : State) : Nat :=
  b2n s.vlt.redFlag + 2 * b2n s.vlt.dqSeen + 4 * b2n s.frm.fallback + 8 * b2n s.flc.closed + 16 * b2n (!s.wdn.runners.isEmpty)

/-- The 4 bytes of a platform in the Quote. -/
def State.quotePlat (p : Nat) (s : State) : Bytes :=
  let phase := if s.hasBoot p then s.phaseOf (s.bootPort p) else 0
  le 1 (s.plat p).state ++ le 1 (tget {} s.wdn.rcv p).outcome ++ le 1 phase ++ le 1 (b2n (s.wdn.runners.any fun x => x.plat = p && x.inForce))

/-- Bytes 0 to 367 of the Quote (Table 12.11). -/
def State.quoteBody (o : Outstanding) (s : State) : Bytes :=
  let f := s.frm.applied.getD {}
  ascii "TXQT" ++ le 1 1 ++ le 1 s.quoteFlags ++ le 1 s.lifecycle ++ le 1 s.variant ++ s.devid ++ le 4 s.bootCount
    ++ le 4 s.boot.log.length ++ le 8 o.baton ++ s.formulaDigest ++ le 4 f.serial ++ le 2 f.version ++ zeros 2
    ++ (if s.flc.closed then sized 48 s.flc.maClose else zeros 48) ++ sized 48 s.flc.ma ++ le 4 (s.boot.kfVersion.getD 0)
    ++ le 4 (if s.boot.stwVerdict = 0 then s.boot.stwVersion else 0) ++ (List.range 64).flatMap (fun c => le 1 (s.counterLatched c))
    ++ le 1 (s.counterLatched 0x80) ++ le 1 (s.counterLive 0x81) ++ le 1 (s.counterLive 0x82) ++ zeros 1
    ++ (if s.tenantOpen then sized 48 s.nose.tenantId else zeros 48) ++ le 1 (b2n s.tenantOpen) ++ zeros 3
    ++ (List.range 4).flatMap (fun p => s.quotePlat p) ++ o.payload

/-- ATT.QUOTE. -/
def execAttQuote (r : Req) (s : State) : Out :=
  .next (s.command 0x7000 r (fun o s =>
    s.wellFormed o 32 [] fun s =>
      s.needsCrypto o fun s =>
        let body := s.quoteBody o
        let (sig, s) := s.aliasSign (sha (ascii "TXI-QTE" ++ body))
        s.done o (body ++ sig)))

/-! ## The SPDM responder (R464, R465) -/

/-- A message's head, and an ERROR. -/
def spdmHead (code p1 p2 : Nat) : Bytes := le 1 0x12 ++ le 1 code ++ le 1 p1 ++ le 1 p2
def spdmError (code : Nat) : Bytes := spdmHead 0x7F code 0

/-- What a request leads to: the response without its signature, the connection after it, and the text to be signed, if any, with its
context. -/
structure SpdmAnswer where
  response : Bytes
  next : Spdm
  signed : Option (Bytes × String) := none

/-- Measurement block `n` (R465): a log entry as a raw bit stream, or D as a digest. -/
def State.spdmBlock (n : Nat) (s : State) : Bytes :=
  let block (type : Nat) (v : Bytes) : Bytes := le 1 n ++ le 1 1 ++ le 2 (3 + v.length) ++ le 1 type ++ le 2 v.length ++ v
  if n = 0xFD then block 0x03 s.formulaDigest else block 0x81 (sized 64 (match s.boot.log[n - 1]? with | some m => m.entry | none => []))

/-- The numbers of the blocks: the log entries, then D. -/
def State.spdmIndices (s : State) : List Nat := (List.range s.boot.log.length).map (· + 1) ++ [0xFD]

/-- MeasurementSummaryHash over the TCB blocks or over all. -/
def State.spdmSummary (type : Nat) (s : State) : Bytes :=
  let tcb (n : Nat) : Bool := match s.boot.log[n - 1]? with | some m => byteAt m.entry 0 == 1 || byteAt m.entry 0 == 2 | none => false
  if type = 0 then []
  else sha ((s.spdmIndices.filter fun n => type = 0xFF || (n ≠ 0xFD && tcb n)).flatMap fun n => s.spdmBlock n)

/-- The text that an SPDM 1.2 signature covers: the combined prefix with its context, then the transcript's hash. -/
def spdmSigned (transcript : Bytes) (context : String) : Bytes :=
  let c := ascii context
  ((List.range 4).flatMap fun _ => ascii "dmtf-spdm-v1.2.*") ++ zeros (36 - c.length) ++ c ++ sha transcript

/-- ALGORITHMS, where the request offers what the Ibain selects (Table 12.12). -/
def spdmAlgorithms (q : Bytes) : Option Bytes :=
  if q.length < 32 ∨ u16 q 4 ≠ q.length then none
  else if !bit (byteAt q 6) 0 || !bit (u32 q 8) 7 || !bit (u32 q 12) 1 then none
  else some (spdmHead 0x63 0 0 ++ le 2 36 ++ le 1 1 ++ zeros 1 ++ le 4 4 ++ le 4 0x80 ++ le 4 2 ++ zeros 12 ++ zeros 4)

/-- GET_CERTIFICATE: a portion of the slot 0 chain. -/
def State.spdmCertificate (q : Bytes) (c : Spdm) (s : State) : SpdmAnswer :=
  let off := u16 q 4
  let chain := s.spdmChain
  if q.length ≠ 8 ∨ byteAt q 2 ≠ 0 ∨ chain.length ≤ off then ⟨spdmError 0x01, c, none⟩
  else
    let part := (chain.drop off).take (min (u16 q 6) 4088)
    let a := spdmHead 0x02 0 0 ++ le 2 part.length ++ le 2 (chain.length - off - part.length) ++ part
    { response := a, next := { c with certs := c.certs ++ q ++ a } }

/-- CHALLENGE. -/
def State.spdmChallenge (q nonce : Bytes) (c : Spdm) (s : State) : SpdmAnswer :=
  let type := byteAt q 3
  if q.length ≠ 36 ∨ byteAt q 2 ≠ 0 ∨ type ∉ [0, 1, 0xFF] then ⟨spdmError 0x01, c, none⟩
  else
    let a := spdmHead 0x03 0 1 ++ sha s.spdmChain ++ nonce ++ s.spdmSummary type ++ zeros 2
    { response := a, next := { c with certs := [] }, signed := some (c.vca ++ c.certs ++ q ++ a, "responder-challenge_auth signing") }

/-- GET_MEASUREMENTS. -/
def State.spdmMeasurements (q nonce : Bytes) (c : Spdm) (s : State) : SpdmAnswer :=
  let wants := bit (byteAt q 2) 0
  let index := byteAt q 3
  let all := s.spdmIndices
  if q.length ≠ (if wants then 37 else 4) ∨ (wants ∧ byteAt q 36 ≠ 0) ∨ (index ≠ 0 ∧ index ≠ 0xFF ∧ index ∉ all) then ⟨spdmError 0x01, c, none⟩
  else
    let ns := if index = 0 then [] else if index = 0xFF then all else [index]
    let rec' := ns.flatMap fun n => s.spdmBlock n
    let a := spdmHead 0x60 (if index = 0 then all.length else 0) 0 ++ le 1 ns.length ++ le 3 rec'.length ++ rec' ++ nonce ++ zeros 2
    if wants then { response := a, next := { c with meas := [] }, signed := some (c.vca ++ c.meas ++ q ++ a, "responder-measurements signing") }
    else { response := a, next := { c with meas := c.meas ++ q ++ a } }

/-- A request on a connection (Table 12.12): its version, its form, its order. -/
def State.spdmAnswer (q nonce : Bytes) (c : Spdm) (s : State) : SpdmAnswer :=
  let code := byteAt q 1
  let known := [0x84, 0xE1, 0xE3, 0x81, 0x82, 0x83, 0xE0]
  let stage := if code = 0xE1 then 1 else if code = 0xE3 then 2 else 3
  if q.length < 4 then ⟨spdmError 0x01, c, none⟩
  else if byteAt q 0 ≠ (if code = 0x84 then 0x10 else 0x12) then ⟨spdmError 0x41, c, none⟩
  else if !known.contains code then ⟨spdmError 0x07, c, none⟩
  else if code = 0x84 then
    if q.length ≠ 4 then ⟨spdmError 0x01, c, none⟩
    else
      let a := le 1 0x10 ++ le 1 0x04 ++ zeros 2 ++ zeros 1 ++ le 1 1 ++ le 2 0x1200
      { response := a, next := { stage := 1, vca := q ++ a } }
  else if c.stage ≠ stage then ⟨spdmError 0x04, c, none⟩
  else if code = 0xE1 then
    if q.length ≠ 20 then ⟨spdmError 0x01, c, none⟩
    else
      let a := spdmHead 0x61 0 0 ++ zeros 1 ++ le 1 12 ++ zeros 2 ++ le 4 0x16 ++ le 4 4096 ++ le 4 4096
      { response := a, next := { c with stage := 2, vca := c.vca ++ q ++ a } }
  else if code = 0xE3 then
    match spdmAlgorithms q with
    | none => ⟨spdmError 0x01, c, none⟩
    | some a => { response := a, next := { c with stage := 3, vca := c.vca ++ q ++ a } }
  else if code = 0x81 then
    if q.length ≠ 4 then ⟨spdmError 0x01, c, none⟩
    else
      let a := spdmHead 0x01 0 1 ++ sha s.spdmChain
      { response := a, next := { c with certs := c.certs ++ q ++ a } }
  else if code = 0x82 then s.spdmCertificate q c
  else if code = 0x83 then s.spdmChallenge q nonce c
  else s.spdmMeasurements q nonce c

/-- ATT.SPDM: one request, one response, ERROR responses included. -/
def execAttSpdm (r : Req) (s : State) : Out :=
  .next (s.command 0x7003 r (fun o s =>
    if s.featureOff 3 then s.refuse o 0x00FE
    else
      let key := o.port.index * 8 + o.session
      let (nonce, s) := s.draw 32
      let a := s.spdmAnswer o.payload nonce (tget {} s.wdn.spdm key)
      let go (s : State) : State :=
        let s := s.modWdn fun w => { w with spdm := tset {} w.spdm key a.next }
        match a.signed with
        | none => s.done o a.response
        | some (text, context) =>
          let (sig, s) := s.aliasSign (spdmSigned text context)
          s.done o (a.response ++ sig)
      if a.signed.isSome then s.needsCrypto o go else go s))

end Sys2Proof.Machine
end

