-- ==== Sys2Proof/Machine/SillageStore.lean ====
section
/-! DEFINITION. The Sillage store on the recovery flash, and LOG.EXPORT (section 5 and R712 of chapter 20). -/

namespace Sys2Proof.Machine

/-! ## Sectors (Table 20.4) -/

/-- Address of a store sector, and the sector that follows it (R709, R710). -/
def sectorAddr (n : Nat) : Nat := 0x1000 * n
def sectorAfter (n : Nat) : Nat := if 255 ≤ n then 2 else n + 1

/-- The sector image of a sealed batch under an SSN. -/
def State.sectorImage (b : Batch) (ssn : Nat) (s : State) : Bytes :=
  let mine := s.log.ring.filter fun x => b.firstSeq ≤ x.1 && decide (x.1 < b.firstSeq + b.count)
  let recs := mine.flatMap fun x => x.2.bytes x.1
  ascii "TXSS" ++ [1] ++ zeros 3 ++ le 4 ssn ++ sized 48 b.prevChain ++ zeros 4
    ++ (recs ++ List.replicate 3840 0xFF).take 3840 ++ s.sealBlock b

/-- The SSN of a store sector whose MAGIC is correct. -/
def State.sectorSsn (n : Nat) (s : State) : Option Nat :=
  let h := s.flashRead 4 (sectorAddr n) 12
  if h.take 4 = ascii "TXSS" then some (u32 h 8) else none

/-- The store's sectors. -/
def storeSectors : List Nat := (List.range 254).map (· + 2)

/-- The sectors whose MAGIC is correct, with their SSN. -/
def State.storedSectors (s : State) : List (Nat × Nat) := storeSectors.filterMap fun n => (s.sectorSsn n).map fun k => (k, n)

/-- The last of the sectors by SSN. -/
def newest : List (Nat × Nat) → Option (Nat × Nat)
  | [] => none
  | x :: xs => match newest xs with | none => some x | some y => some (if y.1 ≤ x.1 then x else y)

def State.modStore (f : LogStore → LogStore) (s : State) : State := s.modLog fun l => { l with store := f l.store }

/-- Before the first store write every header is read: the next sector and the next SSN (step 1 of R710). -/
def State.scanStore (s : State) : State :=
  if s.log.store.scanned then s
  else
    let found := newest s.storedSectors
    s.modStore fun t =>
      match found with
      | none => { t with scanned := true }
      | some (ssn, n) => { t with scanned := true, nextSector := sectorAfter n, nextSsn := ssn + 1 }

/-! ## Store writes (R710, R711) -/

/-- Step 13 of the cold start has ended: every declared Warden port has ended its HOLD procedure. -/
def State.portsReady (s : State) : Bool :=
  decide (8 ≤ s.boot.stage) && decide (s.boot.stage ≤ 0x0A) &&
    (List.range 5).all fun p => !s.portDeclared p || (s.wport p).holdDone || decide ((s.wport p).fault ≠ 0)

/-- The batch that is written next: the oldest that is not persisted, once its signature has ended. -/
def State.batchDue (s : State) : Option Batch :=
  match s.log.sealed.find? fun b => !b.persisted with
  | some b => if b.signing then none else some b
  | none => none

/-- Warden R is free for the store (R710). -/
def State.storeFree (s : State) : Bool :=
  !s.wardenRTaken && s.log.store.writing.isNone && s.domainOn (dWarden 4) && s.inSession 0

/-- STORE_WRITE_START (R709, R710). -/
def execStoreWriteStart (s : State) : Out :=
  .next (match s.batchDue with
    | none => s
    | some b =>
      if !s.storeInUse ∨ !s.portsReady ∨ !s.storeFree then s
      else s.scanStore.modStore fun t => { t with writing := some b.firstSeq, cut := false })

/-- The descriptors of Warden R allow the sector's erase and its pages (R429). -/
def State.sectorAllowed (n : Nat) (s : State) : Bool :=
  s.recoveryAllows 2 (sectorAddr n) 4096 && s.recoveryAllows 1 (sectorAddr n) 4096

/-- A sector erased, and the first `n` bytes of an image programmed. -/
def State.writeSector (sector n : Nat) (image : Bytes) (s : State) : State :=
  s.setFlash 4 (nor (mclear (s.flash 4) (sectorAddr sector) 4096) (sectorAddr sector) (image.take n))

/-- A store write that was cut leaves its sector with some number of its bytes programmed. -/
def State.tornSector (sector : Nat) (image : Bytes) (s : State) : State :=
  let (v, s) := s.freeVal
  s.writeSector sector (v % 4096) image

/-- A batch of the ring, and the last seal, rewritten. -/
def State.modBatch (first : Nat) (f : Batch → Batch) (s : State) : State :=
  let g (b : Batch) : Batch := if b.firstSeq = first then f b else b
  s.modLog fun l => { l with sealed := l.sealed.map g, last := l.last.map g }

/-- The write in progress ends: its SSN and its sector are consumed (R711). -/
def State.storeStep (s : State) : State :=
  s.modStore fun t => { t with writing := none, cut := false, nextSector := sectorAfter t.nextSector, nextSsn := t.nextSsn + 1 }

/-- A store write fails; the third failure for one batch stops the store (R711). -/
def State.storeFails (b : Batch) (s : State) : State :=
  let s := ((s.modBatch b.firstSeq fun x => { x with failures := x.failures + 1 }).storeStep).event 2 0 0x0D03 0 (b.failures + 1)
  if 3 ≤ b.failures + 1 then (s.modStore fun t => { t with stopped := true }).event 2 0 0x0D04 else s

/-- STORE_WRITE_DONE: the last page is ready and the batch is persisted; or a descriptor refused, or `failed`, a busy timeout or the end of
the claim cut it (R685, R710, R711). -/
def execStoreWriteDone (failed : Bool) (s : State) : Out :=
  .next (match s.log.store.writing with
    | none => s
    | some first =>
      match s.log.sealed.find? fun b => b.firstSeq = first with
      | none => s.storeStep
      | some b =>
        let t := s.log.store
        let image := s.sectorImage b t.nextSsn
        if !t.cut && !s.sectorAllowed t.nextSector then s.storeFails b
        else if failed || t.cut then (s.tornSector t.nextSector image).storeFails b
        else
          let s := s.writeSector t.nextSector 4096 image
          let s := s.modBatch first fun x => { x with persisted := true, ssn := t.nextSsn }
          (s.modStore fun u => { u with lastSsn := u.nextSsn }).storeStep)

/-! ## LOG.EXPORT -/

/-- Sector images of the ring from a FIRST_SEQ onward: SSN 0 where a batch is not persisted. -/
def State.ringImages (start count : Nat) (s : State) : List Bytes :=
  ((s.log.sealed.filter fun b => decide (start ≤ b.firstSeq)).take count).map fun b => s.sectorImage b (if b.persisted then b.ssn else 0)

/-- Pairs placed in rising order of SSN. -/
def insertSector (x : Nat × Nat) : List (Nat × Nat) → List (Nat × Nat)
  | [] => [x]
  | y :: ys => if x.1 ≤ y.1 then x :: y :: ys else y :: insertSector x ys

/-- Sector images of the store from an SSN onward. -/
def State.storeImages (start count : Nat) (s : State) : List Bytes :=
  let due := s.storedSectors.filter fun x => start ≤ x.1
  ((due.foldr insertSector []).take count).map fun x => s.flashRead 4 (sectorAddr x.2) 4096

/-- LOG.EXPORT (R712). -/
def execLogExport (r : Req) (s : State) : Out :=
  .next (s.command 0xA001 r (fun o s =>
    let b := o.payload
    let source := byteAt b 8
    let count := u16 b 10
    let start := u32 b 12
    s.formed o 16
      (firstDetail [(decide (u32 b 0 ≠ 0), 0), (decide (1 < source), 8), (decide (byteAt b 9 ≠ 0), 9), (decide (count = 0 ∨ 64 < count), 10)])
      fun s =>
        if source = 0 then s.bulkOut o (s.ringImages start count).flatten []
        else
          s.checks o [(!s.storeInUse, 0x0003), (s.wardenRTaken || s.log.store.writing.isSome || !s.domainOn (dWarden 4), 0x0004)] fun s =>
            s.viaLink o 0 fun s => s.bulkOut o (s.storeImages start count).flatten []))

end Sys2Proof.Machine
end

