-- ==== Sys2Proof/Machine/Restart.lean ====
section
/-! DEFINITION. Restarts of the package, the fall into VAULT, FRM.ACTIVATE and the restart after an install (R19, R53, R61, R179, R197,
R460, R670 to R672, Table 7.8). -/

namespace Sys2Proof.Machine

/-! ## The Vault domain across a restart -/

/-- A record of the Vault event store; a full store gives up its last record (R231). -/
def State.vaultRecord (source code : Nat) (s : State) : State :=
  s.modVlt fun v =>
    let r : VaultEvent := { tick := v.tick, source := source, code := code }
    if v.store.length < 64 then { v with store := v.store ++ [r] }
    else { v with store := v.store.take 63 ++ [r], overflow := satInc 255 v.overflow }

/-- What the Vault domain keeps across a restart: Table 6.1, the comparators on VBAT and the pins; every filter is emptied (R221, R232). -/
def Vault.kept (v : Vault) : Vault :=
  { noteA := v.noteA, noteB := v.noteB, state := v.state, check := v.check, respCopy := v.respCopy, srcEn := v.srcEn,
    staticActive := v.staticActive, tLo := v.tLo, tHi := v.tHi, redFlag := v.redFlag, redMask := v.redMask, store := v.store,
    overflow := v.overflow, tick := v.tick, tickHi := v.tickHi, vbatOk := v.vbatOk, armed := v.armed, vbatLow := v.vbatLow,
    redflagnLow := v.redflagnLow }

/-! ## What was in progress -/

/-- Bytes that an NVM request touches: first offset and number (R51, Table 22.10). -/
def nvmRange : NvmOp → Nat × Nat
  | .program a row => (a / 256 * 256, min 256 row.length)
  | .eraseSector a => (a / 4096 * 4096, 4096)
  | .eraseBlock a => (a / 65536 * 65536, 65536)

/-- A range of a bank whose operation was cut: what it holds is open (log entry 3). -/
def State.cutBank (op : Option NvmOp) (m : Memory) (s : State) : Memory × State :=
  match op with
  | none => (m, s)
  | some x =>
    let (a, n) := nvmRange x
    (mwrite 0xFF m a (fit n fun i => Config.freeByte (s.free + i)), { s with free := s.free + n })

/-- NVM operations in progress are cut. -/
def State.cutNvm (s : State) : State :=
  let (a, s) := s.cutBank s.cores.opA s.cores.nvmA
  let (b, s) := s.cutBank s.cores.opB s.cores.nvmB
  s.modCores fun c => { c with nvmA := a, nvmB := b, opA := none, opB := none }

/-- A COPY on its way leaves its flash as it was, or erased with some number of bytes programmed (R446). -/
def State.cutCopy (s : State) : State :=
  match s.wdn.running with
  | none => s
  | some r =>
    if r.policy ≠ 1 ∨ !(s.lane 0).copy then s
    else match s.golden (iGolden (s.imageRec r.plat r.image)) with
    | none => s
    | some e =>
      let (v, s) := s.freeVal
      if v % 2 = 0 then s else (s.copyImage { r with cut := true } e (s.readFor r.plat r.image 4 (geBase e)).block.length).2

/-- A store write on its way leaves its sector torn (R711). -/
def State.cutStore (s : State) : State :=
  match s.log.sealed.find? fun b => s.log.store.writing = some b.firstSeq with
  | none => s
  | some b => s.tornSector s.log.store.nextSector (s.sectorImage b s.log.store.nextSsn)

/-- The attached memories take what had reached them. -/
def State.cutWork (s : State) : State := (((List.range 5).foldl (fun s p => s.landOp p) s).cutCopy).cutStore.cutNvm

/-! ## The restart -/

/-- The package in reset: what the Vault domain, the fuse arrays, NVM, the attached flashes and the pins hold stays; everything else is as
before its first start. Every Flacon slot is zeroed, and a Nose session leaves its scrub owed (R53, R658, Table 7.8). -/
def State.inReset (s : State) : State :=
  let owed := s.nose.scrubOwed || !(decide (s.nose.state ∈ [.off, .empty]))
  { part := s.part, free := s.free, random := s.random, pending := s.pending,
    cores := { nvmA := s.cores.nvmA, nvmB := s.cores.nvmB },
    svc := { present := s.svc.present },
    log := { bootCount := s.log.bootCount },
    pwr := { mainPower := s.pwr.mainPower },
    nose := { scrubOwed := owed },
    frm := { active := s.frm.active },
    fus := { efuse := s.fus.efuse, antifuse := s.fus.antifuse },
    vlt := s.vlt.kept,
    boot := { pgood := s.boot.pgood },
    wdn := { flash := s.wdn.flash } }

/-- The package restarts; the fuse word in progress completes first (R53, R205). Its cold start is the next PORN_RELEASE. -/
def State.restart (s : State) : State := s.cutWork.fuseRestart.inReset

/-- A package that a restart can take: it is out of reset, and not in VAULT. -/
def State.canRestart (s : State) : Bool := s.boot.started && decide (s.pwr.state ≠ .vault)

/-- PORN_LOW: a pulse below 1 µs is never presented, one of 10 µs always; between them either may happen (R741, R762). -/
def execPornLow (widthNs : Nat) (s : State) : Out :=
  .next (if widthNs < 1000 then s
    else
      let (v, s) := if widthNs < 10000 then s.freeVal else (0, s)
      if v % 2 = 1 then s else s.restart)

/-- KEEPER_WDOG_EXPIRY (R53). -/
def execKeeperWdogExpiry (s : State) : Out := .next (if s.canRestart then s.restart else s)

/-- A clock fault: the next boot's first records tell it (R61). -/
def State.clockFault (s : State) : State := s.restart.modClk fun c => { c with clkFaultPrev := true }

/-- CLOCK_MONITOR_WINDOW: the count is kept, and one outside the window is a clock fault (R61). -/
def execClockMonitorWindow (count : Nat) (s : State) : Out :=
  .next (if !s.canRestart then s
    else
      let s := s.modClk fun c => { c with refCount := count }
      if count < 23682 ∨ 25146 < count then s.clockFault else s)

/-- LOSS_OF_PLL_LOCK (R61). -/
def execLossOfPllLock (s : State) : Out := .next (if s.canRestart then s.clockFault else s)

/-- LIFECYCLE_RESTART: 2^20 cycles after the response of a transition to RETURNED or SCRAPPED (R197). -/
def execLifecycleRestart (s : State) : Out :=
  .next (match s.fus.restartFrom with
    | none => s
    | some t => if s.canRestart then (s.advanceTo t).restart else s)

/-! ## Activation (R179) -/

/-- No pulse runs and no domain drains (item 5 of R179). -/
def State.quiet (s : State) : Bool :=
  (List.range 22).all (fun n => !s.draining n) && (List.range 4).all fun b => (s.requests b).all fun x => x.2.start.isNone

/-- The objects of an activation: every platform reset, every Warden port and every compartment. -/
def State.everyObject (s : State) : List (Nat × Nat) :=
  (List.range 4).map objReset ++ (List.range 5).map objWarden ++ ((List.range 1024).filter fun n => s.compPresent n).map objComp

/-- FRM.ACTIVATE (R179). -/
def execFrmActivate (r : Req) (s : State) : Out :=
  .next (s.command 0xC002 r (fun o s =>
    s.wellFormed o 48 [] fun s =>
    let digest := match s.frm.staged with | some f => sized 48 f.digest | none => []
    s.checks o [(s.restarting && !s.tookEffect 0xC002, 0x0005)] fun s =>
    s.order o (o.lockObjs ++ s.everyObject) fun s =>
    s.checks o
      [(s.frm.staged.isNone, 0x0001), (s.staging o, 0x0002), (s.redRefuses o, 0x0003), (decide (digest ≠ o.payload), 0x0004)]
      fun s =>
        let s := s.takesEffect o.port o.opcode s.everyObject
        ((s.modFrm fun f => { f with active := 1 - f.active, activating := true }).restartBegins).done o []))

/-- ACTIVATE_RESTART (item 5 of R179). -/
def execActivateRestart (s : State) : Out :=
  .next (if s.frm.activating && s.quiet && s.canRestart then (s.advanceTo s.frm.restartFrom).restart else s)

/-! ## Install (R460) -/

/-- Steps 2 to 4 of INSTALL: bank A is erased and programmed with the staged image, and its digest is checked. -/
def State.installImage (x : Presented) (s : State) : Bool × State :=
  let image := s.flashRead 4 keeperWindow (ihLen x.header + x.block.length)
  let s := s.modCores fun c => { c with nvmA := mwrite 0xFF (mclear c.nvmA 0 0xC0000) 0 image }
  ((readKeeper fun a n => s.nvmA a n).digest == x.digest, s)

/-- KEEPER_INSTALL_RESTART: the staged image is read and verified again, installed and checked, the notice is sent and the package
restarts. An image that no longer verifies ends the install without one (R460). -/
def execKeeperInstallRestart (s : State) : Out :=
  .next (match s.wdn.install with
    | none => s
    | some k =>
      if !(s.quiet && s.canRestart) then s
      else
        let s := s.advanceTo s.frm.restartFrom
        let x := s.stagedKeeper
        let refusal (d : Nat) (s : State) : State :=
          (s.modWdn fun w => { w with install := none }).settleTicket k cState (le 2 d ++ zeros 2)
        if !s.recoveryAllows 0 keeperWindow (ihLen x.header + x.block.length) then refusal 0x000B s
        else match s.keeperRefusal x with
        | some d => refusal d s
        | none =>
          let (ok, s) := s.installImage x
          if ok then (s.settleTicket k cOk []).restart else (refusal 0x000B s).restart)

/-! ## VAULT -/

/-- The package enters VAULT: the slots and engine keys are zeroed, the Cadence stops, and only the Vault domain goes on (R252, R671,
R672). -/
def State.enterVault (s : State) : State := s.inReset.modPwr fun p => { p with state := .vault }

/-- MAIN_POWER_LOST: the fall into VAULT; the fuse word in progress is cut (R206, R670, R696, R723, R763). -/
def execMainPowerLost (s : State) : Out :=
  .next (if !s.pwr.mainPower then s
    else (((s.cutWork.fuseCut).vaultRecord 0 8).enterVault).modPwr fun p => { p with mainPower := false })

/-- VAULT_ENTRY: 2^20 cycles after an accepted move to VAULT (R671). -/
def execVaultEntry (s : State) : Out :=
  .next (match s.pwr.vaultDue with
    | none => s
    | some t => if s.canRestart then ((s.advanceTo t).cutWork.fuseRestart).enterVault else s)

end Sys2Proof.Machine
end

