-- ==== Sys2Proof/Machine/ColdStart.lean ====
section
/-! DEFINITION. The cold start from PORn to the release order: steps 1 to 5, 13 and 15 of Table 9.1 (chapter 9; R71, R210 to R213, R225 to
R230, R238, R262 to R268). The steps on the links stand in Links, those of the Formula in Formula. -/

namespace Sys2Proof.Machine

/-! ## The Vault (R227 to R230) -/

/-- The Base note (R227). -/
def Vault.note (v : Vault) : Bytes := xorBytes v.noteA v.noteB

/-- VLT_CHECK of a Base note (Table 6.1). -/
def vaultCheck (note : Bytes) : Nat := u32 (sha (ascii "TXI-VLT" ++ note)) 0

/-- The class at start: 0 LIVE, 1 LOST, 2 QUASHED (Table 6.2). -/
def Vault.class (v : Vault) : Nat :=
  if v.state = 0x3C then (if v.check = vaultCheck v.note then 0 else 1) else if v.state = 0xC3 then 2 else 1

/-- Step 2: the class is latched and logged. A Vault that is not LIVE keeps nothing of its latch, and no source of it is watched before
the fuse check (R229, R230, R238). -/
def State.classifyVault (s : State) : State :=
  let c := s.vlt.class
  let s := s.modVlt fun v =>
    if c = 0 then { v with startClass := 0, resp := v.respCopy }
    else { v with startClass := c, resp := 0, srcEn := 0, staticActive := 0, redFlag := false, redMask := 0 }
  s.event 2 0 0x0105 c

/-- The watch copy and FLOOR from TAMPER_CFG (R191, R238). -/
def State.latchWatch (s : State) : State :=
  let w (a : Nat) : Nat := fuseWord s.fus.latchE a
  let s := s.modVlt fun v =>
    { v with srcEn := w 0x30 % 2 ^ 15, staticActive := w 0x33 % 256, tLo := w 0x34 % 256, tHi := w 0x34 / 256 % 256 }
  s.setResponses s.floorResponses

/-- A new Base note in one Vault write (R228). -/
def State.newBaseNote (s : State) : State :=
  let (note, s) := s.generate 32
  let (m, s) := s.draw 32
  s.modVlt fun v => { v with noteA := xorBytes note m, noteB := m, state := 0x3C, check := vaultCheck note }

/-- A mesh generator reseeded by the DRBG; a state of zero is replaced by 1 (R233). -/
def State.reseedMesh (s : State) (p : Nat) : State :=
  let (b, s) := s.generate 4
  let g := u32 b 0 % 2 ^ 31
  s.modVlt fun v => { v with mesh := tset {} v.mesh p { (tget {} v.mesh p) with gen := if g = 0 then 1 else g } }

/-! ## Hold and Keeper-ROM-only operation -/

/-- A failure of the start goes to the Vault event store, and the Sillage keeps no records. The spec states neither its source nor its code
(R212, R339, R703; log entry 3). -/
def State.startFailure (s : State) : State :=
  let (v, s) := s.freeVal
  (s.vaultRecord (v % 256) (v / 256 % 256)).modLog fun l => { l with entry := {} }

/-- Hold (R212). -/
def State.enterHoldState (s : State) : State := s.startFailure

/-- Keeper-ROM-only operation: SVC answers its three commands, everything else stays held (R198, R213, R339). -/
def State.enterRomOnly (s : State) : State :=
  let s := (s.modFus fun f => { f with romOnly := true }).modBoot fun b => { b with stage := 0x1F }
  (s.modSvc fun v => { v with isOpen := true }).startFailure

/-! ## Keeper firmware (R338, R343) -/

/-- DEVICE_SEED, which only the Accord receives (R188). -/
def State.deviceSeed (s : State) : Bytes := fuseBytes s.fus.latchA 0x08 8

/-- The release of the running Keeper firmware: 2.3 at security version 7 (R1); the spec gives no other's (log entry 3). -/
def State.keeperRelease (version : Nat) (s : State) : Nat × State :=
  if version = 7 then (0x0203, s) else let (v, s) := s.freeVal; (v % 65536, s)

/-- Keeper firmware passed: CDI_KF and entry 1 (R264, R268, R338). -/
def State.keeperPasses (x : Presented) (s : State) : State :=
  let ver := ihVersion x.header
  let (rev, s) := s.keeperRelease ver
  let s := s.modBoot fun b =>
    { b with kfVersion := some ver, kfDigest := sized 48 x.digest, kfUnit := (s.keeperUnit (sha (sbKeys x.block))).getD 0, kfRev := rev }
  let ctx := sized 48 x.digest ++ le 4 ver ++ le 1 s.lifecycle
  let s := s.fillSlot 125 (sysAttr 4 1 0 4 48) 0 (acc s.deviceSeed (ascii "TXI dice kf") ctx 48)
  s.appendEntry (measurementEntry 1 0xFF 0xFF 0 ver x.digest (s.part.romRev / 256 + 256 * (s.part.romRev % 256)))

/-- The Vault event store is imported and emptied (R71, R231). -/
def State.importVault (s : State) : State :=
  let put (s : State) (r : VaultEvent) : State :=
    s.putRec { cycle := s.now, slot := 0, source := r.source, code := 0x0100 + r.code, vault := true, arg2 := r.tick }
  let lost := s.vlt.overflow
  let s := s.modVlt fun v => { v with imported := v.store.length, importOverflow := v.overflow }
  let s := s.vlt.store.foldl put s
  let s := if lost = 0 then s else s.event 0 0 0x0109 0 lost
  s.modVlt fun v => { v with store := [], overflow := 0 }

/-- The VRES test (R225). -/
def State.testVres (vresNf : Nat) (s : State) : State :=
  if vresNf < 500 ∨ 4700 < vresNf then (s.modVlt fun v => { v with vresFault := true }).event 0 26 0x0106 else s

/-- DEVICEID and ALIAS, and the Alias certificate (R268, R462). -/
def State.deviceKeys (s : State) : State :=
  let s := s.fillSlot 123 (sysAttr 8 1 0 2 48) 0 (scalar384 (acc s.deviceSeed (ascii "TXI dice devid") s.devid 56))
  (s.derive 125 122 (sysAttr 8 1 0 2 48) 56 "TXI dice alias" s.devid scalar384).issueAlias

/-- Step 5 up to the wait for the DRBG (R343, R704). -/
def State.startFirmware (vresNf : Nat) (s : State) : State :=
  let s := (s.advanceTo (s.now + 1)).setStage 0x03
  let s := s.modLog fun l => { l with bootCount := (l.bootCount + 1) % 2 ^ 32 }
  let s := s.event 2 0 0x0001
  let s := if s.clk.clkFaultPrev then s.event 1 0 0x0009 else s
  let s := (s.importVault.testVres vresNf).deviceKeys
  s.modBoot fun b => { b with esWait := !s.drbgReady }

/-- Steps 2 to 5, from cycle 0. -/
def State.coldStart (vresNf : Nat) (senseFaults : List Nat) (s : State) : State :=
  let s := s.classifyVault
  let s := (s.advanceTo (s.now + 1)).fuseCheck senseFaults
  if s.fus.hold then s.enterHoldState
  else
    let s := (s.modFus fun f => { f with latched := true }).latchWatch
    if bit s.fus.region 4 ∨ s.lifecycle = 5 then s.enterRomOnly
    else
      let s := (s.advanceTo (s.now + 1)).setStage 0x02
      let x := readKeeper fun a n => s.nvmA a n
      if s.judgeKeeper false x ≠ 0 then s.enterRomOnly else (s.keeperPasses x).startFirmware vresNf

/-- PORN_RELEASE: with REFCLK present the PLL locks and the cold start begins at cycle 0; without it the package stays in reset
(R58, R59, R301, R334, R359, R672). -/
def execPornRelease (refclk : Bool) (vresNf : Nat) (senseFaults : List Nat) (s : State) : Out :=
  .next (if !refclk ∨ s.boot.started ∨ s.pwr.state = .vault then s
    else
      let s := s.modClk fun c => { c with now := 0, running := true }
      let s := (s.modPwr fun p => { p with mainPower := true }).modBoot fun b => { b with started := true }
      ((s.setDomain dKcore { condition := .on }).setDomain dCrypto { condition := .on }).coldStart vresNf senseFaults)

/-! ## Step 5 ends (R228, R230, R343) -/

/-- DRBG_READY: a new Base note and the Red flag where the Vault class calls for them, then step 6. -/
def execDrbgReady (s : State) : Out :=
  .next (if s.boot.stage ≠ 0x03 ∨ !s.drbgReady then s
    else
      let s := s.modBoot fun b => { b with esWait := false }
      let fresh := s.vlt.startClass ≠ 0
      let s := if fresh then s.newBaseNote else s
      let s := [0, 1, 2, 3].foldl State.reseedMesh s
      let s := if fresh ∧ (s.lifecycle = 2 ∨ s.lifecycle = 3) then s.enterRedFlag [(17, 0)] else s
      (s.advanceTo (s.now + 1)).startFormula)

/-! ## Step 13 (R345, R346) -/

/-- A platform waits for its port's HOLD procedure and, with WAIT_PGOOD, for PGOOD (R351, Table 9.5). -/
def State.platWaits (s : State) (p : Nat) : State :=
  let b := s.bootBody p
  s.modPlat p fun q =>
    { q with measuring := 1, state := if s.pgoodMet p then 1 else 2,
             pgoodUntil := if bWaits b then some (s.now + bPgoodMs b * 600000) else none }

/-- PORTS_OPEN: MB0, MB1 and SVC open, a passing Steward runs, and the declared Warden ports enter HOLD; with the Relay held every image is
READ (R345, R346, R352). -/
def execPortsOpen (s : State) : Out :=
  .next (if !s.boot.portsDue then s
    else
      let s := ((s.advanceTo (s.now + 1)).modBoot fun b => { b with portsDue := false }).setStage 0x08
      let s := (s.modMb fun m => { m with isOpen := true }).modSvc fun v => { v with isOpen := true }
      let s := if s.boot.stwVerdict = 0 then (s.setDomain dSteward { condition := .on }).stewardStarts else s
      if (s.link 0).state = .down then s.readEverything
      else (s.bootPlats.foldl State.platWaits s).holdPorts)

/-! ## Step 15 (R264, R265, R268, R354) -/

/-- The entries of an image: its own, then that of its recovery. -/
def State.imageEntries (p i : Nat) (s : State) : State :=
  let x := s.image p i
  let s := s.appendEntry (measurementEntry 3 p i (x.verdict.getD 4) x.version x.digest 0)
  if x.recoveryEntry.isEmpty then s else s.appendEntry x.recoveryEntry

/-- Step 3 of R264. -/
def State.platEntries (s : State) : State :=
  s.bootPlats.foldl (fun s p => (List.range (s.imageCount p)).foldl (fun s i => s.imageEntries p i) s) s

/-- The closed Heart note and the keys that descend from it (Table 7.3). -/
def State.closureKeys (s : State) : State :=
  let s := s.derive 127 126 (sysAttr 4 1 1 4 48) 48 "TXI heart" (sized 48 s.flc.maClose ++ le 1 s.flc.count) id
  let s := s.derive 126 121 (sysAttr 8 1 1 3 64) 64 "TXI cus kem" s.devid id
  let s := s.derive 126 120 (sysAttr 8 1 1 3 64) 64 "TXI nose kem" s.devid id
  s.derive 126 119 (sysAttr 8 1 1 2 48) 56 "TXI nose ecdh" s.devid scalar384

/-- Every image of every platform has its final verdict, and a Heart note can close (R265, R270). -/
def State.mayClose (s : State) : Bool :=
  decide (s.boot.stage = 0x08) && !s.flc.closed && s.slotValid 127 && s.bootPlats.all fun p => s.imagesFinal p

/-- HEART_CLOSURE: the entries, the closure edge after them, its keys and certificate; the POWER section's orders on the next edge. -/
def execHeartClosure (s : State) : Out :=
  .next (if !s.mayClose then s
    else
      let s := (s.setStage 0x09).platEntries
      let s := s.advanceTo (s.now + 1)
      let s := s.modFlc fun f => { f with maClose := f.ma, count := f.entries, closed := true }
      let s := s.closureKeys.issueHeart
      let s := s.modBoot fun b => { b with closeCycle := s.now, ref := s.now }
      let s := if s.orders.isEmpty then s.setStage 0x0A else s
      ((s.advanceTo (s.now + 1)).domainsAtClosure).modFrm fun f => { f with revalidating := true })

end Sys2Proof.Machine
end

