-- ==== Sys2Proof/Machine/Vault.lean ====
section
/-! DEFINITION. The Marshal's sources and responses, the DQ line, the Vault rows, and the Red flag's commands (chapter 6). -/

namespace Sys2Proof.Machine

/-! ## Responses (R237 to R240, R252, R253) -/

/-- The Marshal samples on the Cadence; else it runs on the Vault oscillator alone (R62, R252). -/
def State.onCadence (s : State) : Bool := s.clk.running

/-- An event of the Vault domain: a record of slot 0 while a Baton can be given and the Sillage keeps records, else one of the Vault event
store (R62, R237). -/
def State.vaultEvent (source code : Nat) (a0 a1 : Nat) (s : State) : State :=
  if s.onCadence && s.recording then s.event 0 source (0x0100 + code) a0 a1 else s.vaultRecord source code

/-- The source is watched (R232, R238). -/
def State.watched (source : Nat) (s : State) : Bool := bit s.vlt.srcEn source

/-- The response in force for a source (R238). -/
def State.response (source : Nat) (s : State) : Nat := (if s.onCadence then s.vlt.resp else s.vlt.respCopy) / 4 ^ source % 4

/-- What DQ destroys on its edge, in the Keeper: custody sessions, crypto jobs with a slot, the Nose session, every slot and the Base note
(R241, R243, R245, R254). -/
def State.dqDestroys (s : State) : State :=
  let s := ((s.closeSessions.cryptoDq).noseDq).sealBatch
  (s.modVlt fun v => { v with noteA := zeros 32, noteB := zeros 32, state := 0xC3, dqSeen := true }).modFlc fun f => { f with slots := [] }

/-- On edge E + 1 every platform is held, and each link in SESSION carries DQ_NOTICE and becomes LOST; a Bank takes the notice as the
lockdown (R242, R243). -/
def State.dqSpreads (s : State) : State :=
  let s := (List.range 4).foldl (fun s p =>
    s.modPlat p fun q => { q with released := false, state := if q.state = 6 then 8 else q.state }) s
  let s := s.banksInSession.foldl (fun s b => s.applyLockdown b (s.now + 33)) s
  let s := if s.inSession 0 then s.denyReviews else s
  (List.range 5).foldl (fun s l => if s.inSession l then s.loseLink l else s) s

/-- The DQ line is raised by a source: on the present edge with the Cadence, self-timed in the Vault domain without it (R241 to R244). -/
def State.dqFires (source : Nat) (s : State) : State :=
  let s := s.vaultEvent source 4 3 0
  if s.onCadence then s.dqDestroys.dqSpreads
  else s.modVlt fun v => { v with noteA := zeros 32, noteB := zeros 32, state := 0xC3 }

/-- The Red flag entered by a source whose response calls for it (R247, R253, R255). -/
def State.sourceRedFlag (source response : Nat) (s : State) : State :=
  if s.onCadence then (s.takesEffect .kpr 0 [objLockdown]).enterRedFlag [(source, response)]
  else (s.vaultEvent source 2 response 0).modVlt fun v => { v with redFlag := true, redMask := v.redMask ||| 2 ^ source }

/-- A trigger of a source applies its response, and each weaker one, once (R237). -/
def State.trigger (source : Nat) (s : State) : State :=
  let r := s.response source
  let s := s.modVlt fun v => { v with hit := v.hit ||| 2 ^ source }
  let s := s.vaultEvent source 1 r 0
  let s := if 1 ≤ r ∧ s.onCadence then (s.alert 2).fuseTamper else s
  let s := if r = 3 then s.dqFires source else s
  if 2 ≤ r then s.sourceRedFlag source r else s

/-- The filter output of a source: it becoming active is the source's trigger (R232, R237). -/
def State.filterOutput (source : Nat) (active : Bool) (s : State) : State :=
  let was := bit s.vlt.live source
  let s := s.modVlt fun v => { v with live := v.live - 2 ^ source * b2n was + 2 ^ source * b2n active }
  if active && !was then s.trigger source else s

/-- The sampling edge of a source: the first one from now on of its period and phase, after its last sample (R60, R232); none is counted in
VAULT. -/
def State.sampleTick (source period phase : Nat) (s : State) : State :=
  if !s.onCadence then s
  else
    let low := max s.now (tget 0 s.vlt.sampled source)
    let t := ceilDiv (low - phase) period * period + phase
    let s := s.advanceTo t
    s.modVlt fun v => { v with sampled := tset 0 v.sampled source (t + 1) }

/-! ## The active mesh (R233) -/

/-- One step of a generator: its bit, and its next state. -/
def meshStep (g : Nat) : Bool × Nat :=
  let next := (2 * g + (b2n (bit g 30) + b2n (bit g 27)) % 2) % 2 ^ 31
  (bit g 30, if next = 0 then 1 else next)

/-- The drive bit of the next bit period: a generator bit, then its complement; pairs begin on even bit periods. -/
def Mesh.drive (second : Bool) (m : Mesh) : Bool × Mesh :=
  if second ∧ m.second then (!m.bit, { m with second := false })
  else
    let (b, g) := meshStep m.gen
    (if second then !b else b, { m with gen := g, bit := b, second := !second })

/-- MESH_SAMPLE: a level of MESH_IN, presented 3 cycles after the end of its bit period. -/
def execMeshSample (pair : Nat) (level : Bool) (s : State) : Out :=
  onObject (pair < 4) (
    if !s.watched pair then s
    else
      let s := s.sampleTick pair 4096 4098
      let m := tget {} s.vlt.mesh pair
      let second := if s.onCadence then decide ((s.now - 4098) / 4096 % 2 = 1) else m.second
      let (drive, m) := m.drive second
      let past := m.window ++ [decide (drive ≠ level)]
      let window := past.drop (past.length - 16)
      let s := s.modVlt fun v => { v with mesh := tset {} v.mesh pair { m with window := window } }
      s.filterOutput pair (4 ≤ (window.filter id).length))

/-! ## The other sources (R235, R236) -/

/-- STATIC_SAMPLE: 4 consecutive active samples trigger, 2 in VAULT. -/
def execStaticSample (input : Nat) (level : Bool) (s : State) : Out :=
  onObject (input < 8) (
    let source := 4 + input
    if !s.watched source then s
    else
      let s := s.sampleTick source 2048 0
      let active := level == bit s.vlt.staticActive input
      let n := if active then tget 0 s.vlt.statics input + 1 else 0
      let s := s.modVlt fun v => { v with statics := tset 0 v.statics input (min n 4) }
      s.filterOutput source (decide ((if s.onCadence then 4 else 2) ≤ n)))

/-- The temperature window in °C, inclusive. -/
def Vault.window (v : Vault) : Int × Int := if v.tLo = 0 ∧ v.tHi = 0 then (-50, 160) else (signed 8 v.tLo, signed 8 v.tHi)

/-- VAULT_TEMP_SAMPLE: the temperature and VBAT are read; two readings outside the window trigger source 12. What VBAT reads is open
(log entry 3). -/
def execVaultTempSample (tempC : Int) (s : State) : Out :=
  .next (
    let s := s.sampleTick 12 (2 ^ 20) 0
    let (mv, s) := s.freeVal
    let s := s.modVlt fun v => { v with temp := unsigned 16 (4 * tempC), vbatMv := mv % 4096 }
    if !s.watched 12 then s
    else
      let w := s.vlt.window
      let n := if tempC < w.1 ∨ w.2 < tempC then min 2 (s.vlt.tempRun + 1) else 0
      (s.modVlt fun v => { v with tempRun := n }).filterOutput 12 (decide (2 ≤ n)))

/-- VBAT_GLITCH: the comparator presents a step of more than 0.4 V within 2 µs, which is active for one sample, or VBAT above 4.0 V. -/
def execVbatGlitch (step above4V : Bool) (s : State) : Out :=
  .next (if !s.watched 13 ∨ !s.vlt.armed then s
    else
      let s := s.filterOutput 13 (step || above4V)
      if above4V then s else s.modVlt fun v => { v with live := v.live - 2 ^ 13 * b2n (bit v.live 13) })

/-- Vault ticks are 48 bits. -/
def vaultTicks (n : Nat) : Nat := n % 2 ^ 48

/-- VAULT_OSC_PERIOD: a Vault period of so many cycles' length, or none within 100 µs. On main power two out of range trigger source 14; in
VAULT the self-timed watchdog takes a missing edge or a period below 15 µs. Every period is a Vault tick. -/
def execVaultOscPeriod (cycles : Option Nat) (s : State) : Out :=
  .next (
    let s := if cycles.isSome then s.modVlt fun v => { v with tick := vaultTicks (v.tick + 1) } else s
    if !s.watched 14 then s
    else match s.onCadence, cycles with
    | true, none => s
    | true, some c =>
      let n := if c < 16480 ∨ 20140 < c then min 2 (s.vlt.oscRun + 1) else 0
      (s.modVlt fun v => { v with oscRun := n }).filterOutput 14 (decide (2 ≤ n))
    | false, none => s.filterOutput 14 true
    | false, some c => s.filterOutput 14 (decide (c < 9000)))

/-! ## Supply and swirl (R226, R227, R236) -/

/-- VAULT_SWIRL: on a multiple of 32 768 Vault ticks both shares are re-masked in one Vault write; those of a QUASHED
Vault read zero (R241). -/
def execVaultSwirl (s : State) : Out :=
  let (m, s) := s.randomBytes 32
  .next (s.modVlt fun v =>
    let v := { v with tick := vaultTicks (ceilDiv v.tick 32768 * 32768) }
    if v.state = 0xC3 then v else { v with noteA := xorBytes (sized 32 v.noteA) m, noteB := xorBytes (sized 32 v.noteB) m })

/-- VBAT_LOW: VBAT falls below 2.3 V, which is reported, or rises above 2.4 V. -/
def execVbatLow (below : Bool) (s : State) : Out :=
  .next (
    let was := s.vlt.vbatLow
    let s := s.modVlt fun v => { v with vbatLow := below }
    if below && !was then s.vaultEvent 27 7 0 0 else s)

/-- VBAT_ARM: VBAT has stayed in range for 32 768 Vault ticks. -/
def execVbatArm (s : State) : Out := .next (s.modVlt fun v => { v with armed := true, vbatOk := true })

/-- VBAT_DISARM: VBAT is below 2.0 V. -/
def execVbatDisarm (s : State) : Out :=
  .next (s.modVlt fun v => { v with armed := false, vbatOk := false, live := v.live - 2 ^ 13 * b2n (bit v.live 13) })

/-- VAULT_RAIL_BELOW_HOLD: with main power absent the Vault contents are lost; they read as CORRUPT, or as LIVE with a check that fails
(R226). What remains of them is open (log entry 3). -/
def execVaultRailBelowHold (s : State) : Out :=
  .next (if s.pwr.mainPower then s
    else
      let (v, s) := s.freeVal
      let noise (k n : Nat) : Bytes := fit n fun i => Config.freeByte (s.free + 64 * k + i)
      let a := noise 0 32
      let b := noise 1 32
      let live := v % 2 = 0
      let good := vaultCheck (xorBytes a b)
      let check := let c := u32 (noise 2 4) 0; if c = good then (c + 1) % 2 ^ 32 else c
      let st := v / 2 % 256
      let corrupt := if st ∈ [0x00, 0x3C, 0xC3] then 0x01 else st
      let s := s.modVlt fun _ => { noteA := a, noteB := b, state := if live then 0x3C else corrupt, check := check,
                                   respCopy := u32 (noise 2 8) 4 % 2 ^ 30, vbatLow := s.vlt.vbatLow, redflagnLow := s.vlt.redflagnLow,
                                   tick := u64 (noise 2 16) 8 % 2 ^ 48 }
      { s with free := s.free + 256 })

/-! ## The Red flag's orders (R247, R251, R257, R258) -/

/-- REDFLAGN_LOW: presented low it is an order of the panel with bit 15; presented high it only frees the lift (R92, R251, R765). -/
def execRedflagnLow (low : Bool) (s : State) : Out :=
  .next (
    let was := s.vlt.redflagnLow
    let s := s.modVlt fun v => { v with redflagnLow := low }
    if !low ∨ was ∨ !s.onCadence then s else (s.event 15 0 0x0501).lockdownOrder .pnl 0 15)

/-- A core runs: the Keeper core its firmware, the Steward core once released. -/
def State.coreRuns (core : CoreId) (s : State) : Bool :=
  match core with
  | .keeper => s.boot.kfVersion.isSome
  | .steward => s.cores.steward = .running

/-- Address of KPR.RF_CTL as a core sees it. -/
def addrRfCtl : Nat := 0x4000071C

/-- RF_CTL_ENTER: Keeper firmware's lockdown; the Steward never reaches the register (R44, R247). -/
def execRfCtlEnter (core : CoreId) (value : Word) (s : State) : Out :=
  .next (if !s.coreRuns core then s
    else if core = .steward then s.accessFault .steward addrRfCtl
    else
      let s := s.logReserved .keeper addrRfCtl (value.toNat / 2 * 2)
      if bit value.toNat 0 then s.lockdownOrder .kpr 0 16 else s)

/-- SYS.LOCKDOWN. -/
def execSysLockdown (r : Req) (s : State) : Out :=
  .next (s.command 0x0040 r (fun o s => s.wellFormed o 0 [] fun s => (s.lockdownOrder o.port o.opcode 16).done o []))

/-- KPR.RF_STAT.MASK. -/
def State.rfMask (s : State) : Nat := s.vlt.redMask % 2 ^ 28

/-- A condition of R251 on sources or on REDFLAGn fails. -/
def State.liftBarred (s : State) : Bool :=
  decide (s.vlt.live &&& s.vlt.redMask &&& 0x7FFF ≠ 0) || (bit s.vlt.redMask 15 && s.vlt.redflagnLow)

/-- The Red flag lifts on the present edge; on the next one a lift message leaves for each Bank in SESSION, and the release order goes on
(R251, R357). -/
def State.liftRedFlag (o : Outstanding) (s : State) : State :=
  let s := s.event 0 16 0x0103 o.port.index s.vlt.redMask
  let s := s.modVlt fun v => { v with redFlag := false, redMask := 0 }
  let s := s.modBoot fun b => { b with liftRef := s.now + 2, rfWait := false }
  s.banksInSession.foldl (fun s b => s.applyLift b) s

/-- SYS.LIFT_LOCKDOWN. -/
def execSysLiftLockdown (r : Req) (s : State) : Out :=
  .next (s.command 0x0041 r (fun o s =>
    s.wellFormed o 4 [] fun s =>
      s.order o [objLockdown, objLift] fun s =>
      s.checks o [(!s.redFlag, 0x0044), (s.vlt.dqSeen, 0x0043), (decide (u32 o.payload 0 ≠ s.rfMask), 0x0042), (s.liftBarred, 0x0041)] fun s =>
        ((s.takesEffect o.port o.opcode [objLift]).liftRedFlag o).done o []))

/-! ## Registers and SYS.GET_TAMPER -/

/-- KPR.VLT_STAT, KPR.VLT_MON, KPR.RF_STAT, KPR.VEV_STAT and KPR.MSH_NOSE[n]. -/
def State.vltStat (s : State) : Nat :=
  s.vlt.startClass + 4 * b2n s.vlt.vbatOk + 8 * b2n s.vlt.armed + 16 * b2n s.vlt.vresFault + 32 * b2n s.vlt.vbatLow + 64 * b2n s.vlt.dqSeen
def State.vltMon (s : State) : Nat := s.vlt.vbatMv + 65536 * (s.vlt.temp % 4096)
def State.rfStat (s : State) : Nat := s.rfMask + 2 ^ 31 * b2n s.vlt.redFlag
def State.vevStat (s : State) : Nat := s.vlt.imported + 256 * s.vlt.importOverflow
def State.mshNose (n : Nat) (s : State) : Nat := tget 0xFF s.vlt.noseResp n

/-- SYS.GET_TAMPER. -/
def execSysGetTamper (r : Req) (s : State) : Out :=
  .next (s.command 0x0042 r (fun o s => s.wellFormed o 0 [] fun s =>
    s.done o (le 1 (b2n s.vlt.redFlag) ++ le 1 s.vlt.startClass ++ le 1 (s.vltStat / 4) ++ zeros 1 ++ le 4 s.vlt.redMask
      ++ le 2 s.vlt.live ++ le 2 s.vlt.hit ++ le 2 s.vlt.vbatMv ++ le 2 s.vlt.temp ++ le 1 s.vlt.imported ++ le 1 s.vlt.importOverflow
      ++ zeros 2 ++ le 8 s.vlt.redBaton ++ zeros 4)))

/-- VLT_TICK_LO_READ: the low bits, and the high ones latched; the Steward never reaches the register (R44, R62). -/
def execVltTickLoRead (core : CoreId) (s : State) : Out :=
  .next (if !s.coreRuns core then s
    else if core = .steward then s.accessFault .steward 0x40000744
    else (s.modVlt fun v => { v with tickHi := v.tick / 2 ^ 32 }).readResult .keeper (s.vlt.tick % 2 ^ 32))

end Sys2Proof.Machine
end

