-- ==== Sys2Proof/Machine/Registers.lean ====
section
/-! DEFINITION. What the cores do to the die windows and to their memories: the Steward watchdog, access rights, register reads and
writes, and the NVM controller (chapters 0 and 1, and the register sections of all chapters). -/

namespace Sys2Proof.Machine

/-! ## The Steward watchdog (R52, R54) -/

/-- The terminal edge of the Steward watchdog, while it counts. -/
def State.wdogDue (s : State) : Option Nat :=
  if s.cores.wdogEn && s.stewardOn then s.cores.wdogStart.map fun t => t + 1024 * max 1 s.cores.wdogTimeout else none

/-- Terminal count: the Steward core restarts, or is held after the fourth expiry of a window of 2^30 cycles. -/
def State.wdogExpires (s : State) : State :=
  let recent := (s.cores.expiries.filter fun t => s.now < t + 2 ^ 30) ++ [s.now]
  let s := (s.event 2 0 0x0006).modStw fun q => { q with rang := false }
  if 4 ≤ recent.length then
    (s.modCores fun c => { c with expiries := recent, steward := .held, wdogStart := none }).event 2 0 0x0007
  else s.modCores fun c => { c with expiries := recent, wdogStart := some s.now }

/-- STW_WDOG_EXPIRY. -/
def execStwWdogExpiry (s : State) : Out :=
  .next (match s.wdogDue with
    | none => s
    | some t => (s.advanceTo t).wdogExpires)

/-- STW_WDOG_KICK; one on the terminal edge or after it comes after the expiry. -/
def execStwWdogKick (value : Word) (s : State) : Out :=
  .next (if !s.stewardOn then s
    else
      let s := s.logReserved .steward 0x40000204 (value.toNat / 256 * 256)
      let expired := match s.wdogDue with | some t => decide (t ≤ s.now) | none => false
      if expired then s.wdogExpires.eventLate 3 0 0x0008 0 value.toNat
      else if value.toNat % 256 = 0xA5 then s.modCores fun c => { c with wdogStart := c.wdogStart.map fun _ => s.now }
      else s.event 3 0 0x0008 0 value.toNat)

/-! ## The address map (R42 to R46) -/

/-- What an address of Table 1.5 names: an offset of a die window, a memory, or nothing. -/
inductive Place where
  | kpr (off : Nat)
  | rly (off : Nat)
  | bnk (b off : Nat)
  | tcmSteward (off : Nat)
  | tcmKeeper (off : Nat)
  | nvm (bank off : Nat)
  | nowhere
  deriving DecidableEq, Repr

/-- Table 1.5. A core's access is of the word that the address lies in. -/
def placeOf (addr : Nat) : Place :=
  let a := addr / 4 * 4
  if a < 0x20000 then .tcmSteward a
  else if a < 0x08000000 then .nowhere
  else if a < 0x08010000 then .tcmKeeper (a - 0x08000000)
  else if a < 0x10000000 then .nowhere
  else if a < 0x10200000 then .nvm ((a - 0x10000000) / 0x100000) (a % 0x100000)
  else if a < 0x40000000 then .nowhere
  else if a < 0x41000000 then .kpr (a - 0x40000000)
  else if a < 0x42000000 then .rly (a - 0x41000000)
  else if a < 0x46000000 then .bnk ((a - 0x42000000) / 0x1000000) (a % 0x1000000)
  else .nowhere

/-- The registers of R45. -/
def stewardOwn (off : Nat) : Bool := off ∈ [0x10, 0x200, 0x204, 0x300, 0x304, 0x420, 0x424, 0x428, 0x42C, 0x430]

/-- KPR registers that only the Keeper core reaches (Table 1.6, KPR.CLK_MON, KPR.GOV_KEEPER). -/
def keeperReg (off : Nat) : Bool := off = 0x314 || decide (0x600 ≤ off ∧ off < 0xB00) || off = 0x1020

/-- PCR_STAGE and PCR_GO, which only the Keeper core reaches. -/
def pacerOnly (off : Nat) : Bool := decide (0x4F000 ≤ off ∧ off < 0x4F010)

/-- The Infield pool in the RLY window (R43). -/
def poolOffset (off : Nat) : Option Nat := if 0x800000 ≤ off ∧ off < 0x900000 then some (off - 0x800000) else none

/-- The partition a pool byte lies in; none beyond the allotment (R159). -/
def State.poolPart (a : Nat) (s : State) : Option Nat :=
  (List.range 6).find? fun k => let p := s.partition k; decide (p.1 ≤ a ∧ a < p.1 + p.2)

/-- STW_OPEN opens a partition to the Steward, for reads, or for reads and writes (R43, R159). -/
def State.poolOpens (write : Bool) (part : Nat) (s : State) : Bool :=
  let w := byteAt (s.sect 0x04 0) 6
  if part = 0 then bit w 0 && !write
  else if part = 2 then bit w 1
  else if part = 3 then bit w 2 && !write
  else if part = 4 then bit w 3
  else if part = 5 then bit w 4
  else false

/-- An access is granted (R42 to R46). -/
def State.granted (core : CoreId) (write : Bool) (p : Place) (s : State) : Bool :=
  let keeper := decide (core = .keeper)
  match p with
  | .tcmSteward _ => true
  | .tcmKeeper _ => keeper
  | .nvm bank _ => !write && (keeper || bank = 1)
  | .kpr off => keeper || (stewardOwn off && !(write && off = 0x200)) || (s.cores.winKpr && !stewardOwn off && !keeperReg off)
  | .rly off =>
    match poolOffset off with
    | none => keeper || (s.cores.winRly && !pacerOnly off)
    | some a =>
      match s.poolPart a with
      | none => false
      | some k => keeper || (s.cores.winRly && s.poolOpens write k)
  | .bnk b off => !s.dieAbsent (1 + b) && (keeper || (bit s.cores.winBnk b && !pacerOnly off))
  | .nowhere => false

/-- ACCESS_FAULT: an access of a core that runs, to a word where not every access is granted (R46). -/
def execAccessFault (core : CoreId) (addr : Nat) (s : State) : Out :=
  .next (if !s.coreRuns core ∨ s.granted core true (placeOf addr) then s else s.accessFault core addr)

/-! ## What registers read as -/

/-- The register `base + step × i`, for each `i` below `count`: its reserved bits and its value. -/
structure RegRow where
  base : Nat
  step : Nat
  count : Nat
  reserved : Nat
  value : Nat → State → Nat

/-- The index at which an offset meets a row. -/
def rowIndex (base step count off : Nat) : Option Nat :=
  if base ≤ off ∧ off < base + step * count ∧ (off - base) % step = 0 then some ((off - base) / step) else none

/-- A single register. -/
def reg1 (base reserved : Nat) (value : State → Nat) : RegRow := ⟨base, 4, 1, reserved, fun _ s => value s⟩

/-- A register of each link, Lane engine, MAC or port. -/
def regs (base step count reserved : Nat) (value : Nat → State → Nat) : RegRow := ⟨base, step, count, reserved, value⟩

/-- The 32-bit words of a byte string. -/
def wordAt (b : Bytes) (i : Nat) : Nat := u32 b (4 * i)

/-- KPR.STW_WIN, KPR.STW_WDOG_CTL, KPR.STW_STATUS. -/
def State.stwWin (s : State) : Nat := b2n s.cores.winKpr + 2 * b2n s.cores.winRly + 4 * s.cores.winBnk
def State.stwWdogCtl (s : State) : Nat := b2n s.cores.wdogEn + 65536 * s.cores.wdogTimeout
def State.stwStatus (s : State) : Nat :=
  b2n s.stw.dbRefused + 2 * b2n s.stw.crcErr + 4 * b2n s.stw.alignErr + 8 * b2n s.stw.rangeErr + 256 * s.outCount .stw 0

/-- KPR.MB_STAT, KPR.MB_ERR. -/
def State.mbStat (s : State) : Nat :=
  b2n s.mb.isOpen + 2 * s.mb.queue.length + 128 * s.outCount .mb0 0 + 4096 * b2n s.mb1In + 8192 * b2n (s.transfer .mb0 0 false).isSome
def State.mbErr (s : State) : Nat := s.mb.errCrc + 256 * s.mb.errAbort + 65536 * s.mb.errNotReady + 16777216 * s.mb.errOther

/-- KPR.SVC_STAT, KPR.CUS_STAT. -/
def State.svcStat (s : State) : Nat :=
  b2n s.svc.present + 2 * b2n s.svc.auth + 4 * b2n s.svc.lockUntil.isSome + 16 * s.outCount .svc 0 + 256 * s.svc.discards
def State.cusStat (s : State) : Nat :=
  maskOf 4 (fun k => s.sessionOpen (k + 1)) + 16 * b2n s.cus.handshake.isSome + 256 * min 255 s.cus.rejects + 65536 * min 65535 s.cus.tagFails

/-- KPR.FRM_STAT's neighbours of chapter 7: KPR.NOTE_STAT, KPR.SWIRL_STAT. -/
def State.noteStat (s : State) : Nat :=
  b2n (s.slotValid 127) + 2 * b2n s.flc.closed + 8 * b2n s.flc.maskStale + 16 * min 255 s.flc.entries + 4096 * (s.flc.count % 256)
def State.swirlStat (s : State) : Nat := s.flc.passes % 65536 + 65536 * s.flc.swirlRun

/-- KPR.NOS_LAST[i]. -/
def State.nosLast (i : Nat) (s : State) : Nat := ((List.range 4).map fun k => s.nose.last.getD (4 * i + k) 0 % 256 * 256 ^ k).sum

/-- Registers of the Keeper, offsets 0x000 to 0x5FF. -/
def kprLow : List RegRow :=
  [reg1 0x000 0xF0000000 State.topology, reg1 0x010 0xFFFFFFC0 State.stwWin, regs 0x100 16 5 0x0000FFC8 State.filState,
   regs 0x104 16 5 0 State.filErr, reg1 0x200 0x0000FFFE State.stwWdogCtl, reg1 0x204 0xFFFFFF00 (fun _ => 0),
   reg1 0x308 0 (fun s => s.clk.gun % 2 ^ 32), reg1 0x30C 0xF0000000 (fun s => s.clk.gun / 2 ^ 32),
   reg1 0x310 0xFFFE00C0 State.tkStat, reg1 0x314 0xFFFF0000 (fun s => s.clk.refCount), reg1 0x400 0xFFFFC000 State.mbStat,
   reg1 0x404 0 State.mbErr, reg1 0x410 0xFFFF0088 State.svcStat, reg1 0x420 0 (fun s => s.stw.ringBase + 2 ^ 17 * s.stw.ringSizeW),
   reg1 0x424 0xFFFE0000 (fun _ => 0), reg1 0x428 0xFFFE0000 (fun s => s.stw.ringWr), reg1 0x42C 0xFFFE0000 (fun s => s.stw.ringRd),
   reg1 0x430 0xFFFFE0F0 State.stwStatus, reg1 0x440 0x000000E0 State.cusStat, reg1 0x500 0x0000FFC0 State.frmStat,
   reg1 0x504 0 State.frmSerial, reg1 0x508 0 State.frmReject, regs 0x510 4 12 0 (fun i s => wordAt s.formulaDigest i)]

/-- Registers of the Keeper, offsets 0x600 to 0xAFF. -/
def kprMid : List RegRow :=
  [reg1 0x600 0x80808000 State.fusStat, reg1 0x604 0xFFF80000 State.fusFault, reg1 0x608 0xFFF00000 State.fusFin,
   reg1 0x60C 0xFFFF00F0 State.fusWin, reg1 0x700 0xFFFFFF80 State.vltStat, reg1 0x704 0xF000F000 State.vltMon,
   reg1 0x708 0xFFFF8000 (fun s => s.vlt.live), reg1 0x70C 0xFFFF8000 (fun s => s.vlt.hit), reg1 0x710 0xC0000000 (fun s => s.vlt.resp),
   reg1 0x718 0x70000000 State.rfStat, reg1 0x71C 0xFFFFFFFE (fun _ => 0), regs 0x720 4 8 0xFFFFFC00 State.mshNose,
   reg1 0x740 0xFFFF0080 State.vevStat, reg1 0x748 0xFFFF0000 (fun s => s.vlt.tickHi), regs 0x800 4 128 0 (fun n s => (s.slot n).attr),
   reg1 0xA00 0xFFF00000 State.noteStat, regs 0xA10 4 12 0 (fun i s => wordAt s.flc.ma i),
   regs 0xA40 4 12 0 (fun i s => wordAt s.flc.maClose i), reg1 0xA70 0xFFFFFFE0 (fun s => s.flc.swirlExp),
   reg1 0xA74 0xFFE00000 State.swirlStat]

/-- Registers of the Keeper, from offset 0xB00. -/
def kprHigh : List RegRow :=
  [reg1 0xB00 0xFFF80000 State.cryStat, reg1 0xB04 0xFFFFF000 State.esStat, reg1 0xB08 0 (fun s => s.cry.rct),
   reg1 0xB0C 0 (fun s => s.cry.apt), reg1 0xB10 0 (fun s => s.cry.reseeds), reg1 0xC00 0xFFF80000 State.bootStat,
   regs 0xC10 4 4 0x0000FF00 State.bootPlat, reg1 0xC20 0 (fun s => s.boot.closeCycle % 2 ^ 32),
   reg1 0xC24 0xF0000000 (fun s => s.boot.closeCycle / 2 ^ 32), reg1 0xD00 0 State.rcvStat, regs 0xD10 4 4 0x0000F800 State.rcvPlat,
   regs 0xE00 4 32 0xFC00FF80 State.cmpGroup, reg1 0xF00 0 (fun s => s.nose.stat), reg1 0xF04 0xFF000000 (fun s => s.nose.infTime),
   reg1 0xF08 0 (fun s => s.nose.cnt), regs 0xF0C 4 2 0 State.nosLast, reg1 0x1000 0x000000F0 State.pwrStat,
   reg1 0x1004 0xFFC00000 (State.domainMask .on), reg1 0x1008 0xFFC00000 (State.domainMask .switching),
   reg1 0x100C 0xFFC00000 (State.domainMask .gated), reg1 0x1010 0xFFC00000 (State.domainMask .drain),
   reg1 0x1014 0xFFC00000 State.claimMask, reg1 0x1020 0xFFFF0000 (fun s => govReg s.keeperGovernor), regs 0x1040 4 5 0 (State.monReg 0),
   reg1 0x1100 0xFF808000 State.logStat, reg1 0x1104 0 (fun s => s.log.nextSeq), regs 0x1110 4 12 0 (fun i s => wordAt s.log.chain i),
   reg1 0x1140 0 State.logDrop, reg1 0x1144 0x00FC0000 State.logAlert]

def kprRegs : List RegRow := kprLow ++ kprMid ++ kprHigh

/-- RLY.TRACK[m] (R731). -/
def State.trackReg (m : Nat) (s : State) : Nat :=
  let b := s.sect 0x02 0
  tmFunc b m + 256 * tmAttr b m + 65536 * ballGroup m + 2 ^ 19 * b2n (s.hasSect 0x02 0)

/-- A word of a custom entry: 2 × entry + half. -/
def State.customWord (p i : Nat) (s : State) : Nat := tget (u32 (s.sect 0x03 p) (64 + 4 * i)) s.wdn.custom (128 * p + i)

/-- RLY.NET_SP_STAT. -/
def State.spStat (s : State) : Nat := s.spCells + 256 * s.spLimit

/-- The staged entry of an engine. -/
def State.laneStaged (e w : Nat) (s : State) : Nat := wordAt (sized 32 (s.lane e).staged) w

/-- Registers of one Lane engine. -/
def laneRegs (e : Nat) : List RegRow :=
  let b := 0x30000 + 0x100 * e
  [reg1 b 0xFC0000E0 (State.laneCfg e), reg1 (b + 0x04) 0xFFFFFFE0 (fun s => (s.lane e).contTo), regs (b + 0x10) 4 8 0 (State.laneStaged e),
   reg1 (b + 0x30) 0 (fun _ => 0), reg1 (b + 0x34) 0xF8000000 (State.lanePushStat e), reg1 (b + 0x38) 0xFFFFFFFE (fun _ => 0),
   reg1 (b + 0x48) 0x0000FFE0 (State.laneTgt e), reg1 (b + 0x4C) 0xFFFFE000 (fun _ => 0), reg1 (b + 0x50) 0 (State.laneErr e),
   reg1 (b + 0x54) 0xF8000000 (State.laneAreaReg e), reg1 (b + 0x58) 0xFFFFFF00 (fun s => (s.lane e).notReady)]

/-- Registers of the Warden ports. -/
def wardenRegs : List RegRow :=
  [regs 0x20000 0x40 5 0xFFFFC000 State.wdnWire, regs 0x20004 0x40 5 0xFF000000 State.wdnShadow, regs 0x20008 0x40 5 0 State.wdnWcnt,
   regs 0x20010 0x40 5 0x0000FFE0 State.wdnPhase, regs 0x20014 0x40 5 0x000000E0 State.wdnReview, regs 0x20018 0x40 5 0 State.wdnReviewAddr,
   regs 0x2001C 0x40 5 0 State.wdnRcnt, regs 0x20020 0x40 5 0xFF000000 State.wdnPin,
   regs 0x21000 4 512 0 (fun i s => s.customWord (i / 128) (i % 128))]

/-- Registers of the Pacer of a die. -/
def pacerRegs (die buckets : Nat) : List RegRow :=
  [regs 0x40000 32 buckets 0 (fun n s => s.pcrReg die n 0), regs 0x40004 32 buckets 0 (fun n s => s.pcrReg die n 1),
   regs 0x40008 32 buckets 0 (fun n s => s.pcrReg die n 2), regs 0x4000C 32 buckets 0 (fun n s => s.pcrReg die n 3),
   regs 0x40010 32 buckets 0xFF000000 (fun n s => s.pcrReg die n 4), regs 0x40014 32 buckets 0 (fun n s => s.pcrReg die n 5),
   regs 0x4F000 4 3 0 (fun i s => s.pcrStage die i), reg1 0x4F00C 0xFFFFFC00 (fun _ => 0)]

/-- RLY.NET_MDIO_CMD[m]; GO reads 0 between two commands. -/
def State.mdioCmd (m : Nat) (s : State) : Nat := (s.mac m).mdioData + 65536 * (s.mac m).mdioReg + 2 ^ 21 * b2n (s.mac m).mdioWrite

/-- Registers of the MACs and of the frame paths. -/
def netRegs : List RegRow :=
  [regs 0x50000 0x100 2 0xFFFFE000 State.netMac, regs 0x50004 0x100 2 0xFFFE0080 State.netLimits,
   regs 0x50008 0x100 2 0 (fun m s => (s.mac m).rxOk), regs 0x5000C 0x100 2 0 (fun m s => (s.mac m).rxErrReg),
   regs 0x50010 0x100 2 0 (fun m s => (s.mac m).dropReg), regs 0x50014 0x100 2 0 (fun m s => (s.mac m).txOk),
   regs 0x50018 0x100 2 0xFF000000 (fun m s => (s.mac m).txErrReg), regs 0x50020 0x100 2 0xFF800000 State.mdioCmd,
   reg1 0x50800 0 (fun s => s.net.spHead), reg1 0x50804 0 (fun s => s.net.spTail), reg1 0x50808 0xFFFE0080 State.spStat,
   regs 0x51000 4 256 0 (fun i s => wordAt ((graphOf (s.sect 0x05 0)).getD (i / 4) []) (i % 4))]

/-- Registers of the classifier. -/
def classRegs : List RegRow :=
  [reg1 0x60000 0x0000FF80 (fun s => s.netEpoch), regs 0x60010 8 2 0 (fun d s => (s.mac d).clsReg), regs 0x60014 8 2 0 (fun d s => (s.mac d).misses),
   reg1 0x60040 0 State.netCusCnt, reg1 0x60080 0xFFFFF800 State.netMrCfg, reg1 0x60084 0 (fun s => s.net.mrTail),
   reg1 0x60088 0 (fun s => s.net.mrHead), reg1 0x6008C 0 State.netMrDrop,
   regs 0x61000 16 4096 0 (fun i s => (tget {} s.net.cls.counts i).frames),
   regs 0x61004 16 4096 0 (fun i s => (tget {} s.net.cls.counts i).bytes % 2 ^ 32),
   regs 0x61008 16 4096 0xFFFF0000 (fun i s => (tget {} s.net.cls.counts i).bytes / 2 ^ 32),
   regs 0x6100C 16 4096 0 (fun i s => (tget {} s.net.cls.counts i).refused),
   regs 0x78000 4 128 0 (fun i s => wordAt (tget [] s.net.cls.current.ranges (i / 2)) (i % 2)),
   regs 0x80000 4 131072 0 (fun i s => wordAt (tget [] s.net.cls.current.rules (i / 32)) (i % 32))]

def rlyRegs : List RegRow :=
  [regs 0x10000 4 96 0xFFF00000 State.trackReg] ++ wardenRegs ++ laneRegs 0 ++ laneRegs 1 ++ pacerRegs 0 512 ++ netRegs ++ classRegs
    ++ [regs 0x100000 4 8 0 (State.monReg 1)]

/-- Registers of a Bank. -/
def bnkRegs (b : Nat) : List RegRow :=
  [regs 0x10000 4 256 0xFFFF0000 (fun n s => s.cmpState (256 * b + n)),
   regs 0x11000 4 64 0 (fun i s => wordAt (s.profile b (i / 4)) (i % 4)), reg1 0x12000 0xFE000000 (State.cmpScan b),
   reg1 0x12004 0xFFE00000 (State.cmpGate b), reg1 0x1200C 0xFFFF00E0 (State.cmpFault b), reg1 0x4F100 0xE0000000 (State.pcrHeat b),
   reg1 0x4F104 0 (fun s => (s.bank b).dispatched + 65536 * (s.bank b).skipped), regs 0x50000 4 4 0 (State.monReg (2 + b)),
   reg1 0x50010 0 (fun s => govReg (s.bankGovernor b))] ++ pacerRegs (1 + b) 64

/-- The value and the reserved bits of the register at an offset. -/
def regAt (rows : List RegRow) (off : Nat) (s : State) : Option (Nat × Nat) :=
  rows.findSome? fun r => (rowIndex r.base r.step r.count off).map fun i => (r.value i s, r.reserved)

/-! ## What reads clear (R16) -/

/-- Counters of KPR registers read RC. -/
def State.kprClears (off : Nat) (s : State) : State :=
  match rowIndex 0x104 16 5 off with
  | some l => s.modLink l fun k => { k with tagFail := 0, retx := 0 }
  | none =>
    if off = 0x404 then s.modMb fun m => { m with errCrc := 0, errAbort := 0, errNotReady := 0, errOther := 0 }
    else if off = 0x410 then s.modSvc fun v => { v with discards := 0 }
    else if off = 0x440 then s.modCus fun c => { c with rejects := 0, tagFails := 0 }
    else if off = 0xF08 then s.modNose fun n => { n with done := 0, dropped := 0, warmup := 0 }
    else if off = 0x1140 then s.modLog fun l => { l with entry := { l.entry with low := 0, high := 0, discarded := 0 } }
    else s

/-- REFUSED of a bucket. -/
def State.bucketClears (die buckets off : Nat) (s : State) : State :=
  match rowIndex 0x40014 32 buckets off with
  | some n => s.setBucket die n { s.bucket die n with refused := 0 }
  | none => s

/-- Counters of a MAC. -/
def Mac.clears (off : Nat) (k : Mac) : Mac :=
  if off = 0x08 then { k with rxOk := 0 }
  else if off = 0x0C then { k with fcs := 0, runt := 0, oversize := 0, rxErr := 0 }
  else if off = 0x10 then { k with bufferFull := 0, malformed := 0, slowFull := 0, macCtl := 0 }
  else if off = 0x14 then { k with txOk := 0 }
  else if off = 0x18 then { k with txLinkdown := 0, txDisabled := 0, pauseRx := 0 }
  else k

/-- Counters of RLY registers read RC. -/
def State.rlyClears (off : Nat) (s : State) : State :=
  if off < 0x20140 then
    let p := (off - 0x20000) / 0x40
    if off < 0x20000 then s
    else if off % 0x40 = 0x08 then s.modPort p fun q => { q with deniedRead := 0, busyRead := 0, aborted := 0, deniedOpc := 0 }
    else if off % 0x40 = 0x1C then s.modPort p fun q => { q with opened := 0, approved := 0, denied := 0, expired := 0 }
    else s
  else if off = 0x30050 ∨ off = 0x30150 then
    s.modLane (off / 0x100 % 16) fun l => { l with errAborted := 0, errNotReady := 0, errBroken := 0, errOther := 0 }
  else if 0x40000 ≤ off ∧ off < 0x50000 then s.bucketClears 0 512 off
  else if 0x50000 ≤ off ∧ off < 0x50200 then s.modMac (off / 0x100 % 16) (Mac.clears (off % 0x100))
  else if off = 0x60010 ∨ off = 0x60018 then
    s.modMac ((off - 0x60010) / 8) fun k => { k with missDrop := 0, stale := 0, overDrop := 0, injLoop := 0 }
  else if off = 0x60014 ∨ off = 0x6001C then s.modMac ((off - 0x60014) / 8) fun k => { k with misses := 0 }
  else if off = 0x60040 then s.modNet fun n => { n with steered := 0, cusFull := 0, cusLink := 0 }
  else if off = 0x6008C then s.modNet fun n => { n with mrFull := 0, mrOff := 0 }
  else s

/-- Counters of BNK registers read RC. -/
def State.bnkClears (b off : Nat) (s : State) : State :=
  if off = 0x4F104 then s.modBank b fun k => { k with dispatched := 0, skipped := 0 }
  else if off = 0x1200C then s.modBank b fun k => { k with overcurrents := 0 }
  else s.bucketClears (1 + b) 64 off

/-! ## The Infield pool as the cores see it -/

/-- The word of a region table at an offset of the REGION partition: table `k` belongs to the k-th WARDEN_PORT section; the shadow lies
0x1000 behind the live table (RLY.WDN_REGION, RLY.WDN_REGION_SH). -/
def State.regionWord (a : Nat) (s : State) : Nat :=
  let ports := match s.frm.applied with
    | none => []
    | some f => (f.sections.filter fun x : Section => x.type = 0x03).map Section.inst
  match ports[a / 0x2000]? with
  | none => 0
  | some p =>
    let t := if bit a 12 then (s.wport p).shadow else (s.wport p).live
    wordAt (tget noDescriptor t (a / 16 % 256)) (a / 4 % 4)

/-- A COPY holds the chunk buffers at this pool offset (R475). -/
def State.chunkBuffer (a : Nat) (s : State) : Bool :=
  (s.lane 0).copy && decide ((s.laneArea 0).1 ≤ a ∧ a < (s.laneArea 0).1 + 0x2000)

/-- The engine whose staged frame lies at this pool offset (R496). -/
def State.stagedAt (a : Nat) (s : State) : Option Nat :=
  [0, 1].find? fun e =>
    let t := (s.laneArea e).1 + 0x4000
    decide (s.laneRole e = 2) && (s.lane e).tx.isSome && decide (t ≤ a ∧ a < t + 0x1000)

/-- A word of the pool: zero in a page that is not committed and in a chunk buffer (R424, R475). -/
def State.poolWord (a : Nat) (s : State) : Nat :=
  match s.poolPart a with
  | some 0 => if s.wdn.committed.contains (a / 4096) then wordAt (s.poolRead a 4) 0 else 0
  | some 1 => s.regionWord (a - (s.partition 1).1)
  | _ => if s.chunkBuffer a then 0 else wordAt (s.poolRead a 4) 0

/-- A word written to the pool. The pinned store is filled at the measurement and the region tables are read only (R349, R407); a chunk
buffer and a staged frame discard the write, which is logged (R475, R496). -/
def State.poolStore (core : CoreId) (addr a : Nat) (v : Word) (s : State) : State :=
  if s.poolPart a = some 0 ∨ s.poolPart a = some 1 then s
  else if s.chunkBuffer a then (s.laneOther 0).logRefusedWrite core addr v
  else match s.stagedAt a with
    | some e => (s.laneOther e).logRefusedWrite core addr v
    | none => s.poolWrite a (le 4 v.toNat)

/-! ## Reads -/

/-- TK_NOW_LO_READ: the count of this edge, and its high bits latched in the core's own copy (R88). -/
def execTkNowLoRead (core : CoreId) (s : State) : Out :=
  .next (if !s.coreRuns core then s
    else
      let put (c : Clock) : Clock :=
        match core with
        | .keeper => { c with nowHiKeeper := s.now / 2 ^ 32 }
        | .steward => { c with nowHiSteward := s.now / 2 ^ 32 }
      (s.modClk put).readResult core (s.now % 2 ^ 32))

/-- Levels presented on the balls of RLY.TRACK_IN[i]: open for a ball that carries a function, 0 for the others (log entry 3). -/
def State.trackIn (core : CoreId) (i : Nat) (s : State) : State :=
  let (v, s) := s.freeVal
  s.readResult core (v % 2 ^ 32 &&& maskOf 32 fun j => tmFunc (s.sect 0x02 0) (32 * i + j) ≠ 0)

/-- A read of a KPR register. -/
def State.kprRead (core : CoreId) (off : Nat) (s : State) : State :=
  if off = 0x304 then s.readResult core (if core = .keeper then s.clk.nowHiKeeper else s.clk.nowHiSteward)
  else (s.kprClears off).readResult core (((regAt kprRegs off s).map Prod.fst).getD 0)

/-- A read of a RLY register or pool word. -/
def State.rlyRead (core : CoreId) (off : Nat) (s : State) : State :=
  match poolOffset off with
  | some a => s.readResult core (s.poolWord a)
  | none =>
    if off = 0x30044 ∨ off = 0x30144 then
      let l := s.lane (off / 0x100 % 16)
      s.readResult core (if core = .keeper then l.doneHiKeeper else l.doneHiSteward)
    else match rowIndex 0x10200 4 3 off with
      | some i => s.trackIn core i
      | none => (s.rlyClears off).readResult core (((regAt rlyRegs off s).map Prod.fst).getD 0)

/-- A read of a BNK register; what the row comparators present is open (log entry 3). -/
def State.bnkRead (core : CoreId) (b off : Nat) (s : State) : State :=
  if off = 0x12008 then (s.freeVal.2).readResult core (s.freeVal.1 % 2 ^ 32)
  else (s.bnkClears b off).readResult core (((regAt (bnkRegs b) off s).map Prod.fst).getD 0)

/-- The word of an NVM bank. -/
def State.nvmWord (bank off : Nat) (s : State) : Nat := wordAt (mread 0xFF (if bank = 0 then s.cores.nvmA else s.cores.nvmB) off 4) 0

/-- A granted read. A read of a partner die whose link is not in SESSION returns nothing. -/
def State.readPlace (core : CoreId) (p : Place) (s : State) : State :=
  match p with
  | .kpr off => s.kprRead core off
  | .rly off => if s.inSession 0 then s.rlyRead core off else s
  | .bnk b off => if s.inSession (1 + b) then s.bnkRead core b off else s
  | .tcmSteward off => s.readResult core (wordAt (mread 0 s.cores.tcmSteward off 4) 0)
  | .tcmKeeper off => s.readResult core (wordAt (mread 0 s.cores.tcmKeeper off 4) 0)
  | .nvm bank off => s.readResult core (s.nvmWord bank off)
  | .nowhere => s

/-- RC_REGISTER_READ, and the read of any other word: its value, which an RC field then clears; the registers whose read does more have it
of their own rows. -/
def execRcRegisterRead (core : CoreId) (addr : Nat) (s : State) : Out :=
  let a := addr / 4 * 4
  if !s.coreRuns core then .next s
  else if !s.granted core false (placeOf addr) then .next (s.accessFault core addr)
  else if a = 0x40000300 then execTkNowLoRead core s
  else if a = 0x40000744 then execVltTickLoRead core s
  else if a = 0x41030040 then execLaneDoneRead core 0 s
  else if a = 0x41030140 then execLaneDoneRead core 1 s
  else .next (s.readPlace core (placeOf addr))

/-! ## Writes (R15, R55, R184) -/

/-- The fields that a write of MSH_RESP may change: those at or above their FLOOR, and DQ only with its DQ_EN bit (R239). -/
def State.respBarred (v : Nat) (s : State) : Nat :=
  let floor := s.floorResponses
  let dq := fuseWord s.fus.latchE 0x32
  ((List.range 15).map fun k =>
    let r := v / 4 ^ k % 4
    if r < floor / 4 ^ k % 4 ∨ (r = 3 ∧ !bit dq k) then 3 * 4 ^ k else 0).sum

/-- A write of KPR.MSH_RESP before the seal. -/
def State.writeResp (addr v : Nat) (s : State) : State :=
  let barred := s.respBarred v
  let keep := barred &&& s.vlt.resp
  let take := v % 2 ^ 30 - (v % 2 ^ 30 &&& barred)
  (if barred = 0 then s else s.event 2 0 0x0003 0 addr barred).setResponses (take ||| keep)

/-- A write of KPR.MSH_NOSE[n] before the seal; RESPONSE 3 leaves its field and is logged. -/
def State.writeNose (addr n v : Nat) (s : State) : State :=
  let bad := v / 256 % 4 = 3
  let r := if bad then s.mshNose n / 256 * 256 else v / 256 % 4 * 256
  let s := if bad then s.event 2 0 0x0003 0 addr 0x300 else s
  s.modVlt fun t => { t with noseResp := tset 0xFF t.noseResp n (v % 256 + r) }

/-- A write of an RWS field: until the seal it is stored, and then it is only logged (R15, R184). -/
def State.untilSeal (core : CoreId) (addr v : Nat) (body : State → State) (s : State) : State :=
  if s.frm.isSealed then s.event (coreSlot core) 0 0x0004 0 addr v else body s

/-- Fields of KPR registers that a write stores; every other register keeps its value. -/
def State.kprStore (core : CoreId) (off v : Nat) (s : State) : State :=
  let addr := 0x40000000 + off
  if off = 0x010 then
    s.untilSeal core addr v fun s => s.modCores fun c => { c with winKpr := bit v 0, winRly := bit v 1, winBnk := bits v 5 2 }
  else if off = 0x200 then
    s.untilSeal core addr v fun s => s.modCores fun c => { c with wdogEn := bit v 0, wdogTimeout := bits v 31 16 }
  else if off = 0x42C then s.modStw fun q => { q with ringRd := v % 2 ^ 17 }
  else if off = 0x430 then
    s.modStw fun q =>
      { q with dbRefused := q.dbRefused && !bit v 0, crcErr := q.crcErr && !bit v 1, alignErr := q.alignErr && !bit v 2,
               rangeErr := q.rangeErr && !bit v 3 }
  else if off = 0x70C then s.modVlt fun t => { t with hit := t.hit - (t.hit &&& v) }
  else if off = 0x710 then s.untilSeal core addr v (State.writeResp addr v)
  else if off = 0xA70 then
    if v % 32 < 16 ∨ 24 < v % 32 then s.event (coreSlot core) 0 0x0003 0 addr v else s.setSwirl (v % 32)
  else match rowIndex 0x720 4 8 off with
    | some n => s.untilSeal core addr v (State.writeNose addr n v)
    | none => s

/-- Fields of a Lane engine's registers that a write stores. -/
def State.laneStore (core : CoreId) (addr e off v : Nat) (s : State) : State :=
  if off = 0x00 then
    s.modLane e fun l =>
      { l with wphold := bit v 2, crcEn := bit v 3, isOpen := bit v 4, css := max 1 (bits v 11 8), csh := max 1 (bits v 15 12),
               csi := max 1 (bits v 19 16), rtd := bits v 25 20, closedAt := if l.isOpen && !bit v 4 then some s.now else l.closedAt }
  else if off = 0x04 then
    if v % 32 < 10 ∨ 30 < v % 32 then s.event (coreSlot core) 0 0x0003 0 addr v else s.modLane e fun l => { l with contTo := v % 32 }
  else if off = 0x58 then s.modLane e fun l => { l with notReady := v % 256 }
  else match rowIndex 0x10 4 8 off with
    | some w => s.modLane e fun l => { l with staged := withWord (sized 32 l.staged) (4 * w) v }
    | none => s

/-- Fields of RLY registers that a write stores. -/
def State.rlyStore (core : CoreId) (off v : Nat) (s : State) : State :=
  let addr := 0x41000000 + off
  if 0x30000 ≤ off ∧ off < 0x30200 then s.laneStore core addr (off / 0x100 % 16) (off % 0x100) v
  else if off = 0x50000 ∨ off = 0x50100 then
    let m := off / 0x100 % 16
    s.modMac m fun k => { k with txdly := bit v 4, rxdly := bit v 5, phy := (bits v 12 8 + 31 - m) % 32 }
  else match rowIndex 0x4F000 4 3 off with
    | some i => s.setPcrStage 0 i v
    | none =>
      match rowIndex 0x21000 4 512 off with
      | some i => s.untilSeal core addr v fun s => s.modWdn fun w => { w with custom := tins w.custom i v }
      | none => s

/-- Fields of BNK registers that a write stores. -/
def State.bnkStore (b off v : Nat) (s : State) : State :=
  match rowIndex 0x4F000 4 3 off with
  | some i => s.setPcrStage (1 + b) i v
  | none => s

/-- A register or memory word as an object of the photo finish (R55). -/
def objWord (addr : Nat) : Nat × Nat := (13, addr)

/-- The Steward's write on the edge of the Keeper's to the same register is discarded and logged (R55). -/
def State.writeLoses (core : CoreId) (addr : Nat) (s : State) : Bool := decide (core = .steward) && (s.winner [objWord addr]).isSome

/-- The Keeper's write is kept while its edge lasts. -/
def State.writeWins (core : CoreId) (addr : Nat) (s : State) : State :=
  if core = .keeper then s.takesEffect .kpr 0 [objWord addr] else s

/-- A granted write of a register without behaviour of its own: its reserved bits are logged, its fields stored (R15). -/
def State.storePlace (core : CoreId) (addr : Nat) (v : Word) (p : Place) (s : State) : State :=
  let log (rows : List RegRow) (off : Nat) (s : State) : State :=
    s.logReserved core addr (v.toNat &&& ((regAt rows off s).map Prod.snd).getD 0)
  match p with
  | .kpr off => (log kprRegs off s).kprStore core off v.toNat
  | .rly off =>
    match poolOffset off with
    | some a => if s.inSession 0 then s.poolStore core addr a v else s
    | none => if s.inSession 0 then (log rlyRegs off s).rlyStore core off v.toNat else s
  | .bnk b off => if s.inSession (1 + b) then (log (bnkRegs b) off s).bnkStore b off v.toNat else s
  | .tcmSteward off => s.modCores fun c => { c with tcmSteward := mwrite 0 c.tcmSteward off (le 4 v.toNat) }
  | .tcmKeeper off => s.modCores fun c => { c with tcmKeeper := mwrite 0 c.tcmKeeper off (le 4 v.toNat) }
  | .nvm _ _ => s
  | .nowhere => s

/-- A write of a Lane engine's register that has a row of its own. -/
def laneWrite (core : CoreId) (e off : Nat) (v : Word) (s : State) : Option Out :=
  if off = 0x30 then some (execLanePush core e v s)
  else if off = 0x38 then some (execLaneCancel core e v s)
  else if off = 0x48 then some (execLaneRxFree core e v s)
  else if off = 0x4C then some (execLaneTxStage core e v s)
  else none

/-- A write of a register that has a row of its own. -/
def ownWrite (core : CoreId) (addr : Nat) (v : Word) (s : State) : Option Out :=
  let pacer (die : Nat) : Out := if v.getLsbD 9 then execPcrGoForgive core die v s else execPcrGoRate core die v s
  match placeOf addr with
  | .kpr off =>
    if off = 0x204 then some (execStwWdogKick v s)
    else if off = 0x420 then some (execStwRspRingWrite core v s)
    else if off = 0x424 then some (execStwDoorbell v s)
    else if off = 0x71C then some (execRfCtlEnter core v s)
    else none
  | .rly off =>
    if 0x30000 ≤ off ∧ off < 0x30200 then laneWrite core (off / 0x100 % 16) (off % 0x100) v s
    else if off = 0x4F00C then some (pacer 0)
    else if off = 0x50020 then some (execMdioCoreAccess core 0 v s.freeVal.1 s.freeVal.2)
    else if off = 0x50120 then some (execMdioCoreAccess core 1 v s.freeVal.1 s.freeVal.2)
    else if off = 0x50800 then some (execSpHeadWrite core v s)
    else if off = 0x60088 then some (execMrHeadWrite core v s)
    else none
  | .bnk b off => if off = 0x4F00C then some (pacer (1 + b)) else none
  | _ => none

/-- REGISTER_WRITE: a core writes a word (R15, R42 to R47, R55). -/
def execRegisterWrite (core : CoreId) (addr : Nat) (value : Word) (s : State) : Out :=
  let a := addr / 4 * 4
  if !s.coreRuns core then .next s
  else if !s.granted core true (placeOf addr) then .next (s.accessFault core addr)
  else if s.writeLoses core a then .next (s.logRefusedWrite core a value)
  else
    let s := s.writeWins core a
    match ownWrite core a value s with
    | some out => out
    | none => .next (s.storePlace core a value (placeOf addr))

/-! ## The NVM controller (R51) -/

/-- The first byte of an NVM request. -/
def nvmOffset : NvmOp → Nat
  | .program a _ => a
  | .eraseSector a => a
  | .eraseBlock a => a

/-- NVM_PROGRAM_ERASE: one request at a time and bank; bank A is the Keeper's, and bank B takes none fetched from itself. The result code is
what the requesting core reads. -/
def execNvmProgramErase (core : CoreId) (fetchFromB : Bool) (bank : Nat) (op : NvmOp) (s : State) : Out :=
  let addr := 0x10000000 + 0x100000 * bank + nvmOffset op
  onObject (bank < 2) (if !s.coreRuns core then s
    else if 0x100000 ≤ nvmOffset op ∨ (core = .steward ∧ bank = 0) then s.accessFault core addr
    else if bank = 1 ∧ fetchFromB then s.readResult core cSelfBank
    else if (if bank = 0 then s.cores.opA else s.cores.opB).isSome then s.readResult core cState
    else
      let s := s.readResult core cOk
      if bank = 0 then s.modCores fun c => { c with opA := some op } else s.modCores fun c => { c with opB := some op })

/-- A bank after a request: a row programmed, bits only falling, or a sector or block erased (Table 22.10). -/
def nvmEffect (op : NvmOp) (m : Memory) : Memory :=
  let (a, n) := nvmRange op
  match op with
  | .program _ row => nor m a (row.take n)
  | _ => mclear m a n

/-- NVM_OPERATION_DONE: the bank holds the request's result and takes the next one. -/
def execNvmOperationDone (bank : Nat) (s : State) : Out :=
  onObject (bank < 2) (s.modCores fun c =>
    if bank = 0 then
      match c.opA with
      | none => c
      | some op => { c with opA := none, nvmA := nvmEffect op c.nvmA }
    else
      match c.opB with
      | none => c
      | some op => { c with opB := none, nvmB := nvmEffect op c.nvmB })

end Sys2Proof.Machine
end

