-- ==== Sys2Proof/Machine/Dispatch.lean ====
section
/-! DEFINITION. One arm per command: the meaning of each. -/

namespace Sys2Proof.Machine

/-- The effect of a command on everything but the queue. -/
def exec (i : Instr) (s : State) : Host.Outcome State Fault Refusal :=
  match i with
  | .pornRelease refclk vresNf senseFaults => Sys2Proof.Machine.execPornRelease refclk vresNf senseFaults s
  | .pornLow widthNs => Sys2Proof.Machine.execPornLow widthNs s
  | .drbgReady => Sys2Proof.Machine.execDrbgReady s
  | .gunCheckResult link counter => Sys2Proof.Machine.execGunCheckResult link counter s
  | .gunCheckTimeout link => Sys2Proof.Machine.execGunCheckTimeout link s
  | .portsOpen => Sys2Proof.Machine.execPortsOpen s
  | .imageDigestPresented plat image => Sys2Proof.Machine.execImageDigestPresented plat image s
  | .imageVerdict plat image => Sys2Proof.Machine.execImageVerdict plat image s
  | .pgoodWaitExpiry plat => Sys2Proof.Machine.execPgoodWaitExpiry plat s
  | .measurementLimitExpiry plat image => Sys2Proof.Machine.execMeasurementLimitExpiry plat image s
  | .heartClosure => Sys2Proof.Machine.execHeartClosure s
  | .stagingRevalidate => Sys2Proof.Machine.execStagingRevalidate s
  | .releaseOrderDue => Sys2Proof.Machine.execReleaseOrderDue s
  | .platformRelease plat => Sys2Proof.Machine.execPlatformRelease plat s
  | .flitReceived link toKeeper flit message => Sys2Proof.Machine.execFlitReceived link toKeeper flit message s
  | .ackTimerExpiry link toKeeper => Sys2Proof.Machine.execAckTimerExpiry link toKeeper s
  | .linkTrainDone link => Sys2Proof.Machine.execLinkTrainDone link s
  | .trainTimeout link => Sys2Proof.Machine.execTrainTimeout link s
  | .relinkAttemptTimeout link => Sys2Proof.Machine.execRelinkAttemptTimeout link s
  | .cadenceLoss link => Sys2Proof.Machine.execCadenceLoss link s
  | .clockMonitorWindow count => Sys2Proof.Machine.execClockMonitorWindow count s
  | .keeperWdogExpiry => Sys2Proof.Machine.execKeeperWdogExpiry s
  | .stwWdogExpiry => Sys2Proof.Machine.execStwWdogExpiry s
  | .stwWdogKick value => Sys2Proof.Machine.execStwWdogKick value s
  | .accessFault core addr => Sys2Proof.Machine.execAccessFault core addr s
  | .registerWrite core addr value => Sys2Proof.Machine.execRegisterWrite core addr value s
  | .tkNowLoRead core => Sys2Proof.Machine.execTkNowLoRead core s
  | .vltTickLoRead core => Sys2Proof.Machine.execVltTickLoRead core s
  | .nvmProgramErase core fetchFromB bank op => Sys2Proof.Machine.execNvmProgramErase core fetchFromB bank op s
  | .nvmOperationDone bank => Sys2Proof.Machine.execNvmOperationDone bank s
  | .sysGetTopology r => Sys2Proof.Machine.execSysGetTopology r s
  | .sysGetLinks r => Sys2Proof.Machine.execSysGetLinks r s
  | .sysGetTime r => Sys2Proof.Machine.execSysGetTime r s
  | .sysCheckAlign r => Sys2Proof.Machine.execSysCheckAlign r s
  | .mb0Write transaction data extraBits => Sys2Proof.Machine.execMb0Write transaction data extraBits s
  | .mb0Read clocked => Sys2Proof.Machine.execMb0Read clocked s
  | .mb0Status => Sys2Proof.Machine.execMb0Status s
  | .mb1Write transaction data extraBits => Sys2Proof.Machine.execMb1Write transaction data extraBits s
  | .mb1Read clocked => Sys2Proof.Machine.execMb1Read clocked s
  | .mb1Status => Sys2Proof.Machine.execMb1Status s
  | .selectClash => Sys2Proof.Machine.execSelectClash s
  | .mb0NoticeEnqueue => Sys2Proof.Machine.execMb0NoticeEnqueue s
  | .svcPacket packet => Sys2Proof.Machine.execSvcPacket packet s
  | .svcPresentLow => Sys2Proof.Machine.execSvcPresentLow s
  | .svcPresentHigh => Sys2Proof.Machine.execSvcPresentHigh s
  | .svcAuthLockExpiry => Sys2Proof.Machine.execSvcAuthLockExpiry s
  | .stwDoorbell value => Sys2Proof.Machine.execStwDoorbell value s
  | .stwRspRingWrite core value => Sys2Proof.Machine.execStwRspRingWrite core value s
  | .stwRingDeliver => Sys2Proof.Machine.execStwRingDeliver s
  | .extAnswer opcode forward status payload => Sys2Proof.Machine.execExtAnswer opcode forward status payload s
  | .bulkFrameIn port session => Sys2Proof.Machine.execBulkFrameIn port session s
  | .bulkFrameOutConsumed port session => Sys2Proof.Machine.execBulkFrameOutConsumed port session s
  | .bulkIdleExpiry port session inbound => Sys2Proof.Machine.execBulkIdleExpiry port session inbound s
  | .responseTimerExpiry port session tag => Sys2Proof.Machine.execResponseTimerExpiry port session tag s
  | .custodyRecord source record => Sys2Proof.Machine.execCustodyRecord source record s
  | .handshakeTimeout => Sys2Proof.Machine.execHandshakeTimeout s
  | .cusIdleExpiry session => Sys2Proof.Machine.execCusIdleExpiry session s
  | .sysNop r => Sys2Proof.Machine.execSysNop r s
  | .sysGetVersion r => Sys2Proof.Machine.execSysGetVersion r s
  | .sysGetPort r => Sys2Proof.Machine.execSysGetPort r s
  | .sysSvcChallenge r => Sys2Proof.Machine.execSysSvcChallenge r s
  | .sysSvcAuth r => Sys2Proof.Machine.execSysSvcAuth r s
  | .sysTicketStatus r => Sys2Proof.Machine.execSysTicketStatus r s
  | .extCommand opcode r => Sys2Proof.Machine.execExtCommand opcode r s
  | .frmGetInfo r => Sys2Proof.Machine.execFrmGetInfo r s
  | .frmStage r => Sys2Proof.Machine.execFrmStage r s
  | .frmActivate r => Sys2Proof.Machine.execFrmActivate r s
  | .activateRestart => Sys2Proof.Machine.execActivateRestart s
  | .frmGetRanks r => Sys2Proof.Machine.execFrmGetRanks r s
  | .fusRead r => Sys2Proof.Machine.execFusRead r s
  | .fusProgram r => Sys2Proof.Machine.execFusProgram r s
  | .fusFinalise r => Sys2Proof.Machine.execFusFinalise r s
  | .fusSetLifecycle r => Sys2Proof.Machine.execFusSetLifecycle r s
  | .fusBumpCounter r => Sys2Proof.Machine.execFusBumpCounter r s
  | .fuseWordDone verified => Sys2Proof.Machine.execFuseWordDone verified s
  | .lifecycleRestart => Sys2Proof.Machine.execLifecycleRestart s
  | .meshSample pair level => Sys2Proof.Machine.execMeshSample pair level s
  | .staticSample input level => Sys2Proof.Machine.execStaticSample input level s
  | .vaultTempSample tempC => Sys2Proof.Machine.execVaultTempSample tempC s
  | .vbatGlitch step above4V => Sys2Proof.Machine.execVbatGlitch step above4V s
  | .vaultOscPeriod cycles => Sys2Proof.Machine.execVaultOscPeriod cycles s
  | .vaultSwirl => Sys2Proof.Machine.execVaultSwirl s
  | .vbatLow below => Sys2Proof.Machine.execVbatLow below s
  | .vbatArm => Sys2Proof.Machine.execVbatArm s
  | .redflagnLow low => Sys2Proof.Machine.execRedflagnLow low s
  | .rfCtlEnter core value => Sys2Proof.Machine.execRfCtlEnter core value s
  | .sysLockdown r => Sys2Proof.Machine.execSysLockdown r s
  | .sysLiftLockdown r => Sys2Proof.Machine.execSysLiftLockdown r s
  | .sysGetTamper r => Sys2Proof.Machine.execSysGetTamper r s
  | .keyGenerate r => Sys2Proof.Machine.execKeyGenerate r s
  | .keyImport r => Sys2Proof.Machine.execKeyImport r s
  | .keyWrap r => Sys2Proof.Machine.execKeyWrap r s
  | .keyDestroy r => Sys2Proof.Machine.execKeyDestroy r s
  | .keyGetAttr r => Sys2Proof.Machine.execKeyGetAttr r s
  | .keyProvenance r => Sys2Proof.Machine.execKeyProvenance r s
  | .keySetSwirl r => Sys2Proof.Machine.execKeySetSwirl r s
  | .swirlPass => Sys2Proof.Machine.execSwirlPass s
  | .crySubmit r => Sys2Proof.Machine.execCrySubmit r s
  | .cryGetJob r => Sys2Proof.Machine.execCryGetJob r s
  | .cryCancel r => Sys2Proof.Machine.execCryCancel r s
  | .cryRandom r => Sys2Proof.Machine.execCryRandom r s
  | .cryGetHealth r => Sys2Proof.Machine.execCryGetHealth r s
  | .jobStart slot => Sys2Proof.Machine.execJobStart slot s
  | .jobComplete slot => Sys2Proof.Machine.execJobComplete slot s
  | .cryptoClaimTimeout => Sys2Proof.Machine.execCryptoClaimTimeout s
  | .entropyBlock raw knownAnswers => Sys2Proof.Machine.execEntropyBlock raw knownAnswers s
  | .entropyFailRetry passes => Sys2Proof.Machine.execEntropyFailRetry passes s
  | .drbgReseed => Sys2Proof.Machine.execDrbgReseed s
  | .sysReleasePlatform r => Sys2Proof.Machine.execSysReleasePlatform r s
  | .sysHoldPlatform r => Sys2Proof.Machine.execSysHoldPlatform r s
  | .sysGetBoot r => Sys2Proof.Machine.execSysGetBoot r s
  | .pgoodChange plat level => Sys2Proof.Machine.execPgoodChange plat level s
  | .holdProcedure port reads => Sys2Proof.Machine.execHoldProcedure port reads s
  | .hostTransaction port x => Sys2Proof.Machine.execHostTransaction port x s
  | .hostCaptureRelease port => Sys2Proof.Machine.execHostCaptureRelease port s
  | .ownOpStart port => Sys2Proof.Machine.execOwnOpStart port s
  | .ownOpPoll port status => Sys2Proof.Machine.execOwnOpPoll port status s
  | .ownOpReady port status => Sys2Proof.Machine.execOwnOpReady port status s
  | .busyTimeout port => Sys2Proof.Machine.execBusyTimeout port s
  | .wdnGetSfdp r => Sys2Proof.Machine.execWdnGetSfdp r s
  | .wdnGetPort r => Sys2Proof.Machine.execWdnGetPort r s
  | .wdnSetRegion r => Sys2Proof.Machine.execWdnSetRegion r s
  | .wdnCommit r => Sys2Proof.Machine.execWdnCommit r s
  | .wdnReviewAnswer r => Sys2Proof.Machine.execWdnReviewAnswer r s
  | .wdnGetCounters r => Sys2Proof.Machine.execWdnGetCounters r s
  | .wdnSetPhase r => Sys2Proof.Machine.execWdnSetPhase r s
  | .reviewExpiry port => Sys2Proof.Machine.execReviewExpiry port s
  | .retireEnd port => Sys2Proof.Machine.execRetireEnd port s
  | .shadowCopyDone port => Sys2Proof.Machine.execShadowCopyDone port s
  | .recoveryStart => Sys2Proof.Machine.execRecoveryStart s
  | .recoveryOutcome => Sys2Proof.Machine.execRecoveryOutcome s
  | .recoveryLimitExpiry => Sys2Proof.Machine.execRecoveryLimitExpiry s
  | .rcvGetPolicy r => Sys2Proof.Machine.execRcvGetPolicy r s
  | .rcvMend r => Sys2Proof.Machine.execRcvMend r s
  | .rcvUpdateGolden r => Sys2Proof.Machine.execRcvUpdateGolden r s
  | .rcvUpdateKeeper r => Sys2Proof.Machine.execRcvUpdateKeeper r s
  | .rcvGetStatus r => Sys2Proof.Machine.execRcvGetStatus r s
  | .keeperInstallRestart => Sys2Proof.Machine.execKeeperInstallRestart s
  | .attQuote r => Sys2Proof.Machine.execAttQuote r s
  | .attGetLog r => Sys2Proof.Machine.execAttGetLog r s
  | .attGetCert r => Sys2Proof.Machine.execAttGetCert r s
  | .attSpdm r => Sys2Proof.Machine.execAttSpdm r s
  | .lanePush core engine value => Sys2Proof.Machine.execLanePush core engine value s
  | .laneEntryStart engine => Sys2Proof.Machine.execLaneEntryStart engine s
  | .laneEntryComplete engine input => Sys2Proof.Machine.execLaneEntryComplete engine input s
  | .laneContTimeout engine => Sys2Proof.Machine.execLaneContTimeout engine s
  | .laneCancel core engine value => Sys2Proof.Machine.execLaneCancel core engine value s
  | .laneDoneRead core engine => Sys2Proof.Machine.execLaneDoneRead core engine s
  | .laneTargetWrite engine transaction data extraBits => Sys2Proof.Machine.execLaneTargetWrite engine transaction data extraBits s
  | .laneTargetRead engine clocked => Sys2Proof.Machine.execLaneTargetRead engine clocked s
  | .laneTargetStatus engine => Sys2Proof.Machine.execLaneTargetStatus engine s
  | .laneRxFree core engine value => Sys2Proof.Machine.execLaneRxFree core engine value s
  | .laneTxStage core engine value => Sys2Proof.Machine.execLaneTxStage core engine value s
  | .laneClaimTimeout engine => Sys2Proof.Machine.execLaneClaimTimeout engine s
  | .copyTakesEngine => Sys2Proof.Machine.execCopyTakesEngine s
  | .bucketTick die num => Sys2Proof.Machine.execBucketTick die num s
  | .heatEdge bank => Sys2Proof.Machine.execHeatEdge bank s
  | .pcrGoRate core die value => Sys2Proof.Machine.execPcrGoRate core die value s
  | .pcrGoForgive core die value => Sys2Proof.Machine.execPcrGoForgive core die value s
  | .pcrGetBucket r => Sys2Proof.Machine.execPcrGetBucket r s
  | .pcrSetRate r => Sys2Proof.Machine.execPcrSetRate r s
  | .pcrForgive r => Sys2Proof.Machine.execPcrForgive r s
  | .pcrSetHeat r => Sys2Proof.Machine.execPcrSetHeat r s
  | .pulseEnd bank col => Sys2Proof.Machine.execPulseEnd bank col s
  | .overcurrent bank row => Sys2Proof.Machine.execOvercurrent bank row s
  | .stuckOnGate bank row => Sys2Proof.Machine.execStuckOnGate bank row s
  | .senseScanRow bank row returns => Sys2Proof.Machine.execSenseScanRow bank row returns s
  | .debounceExpiry comp bolt => Sys2Proof.Machine.execDebounceExpiry comp bolt s
  | .relockTimerExpiry comp => Sys2Proof.Machine.execRelockTimerExpiry comp s
  | .ajarTimerExpiry comp => Sys2Proof.Machine.execAjarTimerExpiry comp s
  | .verifyTimerExpiry comp => Sys2Proof.Machine.execVerifyTimerExpiry comp s
  | .dualWindowExpiry comp => Sys2Proof.Machine.execDualWindowExpiry comp s
  | .delayExpiry comp => Sys2Proof.Machine.execDelayExpiry comp s
  | .openWindowExpiry comp => Sys2Proof.Machine.execOpenWindowExpiry comp s
  | .timelockEnd comp => Sys2Proof.Machine.execTimelockEnd comp s
  | .holdEnd comp => Sys2Proof.Machine.execHoldEnd comp s
  | .bankClaimTimeout bank => Sys2Proof.Machine.execBankClaimTimeout bank s
  | .cmpOpen r => Sys2Proof.Machine.execCmpOpen r s
  | .cmpRelock r => Sys2Proof.Machine.execCmpRelock r s
  | .cmpHold r => Sys2Proof.Machine.execCmpHold r s
  | .cmpFreeze r => Sys2Proof.Machine.execCmpFreeze r s
  | .cmpUnfreeze r => Sys2Proof.Machine.execCmpUnfreeze r s
  | .cmpCredential r => Sys2Proof.Machine.execCmpCredential r s
  | .cmpGetState r => Sys2Proof.Machine.execCmpGetState r s
  | .cmpGetBank r => Sys2Proof.Machine.execCmpGetBank r s
  | .cmpSetTimelock r => Sys2Proof.Machine.execCmpSetTimelock r s
  | .cmpDisable r => Sys2Proof.Machine.execCmpDisable r s
  | .cmpEnable r => Sys2Proof.Machine.execCmpEnable r s
  | .cmpSetGroup r => Sys2Proof.Machine.execCmpSetGroup r s
  | .nosImport r => Sys2Proof.Machine.execNosImport r s
  | .nosStart r => Sys2Proof.Machine.execNosStart r s
  | .nosStop r => Sys2Proof.Machine.execNosStop r s
  | .nosGetStatus r => Sys2Proof.Machine.execNosGetStatus r s
  | .nosGetEvents r => Sys2Proof.Machine.execNosGetEvents r s
  | .noseImportClose => Sys2Proof.Machine.execNoseImportClose s
  | .analogSample channel value => Sys2Proof.Machine.execAnalogSample channel value s
  | .pdmSample input value => Sys2Proof.Machine.execPdmSample input value s
  | .noseWindowEdge => Sys2Proof.Machine.execNoseWindowEdge s
  | .inferenceStart => Sys2Proof.Machine.execInferenceStart s
  | .inferenceComplete => Sys2Proof.Machine.execInferenceComplete s
  | .noseScrubEnd => Sys2Proof.Machine.execNoseScrubEnd s
  | .noseClaimTimeout => Sys2Proof.Machine.execNoseClaimTimeout s
  | .pwrGetState r => Sys2Proof.Machine.execPwrGetState r s
  | .pwrSetState r => Sys2Proof.Machine.execPwrSetState r s
  | .pwrSetDomain r => Sys2Proof.Machine.execPwrSetDomain r s
  | .pwrGetDomains r => Sys2Proof.Machine.execPwrGetDomains r s
  | .pwrGetMonitors r => Sys2Proof.Machine.execPwrGetMonitors r s
  | .pwrSetGovernor r => Sys2Proof.Machine.execPwrSetGovernor r s
  | .wakenLow => Sys2Proof.Machine.execWakenLow s
  | .mainPowerLost => Sys2Proof.Machine.execMainPowerLost s
  | .vaultEntry => Sys2Proof.Machine.execVaultEntry s
  | .domainReady domain => Sys2Proof.Machine.execDomainReady domain s
  | .domainClaimRelease domain => Sys2Proof.Machine.execDomainClaimRelease domain s
  | .domainClaimTimeout domain => Sys2Proof.Machine.execDomainClaimTimeout domain s
  | .domainRailDrop domain => Sys2Proof.Machine.execDomainRailDrop domain s
  | .monitorReading die channel value => Sys2Proof.Machine.execMonitorReading die channel value s
  | .mdioPoll mac bmcr bmsr adv partner gctl gstat => Sys2Proof.Machine.execMdioPoll mac bmcr bmsr adv partner gctl gstat s
  | .linkTrainingEnd mac => Sys2Proof.Machine.execLinkTrainingEnd mac s
  | .mdioCoreAccess core mac value readData => Sys2Proof.Machine.execMdioCoreAccess core mac value readData s
  | .frameSfd mac => Sys2Proof.Machine.execFrameSfd mac s
  | .frameReception mac frame codingError => Sys2Proof.Machine.execFrameReception mac frame codingError s
  | .pauseExpiry => Sys2Proof.Machine.execPauseExpiry s
  | .parseEnd mac => Sys2Proof.Machine.execParseEnd mac s
  | .classification mac => Sys2Proof.Machine.execClassification mac s
  | .slowPathDelivery => Sys2Proof.Machine.execSlowPathDelivery s
  | .spHeadWrite core value => Sys2Proof.Machine.execSpHeadWrite core value s
  | .frameTransmit mac => Sys2Proof.Machine.execFrameTransmit mac s
  | .residenceExpiry mac => Sys2Proof.Machine.execResidenceExpiry mac s
  | .epochDrainCommit => Sys2Proof.Machine.execEpochDrainCommit s
  | .classifierCopyEnd => Sys2Proof.Machine.execClassifierCopyEnd s
  | .custodySteer => Sys2Proof.Machine.execCustodySteer s
  | .custodyRecordTransmit => Sys2Proof.Machine.execCustodyRecordTransmit s
  | .mirrorCopy => Sys2Proof.Machine.execMirrorCopy s
  | .mrHeadWrite core value => Sys2Proof.Machine.execMrHeadWrite core value s
  | .netGetPort r => Sys2Proof.Machine.execNetGetPort r s
  | .netSetLimits r => Sys2Proof.Machine.execNetSetLimits r s
  | .netWriteRule r => Sys2Proof.Machine.execNetWriteRule r s
  | .netWriteRange r => Sys2Proof.Machine.execNetWriteRange r s
  | .netCommit r => Sys2Proof.Machine.execNetCommit r s
  | .netGetCounters r => Sys2Proof.Machine.execNetGetCounters r s
  | .netSetMirror r => Sys2Proof.Machine.execNetSetMirror r s
  | .netInject r => Sys2Proof.Machine.execNetInject r s
  | .recordEntry => Sys2Proof.Machine.execRecordEntry s
  | .recordCommit => Sys2Proof.Machine.execRecordCommit s
  | .batchSealTimeout => Sys2Proof.Machine.execBatchSealTimeout s
  | .sealSigned stopped => Sys2Proof.Machine.execSealSigned stopped s
  | .storeWriteStart => Sys2Proof.Machine.execStoreWriteStart s
  | .storeWriteDone failed => Sys2Proof.Machine.execStoreWriteDone failed s
  | .subscriptionDelivery port session => Sys2Proof.Machine.execSubscriptionDelivery port session s
  | .alertFrameStart => Sys2Proof.Machine.execAlertFrameStart s
  | .logRead r => Sys2Proof.Machine.execLogRead r s
  | .logExport r => Sys2Proof.Machine.execLogExport r s
  | .logSeal r => Sys2Proof.Machine.execLogSeal r s
  | .logGetHead r => Sys2Proof.Machine.execLogGetHead r s
  | .logSubscribe r => Sys2Proof.Machine.execLogSubscribe r s
  | .logClearAlert r => Sys2Proof.Machine.execLogClearAlert r s
  | .rcRegisterRead core addr => Sys2Proof.Machine.execRcRegisterRead core addr s
  | .lossOfPllLock => Sys2Proof.Machine.execLossOfPllLock s
  | .vbatDisarm => Sys2Proof.Machine.execVbatDisarm s
  | .vaultRailBelowHold => Sys2Proof.Machine.execVaultRailBelowHold s
  | .frameTransmitted mac => Sys2Proof.Machine.execFrameTransmitted mac s
  | .svcFramingError => Sys2Proof.Machine.execSvcFramingError s

end Sys2Proof.Machine
end

