-- ==== Sys2Proof/Safety.lean ====
section
/-! DEFINITION. The terms claims are stated in: a command that waits for its owner, the owner's turn, and what every state of a run keeps. -/

namespace Sys2Proof.Machine

/-- A command of opcode `op` that its port has accepted has its owner's turn: in `s` it stands as `o` except that its owner has not begun,
its response timer runs (R143), and no device-wide condition refuses it: no-Formula operation (R151), an activation (R179), an install (R460), a
move to VAULT (R671). The owner acts on `u`, which is `s` with the command marked as begun. -/
structure Runs (op : Nat) (r : Req) (o : Outstanding) (s u : State) : Prop where
  found : s.findOut r.port r.session r.tag = some { o with progress := .accepted }
  begun : o.progress = .begun
  opcode : o.opcode = op
  inTime : s.now < o.deadline
  free : s.deviceRefusal op = none
  turn : u = s.setOut o

/-- A payload of the command's fixed length whose listed byte ranges are zero (Table 3.4, step 9). -/
abbrev Outstanding.fits (o : Outstanding) (len : Nat) (zeroRanges : List (Nat × Nat)) : Prop := payloadFault o.payload len zeroRanges = none

/-- No order that took effect on this edge shares one of the objects (R79). -/
abbrev State.unopposed (objects : List (Nat × Nat)) (s : State) : Prop := s.winner objects = none

/-- A core reaches the Relay's registers: link 0 is in SESSION, and the Steward's RLY window is open (R42, R501). -/
abbrev State.reachesRelay (core : CoreId) (s : State) : Prop := s.inSession 0 = true ∧ (core = .steward → s.cores.winRly = true)

/-- A compartment that commands reach: present, its Bank declared, reachable and not draining (section 12 of chapter 17). -/
abbrev State.reachable (n : Nat) (s : State) : Prop :=
  s.compPresent n = true ∧ s.bankDeclared 0 = true ∧ s.bankReachable (n / 256) = true ∧ s.draining (dBank (n / 256)) = false

/-- The variants' counts of Banks (Table 0.1). -/
def Part.legal (p : Part) : Bool := decide (p.banks ∈ [0, 1, 4])

/-- Every byte memory is in canonical form: the NVM banks and the attached flashes read 0xFF, the others 0, where nothing is listed. -/
def State.memoriesWf (s : State) : Bool :=
  Memory.wf 0xFF s.cores.nvmA && Memory.wf 0xFF s.cores.nvmB && Memory.wf 0 s.cores.tcmSteward && Memory.wf 0 s.cores.tcmKeeper
    && Memory.wf 0 s.wdn.pool && s.wdn.flash.all fun x => Memory.wf 0xFF x.2

/-- What every state of a run keeps: the cycle count holds at its largest value (R59), the memories are in canonical form, and the
package holds one of the counts of Banks that exist (R3). -/
def State.inv (s : State) : Bool := decide (s.now ≤ maxCycle) && s.memoriesWf && s.part.legal

end Sys2Proof.Machine
end

