-- ==== Sys2Proof/WellFormed.lean ====
section
/-! DEFINITION. When a command's operands name things the block has: ports that carry frames, objects within the largest variant, fields
within their width (chapters 0 to 3). -/

namespace Sys2Proof

/-- A port that hands frames over; MB1 carries bulk data alone and the panel has pins (R90, Table 2.6). -/
def Port.carriesFrames : Port → Bool
  | .kpr | .cus | .svc | .stw | .mb0 => true
  | .mb1 | .pnl => false

/-- Sessions 1 to 4 on CUS, none elsewhere (R131). -/
def sessionOk (p : Port) (session : Nat) : Bool :=
  if p = .cus then decide (1 ≤ session ∧ session ≤ 4) else decide (session = 0)

/-- A frame's origin, its TAG of 16 bits and its LENGTH of 16 bits (Table 3.2). -/
def Req.wf (r : Req) : Bool :=
  r.port.carriesFrames && sessionOk r.port r.session && decide (r.tag < 65536) && decide (r.payload.length < 65536)

/-- Fields of a flit within their width (Table 1.2). -/
def Flit.wf (f : Flit) : Bool := decide (f.type < 16 ∧ f.seq < 4096 ∧ f.ack < 4096 ∧ f.reserved < 16 ∧ f.payload.length ≤ 16)

/-- The command's operands name objects the block has and fit their fields. -/
def Instr.wf : Instr → Bool
  | .pornRelease _ _ _ | .pornLow _ | .drbgReady | .portsOpen | .heartClosure | .stagingRevalidate | .releaseOrderDue => true
  | .imageDigestPresented p i | .imageVerdict p i | .measurementLimitExpiry p i => decide (p < 4 ∧ i < 8)
  | .pgoodWaitExpiry p | .platformRelease p | .pgoodChange p _ => decide (p < 4)
  | .gunCheckResult l _ | .gunCheckTimeout l | .ackTimerExpiry l _ | .linkTrainDone l | .trainTimeout l | .relinkAttemptTimeout l
  | .cadenceLoss l => decide (l < 5)
  | .flitReceived l _ f _ => decide (l < 5) && f.wf
  | .clockMonitorWindow _ | .keeperWdogExpiry | .stwWdogExpiry | .stwWdogKick _ | .tkNowLoRead _ | .vltTickLoRead _ => true
  | .accessFault _ a | .registerWrite _ a _ | .rcRegisterRead _ a => decide (a < 2 ^ 32)
  | .nvmProgramErase _ _ b _ | .nvmOperationDone b => decide (b < 2)
  | .sysGetTopology r | .sysGetLinks r | .sysGetTime r | .sysCheckAlign r | .sysNop r | .sysGetVersion r | .sysGetPort r
  | .sysSvcChallenge r | .sysSvcAuth r | .sysTicketStatus r | .sysLockdown r | .sysLiftLockdown r | .sysGetTamper r
  | .sysReleasePlatform r | .sysHoldPlatform r | .sysGetBoot r => r.wf
  | .frmGetInfo r | .frmStage r | .frmActivate r | .frmGetRanks r | .fusRead r | .fusProgram r | .fusFinalise r | .fusSetLifecycle r
  | .fusBumpCounter r => r.wf
  | .keyGenerate r | .keyImport r | .keyWrap r | .keyDestroy r | .keyGetAttr r | .keyProvenance r | .keySetSwirl r => r.wf
  | .crySubmit r | .cryGetJob r | .cryCancel r | .cryRandom r | .cryGetHealth r => r.wf
  | .wdnGetSfdp r | .wdnGetPort r | .wdnSetRegion r | .wdnCommit r | .wdnReviewAnswer r | .wdnGetCounters r | .wdnSetPhase r => r.wf
  | .rcvGetPolicy r | .rcvMend r | .rcvUpdateGolden r | .rcvUpdateKeeper r | .rcvGetStatus r | .attQuote r | .attGetLog r | .attGetCert r
  | .attSpdm r => r.wf
  | .pcrGetBucket r | .pcrSetRate r | .pcrForgive r | .pcrSetHeat r => r.wf
  | .cmpOpen r | .cmpRelock r | .cmpHold r | .cmpFreeze r | .cmpUnfreeze r | .cmpCredential r | .cmpGetState r | .cmpGetBank r
  | .cmpSetTimelock r | .cmpDisable r | .cmpEnable r | .cmpSetGroup r => r.wf
  | .nosImport r | .nosStart r | .nosStop r | .nosGetStatus r | .nosGetEvents r => r.wf
  | .pwrGetState r | .pwrSetState r | .pwrSetDomain r | .pwrGetDomains r | .pwrGetMonitors r | .pwrSetGovernor r => r.wf
  | .netGetPort r | .netSetLimits r | .netWriteRule r | .netWriteRange r | .netCommit r | .netGetCounters r | .netSetMirror r
  | .netInject r => r.wf
  | .logRead r | .logExport r | .logSeal r | .logGetHead r | .logSubscribe r | .logClearAlert r => r.wf
  | .extCommand op r => decide (op / 4096 = 0xE) && r.wf
  | .mb0Write _ _ _ | .mb0Read _ | .mb0Status | .mb1Write _ _ _ | .mb1Read _ | .mb1Status | .selectClash | .mb0NoticeEnqueue => true
  | .svcPacket _ | .svcPresentLow | .svcPresentHigh | .svcAuthLockExpiry | .svcFramingError => true
  | .stwDoorbell _ | .stwRspRingWrite _ _ | .stwRingDeliver => true
  | .extAnswer op n st p => decide (op / 4096 = 0xE ∧ n < 65536 ∧ st < 256 ∧ p.length < 65536)
  | .bulkFrameIn p n | .bulkFrameOutConsumed p n | .bulkIdleExpiry p n _ => sessionOk p n
  | .responseTimerExpiry p n t => sessionOk p n && decide (t < 65536)
  | .custodyRecord _ _ | .handshakeTimeout => true
  | .cusIdleExpiry n => decide (1 ≤ n ∧ n ≤ 4)
  | .activateRestart | .fuseWordDone _ | .lifecycleRestart => true
  | .meshSample p _ => decide (p < 4)
  | .staticSample i _ => decide (i < 8)
  | .vaultTempSample _ | .vbatGlitch _ _ | .vaultOscPeriod _ | .vaultSwirl | .vbatLow _ | .vbatArm | .vbatDisarm | .vaultRailBelowHold
  | .redflagnLow _ | .rfCtlEnter _ _ | .swirlPass => true
  | .jobStart n | .jobComplete n => decide (n < 8)
  | .cryptoClaimTimeout | .entropyBlock _ _ | .entropyFailRetry _ | .drbgReseed => true
  | .hostTransaction p _ | .hostCaptureRelease p | .ownOpStart p | .ownOpPoll p _ | .ownOpReady p _ | .reviewExpiry p => decide (p < 4)
  | .holdProcedure p _ | .busyTimeout p | .retireEnd p | .shadowCopyDone p => decide (p < 5)
  | .recoveryStart | .recoveryOutcome | .recoveryLimitExpiry | .keeperInstallRestart => true
  | .lanePush _ e _ | .laneEntryStart e | .laneEntryComplete e _ | .laneContTimeout e | .laneCancel _ e _ | .laneDoneRead _ e
  | .laneTargetWrite e _ _ _ | .laneTargetRead e _ | .laneTargetStatus e | .laneRxFree _ e _ | .laneTxStage _ e _ | .laneClaimTimeout e =>
    decide (e < 2)
  | .copyTakesEngine => true
  | .bucketTick d n => decide (d < 5 ∧ n < (if d = 0 then 512 else 64))
  | .pcrGoRate _ d _ | .pcrGoForgive _ d _ => decide (d < 5)
  | .heatEdge b | .bankClaimTimeout b => decide (b < 4)
  | .pulseEnd b k | .overcurrent b k | .stuckOnGate b k | .senseScanRow b k _ => decide (b < 4 ∧ k < 16)
  | .debounceExpiry n _ | .relockTimerExpiry n | .ajarTimerExpiry n | .verifyTimerExpiry n | .dualWindowExpiry n | .delayExpiry n
  | .openWindowExpiry n | .timelockEnd n | .holdEnd n => decide (n < 1024)
  | .noseImportClose | .noseWindowEdge | .inferenceStart | .inferenceComplete | .noseScrubEnd | .noseClaimTimeout => true
  | .analogSample c _ => decide (c < 4)
  | .pdmSample i _ => decide (i < 2)
  | .wakenLow | .mainPowerLost | .vaultEntry => true
  | .domainReady d | .domainClaimRelease d | .domainClaimTimeout d | .domainRailDrop d => decide (d < 22)
  | .monitorReading d c _ => decide (d < 6 ∧ c < (if d = 0 then 5 else if d = 1 then 8 else 4))
  | .mdioPoll m _ _ _ _ _ _ | .linkTrainingEnd m | .mdioCoreAccess _ m _ _ | .frameSfd m | .frameReception m _ _ | .parseEnd m
  | .classification m | .frameTransmit m | .frameTransmitted m | .residenceExpiry m => decide (m < 2)
  | .pauseExpiry | .slowPathDelivery | .spHeadWrite _ _ | .epochDrainCommit | .classifierCopyEnd | .custodySteer | .custodyRecordTransmit
  | .mirrorCopy | .mrHeadWrite _ _ => true
  | .recordEntry | .recordCommit | .batchSealTimeout | .sealSigned _ | .storeWriteStart | .storeWriteDone _ | .alertFrameStart
  | .lossOfPllLock => true
  | .subscriptionDelivery p n => sessionOk p n

end Sys2Proof
end

