-- ==== Sys2Proof/Certificates/Slice0/Obligations.lean ====
section
/-! DEFINITION. The statements about the block, for the provers. A command row is spoken of on its owner's turn (`Runs`); a response is `State.respond` (statement ResponsePlacedOnce says what that is). -/

open Sys2Proof Sys2Proof.Machine

/-! ## The machine -/

/-- A step takes the command at the front of the queue and runs it on the state with the queue's rest. -/
def Obligations.StepRunsFrontCommand : Prop :=
  ∀ (c : Instr) (s : State), step { s with pending := c :: s.pending } = exec c s

/-- With no command waiting a step is one Cadence edge (the model's choice, log entry 1): while the Cadence runs the count goes up by one and
holds at 2^60 − 1 (R59), and nothing else changes; without the Cadence nothing changes. -/
def Obligations.IdleStepIsOneEdge : Prop :=
  ∀ s : State, s.pending = [] → s.now ≤ maxCycle →
    step s = .next (if s.clk.running then { s with clk := { s.clk with now := if s.now < maxCycle then s.now + 1 else maxCycle } } else s)

/-- Every command whose operands name things the block has runs to a next state: none is refused, and the one fault is an event on an object
that no variant has.
The model's choices that it rests on: log entry 67. -/
def Obligations.EveryCommandRuns : Prop :=
  ∀ (i : Instr) (s : State),
    (i.wf = true → ∃ t, exec i s = .next t) ∧ (∀ f, exec i s = .fault f → f = .noSuchObject ∧ i.wf = false) ∧ ∀ r, exec i s ≠ .refused r

/-- A command leaves the queue and what the part is made of as they are. -/
def Obligations.QueueAndPartKept : Prop :=
  ∀ (i : Instr) (s t : State), exec i s = .next t → t.pending = s.pending ∧ t.part = s.part

/-- Every step keeps the invariant: the cycle count never passes 2^60 − 1 (R59), every memory stays in canonical form, and the package
holds 0, 1 or 4 Banks (R3). -/
def Obligations.StepKeepsInvariant : Prop :=
  ∀ s t : State, s.inv = true → step s = .next t → t.inv = true

/-- The state after reset meets the invariant.
After reset no command waits, the Cadence does not run and has counted nothing, the stage code is 0x01, the Steward core is in
reset with its watchdog enabled at its reset timeout, no port is open, nothing is outstanding and the Sillage is empty. -/
def Obligations.ResetState : Prop :=
  (State.reset.inv = true)
  ∧ (let s := State.reset
     s.pending = [] ∧ s.clk.running = false ∧ s.now = 0 ∧ s.boot.started = false ∧ s.boot.stage = 1 ∧ s.cores.steward = .inReset
       ∧ s.cores.wdogEn = true ∧ s.cores.wdogTimeout = 0x1000 ∧ s.mb.isOpen = false ∧ s.svc.isOpen = false ∧ s.paths.outstanding = []
       ∧ s.paths.nextTicket = 1 ∧ s.log.ring = [] ∧ s.log.nextSeq = 0 ∧ s.flc.slots = [] ∧ s.frm.applied = none)

/-! ## Receipt, responses and tickets -/

/-- The response of an accepted command is placed once on its port's answer path: it echoes OPCODE and TAG, sets RSP and carries the code;
afterwards the command is outstanding no longer. A port or session that has closed discards it.
A response touches its port, the outstanding commands and the log, and nothing else; how far its owner had come leaves no trace. -/
def Obligations.ResponsePlacedOnce : Prop :=
  (∀ (o : Outstanding) (code : Nat) (payload : Bytes) (s : State),
     let f : Frame := { opcode := o.opcode, flags := 1, status := code, tag := o.tag, payload := payload }
     let t := s.respond o code payload
     t.findOut o.port o.session o.tag = none
       ∧ (o.port = .mb0 → t.mb.queue = s.mb.queue ++ [f])
       ∧ (o.port = .stw → t.stw.queue = s.stw.queue ++ [f])
       ∧ (o.port = .svc → s.svc.present = true → t.svc.sent = svcPack 0 (withCrc f.bytes))
       ∧ (o.port = .svc → s.svc.present = false → t.svc = s.svc)
       ∧ (o.port = .cus → s.sessionOpen o.session = true →
           t.cus.out = s.cus.out ++ [⟨o.session, 0x10, 0 :: f.bytes, (tget {} s.cus.sessions o.session).address⟩])
       ∧ (o.port = .cus → s.sessionOpen o.session = false → t.cus = s.cus))
  ∧ (∀ (o : Outstanding) (code : Nat) (payload : Bytes) (s : State),
       let t := s.respond o code payload
       (∀ x ∈ s.paths.outstanding, x.isFor o.port o.session o.tag = false → x ∈ t.paths.outstanding)
         ∧ (∀ x ∈ t.paths.outstanding, x ∈ s.paths.outstanding)
         ∧ t = { s with paths := { s.paths with outstanding := t.paths.outstanding }, mb := t.mb, stw := t.stw, svc := t.svc, cus := t.cus, log := t.log }
         ∧ (o.port ≠ .mb0 → t.mb = s.mb) ∧ (o.port ≠ .stw → t.stw = s.stw) ∧ (o.port ≠ .svc → t.svc = s.svc) ∧ (o.port ≠ .cus → t.cus = s.cus)
         ∧ (s.setOut o).respond o code payload = t)

/-- The receipt checks of Table 3.4, steps 3 to 8, in their order: the first that fails gives the answer, and the command is never
outstanding; a command without bulk data that passes them all is outstanding from its acceptance edge with its response timer.
Opcodes of class 0xF and opcodes that the command index does not list complete UNKNOWN, with no other effect than the answer. -/
def Obligations.ReceiptChecksInOrder : Prop :=
  (∀ (p : Port) (n : Nat) (f : Frame) (s : State), p ≠ .kpr →
     let a := s.acceptEdge p
     let answer (flags code : Nat) (payload : Bytes) : State × Option Outstanding := (a.answerAtOnce p n f flags code payload, none)
     (p.limit ≤ s.outCount p n → s.accept p n f = answer 1 cState (zeros 4))
     ∧ (s.outCount p n < p.limit →
         (∀ off, headFault p f = some off → s.accept p n f = answer 1 cMalformed (le 2 off ++ zeros 2))
         ∧ (headFault p f = none →
             (cmdInfo f.opcode = none → s.accept p n f = answer 1 cUnknown [])
             ∧ ∀ i, cmdInfo f.opcode = some i →
                 ((s.findOut p n f.tag).isSome = true → s.accept p n f = answer 9 cMalformed (le 2 6 ++ zeros 2))
                 ∧ (s.findOut p n f.tag = none →
                     (s.rankAllows p f.opcode = false → s.accept p n f = answer 1 cRank [])
                     ∧ (s.rankAllows p f.opcode = true →
                         (p = .svc → s.svc.auth = false → neverNarrowed f.opcode = false → s.accept p n f = answer 1 cState (zeros 4))
                         ∧ ((p = .svc → s.svc.auth = true ∨ neverNarrowed f.opcode = true) → i.bulk = 0 →
                             let o : Outstanding := { port := p, session := n, opcode := f.opcode, tag := f.tag, payload := f.payload, bulk := [],
                                                      edge := a.now, deadline := a.now + s.timeoutCycles i.time, progress := .accepted }
                             s.accept p n f = (a.enrol o, some o)
                               ∧ (a.enrol o).paths.outstanding = s.paths.outstanding ++ [o]))))))
  ∧ ((∀ op, 0xF000 ≤ op → op < 0x10000 → cmdInfo op = none)
     ∧ ∀ (p : Port) (n : Nat) (f : Frame) (s : State), p ≠ .kpr → s.outCount p n < p.limit → headFault p f = none → cmdInfo f.opcode = none →
         s.accept p n f = ((s.acceptEdge p).answer p n { opcode := f.opcode, flags := 1, status := 0x21, tag := f.tag, payload := [] }, none))

/-- A port other than KPR accepts at most one frame per edge: the acceptance edge of a frame comes after that of the port's frame before it,
up to the edge on which the count holds. -/
def Obligations.OneFramePerEdge : Prop :=
  ∀ (p : Port) (s : State), p ≠ .kpr →
    tfind (s.acceptEdge p).paths.lastAccept p.index = some (s.acceptEdge p).now
    ∧ (∀ e, tfind s.paths.lastAccept p.index = some e → e < maxCycle → e < (s.acceptEdge p).now)
    ∧ (s.acceptEdge p).paths.outstanding = s.paths.outstanding

/-- On the terminal edge of its response timer or later a waiting command has no effect: it completes EXPIRED with detail 0x0000, and
an order that a port carried is logged with LATE_AT_EXPIRY. Stated for a command of every class of timer.
The model's choices that it rests on: log entries 12 and 13. -/
def Obligations.LateCommandExpires : Prop :=
  ∀ (op : Nat) (r : Req) (o : Outstanding) (s : State) (owner : Outstanding → State → State),
    s.findOut r.port r.session r.tag = some o → o.opcode = op → o.progress = .accepted → o.deadline ≤ s.now →
    s.command op r owner = (s.logDone true o 0x13 (zeros 4)).place o 0x13 (zeros 4)

/-- An order on an object that an order of the same edge has already taken is SUPERSEDED: it has no effect, its response names the winner's
port index and opcode, and its record carries the flag SUPERSEDED. An order that none opposes runs.
The model's choices that it rests on: log entry 14. -/
def Obligations.PhotoFinish : Prop :=
  ∀ (o : Outstanding) (objects : List (Nat × Nat)) (body : State → State) (s : State),
    (∀ w, s.winner objects = some w → s.order o objects body = s.respond o 0x12 (le 1 w.port.index ++ zeros 1 ++ le 2 w.opcode))
    ∧ (s.unopposed objects → s.order o objects body = body s)
    ∧ (∀ (p : Port) (op : Nat) (taken : List (Nat × Nat)) (x : Nat × Nat), x ∈ taken → x ∈ objects →
        ((s.takesEffect p op taken).winner objects).isSome = true)
    ∧ ∀ t : State, s.now < t.now → t.paths = s.paths → (∀ e ∈ s.paths.edgeOrders, e.edge ≤ s.now) → t.unopposed objects

/-- Tickets are numbered upward and never used twice: a fresh one bears the next number, and the number after it is the next. Its notice
is sent once. -/
def Obligations.TicketsNumberedOnce : Prop :=
  ∀ (o : Outstanding) (s : State),
    (s.newTicket o).1 = s.paths.nextTicket
    ∧ (s.newTicket o).2.paths.nextTicket = s.paths.nextTicket + 1
    ∧ tfind (s.newTicket o).2.paths.tickets s.paths.nextTicket = some { port := o.port, session := o.session, opcode := o.opcode, tag := o.tag }
    ∧ ∀ (n code : Nat) (result : Bytes) (t : Ticket), tfind s.paths.tickets n = some t →
        (t.sent = true → s.settleTicket n code result = s)
        ∧ (t.sent = false →
            s.settleTicket n code result
              = (s.modPaths fun p => { p with tickets := tins p.tickets n { t with sent := true, final := code } }).notice t.port t.session
                  { opcode := t.opcode, flags := 3, status := code, tag := t.tag, payload := le 4 n ++ result })

/-! ## Chapter 3: the ports -/

/-- SYS.NOP, SYS.GET_VERSION, SYS.GET_PORT and SYS.TICKET_STATUS answer OK at once with their payloads and change nothing else.
The model's choices that it rests on: log entry 56. -/
def Obligations.PortQueries : Prop :=
  ∀ (r : Req) (o : Outstanding) (s u : State),
    (Runs 0x0001 r o s u → o.fits 0 [] → exec (.sysNop r) s = .next (u.respond o cOk []))
    ∧ (Runs 0x0002 r o s u → o.fits 0 [] →
        (∀ v, u.boot.kfVersion = some v →
          exec (.sysGetVersion r) s = .next (u.respond o cOk
            (le 1 (u.part.romRev / 256) ++ le 1 u.part.romRev ++ le 1 (u.boot.kfRev / 256) ++ le 1 u.boot.kfRev ++ le 4 v
              ++ le 4 u.boot.stwVersion ++ le 1 u.lifecycle ++ le 1 u.variant ++ zeros 2)))
        ∧ (u.boot.kfVersion = none →
          exec (.sysGetVersion r) s = .next (u.respond o cOk
            (le 1 (u.part.romRev / 256) ++ le 1 u.part.romRev ++ zeros 10 ++ le 1 u.lifecycle ++ le 1 u.variant ++ zeros 2))))
    ∧ (Runs 0x0003 r o s u → o.fits 0 [] →
        exec (.sysGetPort r) s = .next (u.respond o cOk
          (le 1 o.port.index ++ le 1 o.port.rank ++ le 1 (u.outCount o.port o.session - 1) ++ le 1 (b2n u.svc.auth)
            ++ le 1 (if o.port = .cus then o.session else 0) ++ zeros 3)))
    ∧ (Runs 0x000A r o s u → o.fits 4 [] →
        (∀ t, tfind u.paths.tickets (u32 o.payload 0) = some t → t.port = o.port → t.session = o.session →
          exec (.sysTicketStatus r) s
            = .next (u.respond o cOk (if t.sent then le 1 2 ++ le 1 t.final ++ zeros 2 else le 1 1 ++ zeros 3)))
        ∧ ((∀ t, tfind u.paths.tickets (u32 o.payload 0) = some t → ¬(t.port = o.port ∧ t.session = o.session)) →
          exec (.sysTicketStatus r) s = .next (u.respond o cOk (zeros 4))))

/-- SYS.SVC_CHALLENGE draws a nonce and answers it with the DEVID; SYS.SVC_AUTH with a certificate and signature that verify opens the
service session, and a third failure in a row locks the command for 2^35 cycles.
The service port: a well-formed packet on channel 0 is received as a frame, one on channel 1 fills a bulk slot; a packet that cannot be
taken is counted; presenting SVC_PRESENTn low opens a session, authenticated in lifecycle OPEN_BENCH, and presenting it high closes it.
The model's choices that it rests on: log entries 18 and 22. -/
def Obligations.ServicePort : Prop :=
  (∀ (r : Req) (o : Outstanding) (s u : State),
     (Runs 0x0008 r o s u → o.fits 0 [] → u.drbgReady = true → u.reseedDue = false →
       let g := u.cry.deliver 32
       g.1.length = 32 ∧ g.2.requests = u.cry.requests + 1
       ∧ exec (.sysSvcChallenge r) s = .next
         (((u.modCry fun _ => g.2).modSvc fun v => { v with nonce := some g.1 }).respond o cOk (g.1 ++ u.devid)))
     ∧ (Runs 0x0009 r o s u → o.fits 8 [] → u.draining dCrypto = false → u.domainOn dCrypto = true → u.svc.lockUntil = none →
         (∀ nonce, u.svc.nonce = some nonce → u.certGood 7 0x82 (o.bulk.take certLength) = true → o.bulk.length = certLength + 3405 →
           certSigned (o.bulk.take certLength) (sha (ascii "TXI-SVC" ++ u.devid ++ nonce)) (slice o.bulk certLength 96)
             (o.bulk.drop (certLength + 96)) = true →
           exec (.sysSvcAuth r) s = .next
             (((u.modSvc fun v => { v with nonce := none, failures := 0, auth := true }).event 4 2 0x0504 0x0009 cOk (baton o.edge 4)).respond
               o cOk []))
         ∧ (u.svc.nonce = none → u.svc.failures = 2 → ∃ t, exec (.sysSvcAuth r) s = .next t ∧ t.svc.lockUntil = some (u.now + 2 ^ 35)
             ∧ t.svc.auth = u.svc.auth))
     ∧ (∀ e, Runs 0x0009 r o s u → o.fits 8 [] → u.svc.lockUntil = some e → u.now < e → exec (.sysSvcAuth r) s = .next (u.refuse o 0))
     ∧ (∀ e, u.svc.lockUntil = some e →
         exec .svcAuthLockExpiry u = .next ((u.advanceTo e).modSvc fun v => { v with lockUntil := none, failures := 0 })))
  ∧ (∀ s : State,
       (∀ (packet : Bytes) (d : Bytes), s.svc.present = true → s.svc.isOpen = true → s.svc.slots.length < 2 → d.length ≤ 4109 →
         (cobsDecode (packet.length + 1) packet = some (0 :: d) → frameLengthOk d = true → crcPasses d = true → s.fus.romOnly = false →
           exec (.svcPacket packet) s = .next (s.receive .svc 0 (Frame.ofBytes (d.take (d.length - 4)))))
         ∧ (cobsDecode (packet.length + 1) packet = some (1 :: d) →
           exec (.svcPacket packet) s = .next (s.modSvc fun v => { v with slots := v.slots ++ [d] }))
         ∧ (cobsDecode (packet.length + 1) packet = none →
           exec (.svcPacket packet) s = .next (s.modSvc fun v => { v with discards := satInc 255 v.discards })))
       ∧ exec .svcFramingError s = .next (s.modSvc fun v => { v with discards := satInc 255 v.discards })
       ∧ exec .svcPresentLow s = .next (s.modSvc fun v => { v with present := true, auth := v.auth || decide (s.lifecycle = 1) })
       ∧ ∃ t, exec .svcPresentHigh s = .next t ∧ t.svc.present = false ∧ t.svc.auth = false ∧ t.svc.nonce = none ∧ t.svc.slots = []
           ∧ t.svc.failures = s.svc.failures ∧ t.svc.lockUntil = s.svc.lockUntil ∧ t.transfer .svc 0 true = none ∧ t.transfer .svc 0 false = none
           ∧ ∀ x ∈ t.log.subs, ¬(x.port = .svc ∧ x.session = 0))

/-- What a MB0 READ drives: with a frame queued the marker 0x5A, the frame at the head and zeros, and the head is consumed only when the
host clocked every byte of it; with none queued, 0xB7 throughout.
MB0 STATUS returns the bytes of Table 3.7, and the count of discards is cleared when it completes. -/
def Obligations.MailboxReadAndStatus : Prop :=
  (∀ (s : State) (clocked : Nat), s.mb.isOpen = true →
     (∀ f rest, s.mb.queue = f :: rest → ∃ t, exec (.mb0Read clocked) s = .next t
         ∧ t = s.modMb (fun m => { m with drove0 := t.mb.drove0, queue := t.mb.queue })
         ∧ t.mb.drove0 = (0x5A#8 :: (withCrc f.bytes ++ zeros clocked)).take clocked
         ∧ (1 + (withCrc f.bytes).length ≤ clocked → t.mb.queue = rest)
         ∧ (clocked < 1 + (withCrc f.bytes).length → t.mb.queue = f :: rest))
     ∧ (s.mb.queue = [] → exec (.mb0Read clocked) s = .next (s.modMb fun m => { m with drove0 := List.replicate clocked 0xB7 })))
  ∧ (∀ s : State, s.mb.isOpen = true → s.mb.queue.length ≤ 32 → s.outCount .mb0 0 ≤ 16 → s.mb.discards ≤ 255 →
       ∃ b0 b1 b2 b3 : Byte,
         exec .mb0Status s = .next (s.modMb fun m => { m with drove0 := [b0, b1, b2, b3], discards := 0 })
         ∧ b0.getLsbD 0 = true ∧ b0.getLsbD 1 = decide (s.mb.queue.length + s.outCount .mb0 0 < 32) ∧ b0.getLsbD 2 = !s.mb.queue.isEmpty
         ∧ b0.getLsbD 3 = decide (0 < s.mb.discards) ∧ b0.toNat < 16 ∧ b1.toNat = s.mb.queue.length ∧ b2.toNat = s.outCount .mb0 0
         ∧ b3.toNat = s.mb.discards)

/-- A WRITE on MB0 takes effect at select release: a whole frame with its CRC and a free response slot is received; a frame of another length
or a transfer that ends inside a byte, a frame whose CRC fails, and a frame without a free slot are discarded and counted apart; a
transaction byte that Table 3.6 does not list is counted. A closed mailbox discards every frame.
MB1 and the rest of the mailbox: WRITE fills the inbound slot of an open transfer, READ drives the staged frame and consumes it when it
is clocked whole, STATUS reports slot, staged frame and expected sequence number, a clash of selects is counted, and a waiting notice enters
the MB0 queue behind all frames queued when a slot is free.
The model's choices that it rests on: log entry 23. -/
def Obligations.MailboxWrite : Prop :=
  (∀ (s : State) (tx : Byte) (data : Bytes) (extra : Nat),
     (tx ≠ 0x02 → tx ≠ 0x32 → exec (.mb0Write tx data extra) s = .next (s.modMb fun m => { m with errOther := satInc 255 m.errOther }))
     ∧ (tx = 0x02 ∨ tx = 0x32 →
         (s.mb.isOpen = false → ∃ t, exec (.mb0Write tx data extra) s = .next t
           ∧ t = s.modMb (fun m => { m with errNotReady := satInc 255 m.errNotReady, discards := satInc 255 m.discards,
                                            drove0 := List.replicate data.length 0xB7 }))
         ∧ (s.mb.isOpen = true → ∃ u, u = s.modMb (fun m => { m with drove0 := u.mb.drove0 }) ∧
             (extra % 8 ≠ 0 ∨ frameLengthOk data = false →
               exec (.mb0Write tx data extra) s = .next ((u.modMb fun m =>
                 { m with errAbort := satInc 255 m.errAbort, discards := satInc 255 m.discards }).event 4 4 0x0503 (u16 data 0)))
             ∧ (extra % 8 = 0 → frameLengthOk data = true → crcPasses data = false →
               exec (.mb0Write tx data extra) s = .next ((u.modMb fun m =>
                 { m with errCrc := satInc 255 m.errCrc, discards := satInc 255 m.discards }).event 4 4 0x0503 (u16 data 0)))
             ∧ (extra % 8 = 0 → frameLengthOk data = true → crcPasses data = true → s.mb0Free = 0 →
               exec (.mb0Write tx data extra) s = .next (u.modMb fun m =>
                 { m with errNotReady := satInc 255 m.errNotReady, discards := satInc 255 m.discards }))
             ∧ (extra % 8 = 0 → frameLengthOk data = true → crcPasses data = true → 0 < s.mb0Free →
               exec (.mb0Write tx data extra) s = .next (u.receive .mb0 0 (Frame.ofBytes (data.take (data.length - 4))))))))
  ∧ (∀ s : State,
       (∀ (data : Bytes) (extra : Nat), s.mb.isOpen = true → s.mb1In = true → s.mb.slot = none → extra % 8 = 0 →
         exec (.mb1Write 0x32 data extra) s = .next (s.modMb fun m => { m with drove1 := [], slot := some data })
         ∧ exec (.mb1Write 0x02 data extra) s = .next (s.modMb fun m => { m with drove1 := zeros data.length, slot := some data }))
       ∧ (∀ (clocked : Nat) (f : Bytes), s.mb.isOpen = true → (s.transfer .mb0 0 false).bind Bulk.staged = some f →
           let u := s.modMb fun m => { m with drove1 := (0x5A#8 :: (f ++ zeros clocked)).take clocked }
           exec (.mb1Read clocked) s = .next (if 1 + f.length ≤ clocked then u.consumeOut .mb0 0 else u))
       ∧ (∀ clocked : Nat, s.mb.isOpen = true → (s.transfer .mb0 0 false).bind Bulk.staged = none →
           exec (.mb1Read clocked) s = .next (s.modMb fun m => { m with drove1 := zeros clocked }))
       ∧ (∀ b, s.mb.isOpen = true → s.transfer .mb0 0 true = some b →
           exec .mb1Status s = .next (s.modMb fun m => { m with
             drove1 := le 1 (1 + 2 * b2n s.mb.slot.isNone + 4 * b2n ((s.transfer .mb0 0 false).bind Bulk.staged).isSome) ++ zeros 1 ++ le 2 b.seq }))
       ∧ exec .selectClash s = .next (s.modMb fun m => { m with errOther := satInc 255 m.errOther })
       ∧ (∀ f rest, s.mb.notices = f :: rest → s.mb.queue.length + s.outCount .mb0 0 < 32 →
           exec .mb0NoticeEnqueue s = .next (s.modMb fun m => { m with notices := rest, queue := m.queue ++ [f] })))

/-- The Steward port: a doorbell with a good frame is received (an EXT answer completes its command), one that is not aligned, leaves Steward TCM
or fails its CRC sets its own error bit; the ring is set before the first doorbell and only where it fits; the queue's head is written
to the ring where it fits, and the mailbox interrupt is raised.
EXT commands: one goes to the Steward under a fresh forward number with FWD set, a disabled feature or a Steward that does not run
refuses it, and the Steward's answer completes the original command on its own port before its terminal edge; from that edge on the command
expires and the answer is discarded.
The model's choices that it rests on: log entries 9 and 13. -/
def Obligations.StewardPortAndExt : Prop :=
  (∀ (s : State) (v : Word), s.stewardOn = true → v.toNat < 2 ^ 17 →
     let off := v.toNat
     let n := u16 (s.tcm (off + 4) 2) 0
     (off % 4 ≠ 0 → exec (.stwDoorbell v) s = .next (s.modStw fun q => { q with alignErr := true }))
     ∧ (off % 4 = 0 → 16 ≤ s.outCount .stw 0 → exec (.stwDoorbell v) s = .next (s.modStw fun q => { q with dbRefused := true }))
     ∧ (off % 4 = 0 → s.outCount .stw 0 < 16 → 0x20000 < off + 12 + n →
         exec (.stwDoorbell v) s = .next (s.modStw fun q => { q with rangeErr := true }))
     ∧ (off % 4 = 0 → s.outCount .stw 0 < 16 → off + 12 + n ≤ 0x20000 → crcPasses (s.tcm off (12 + n)) = true →
         bit (Frame.ofBytes (s.tcm off (8 + n))).flags 4 = false →
         exec (.stwDoorbell v) s
           = .next ((s.modStw fun q => { q with rang := true }).receive .stw 0 (Frame.ofBytes ((s.tcm off (12 + n)).take (8 + n)))))
     ∧ (∀ (core : CoreId) (w : Word), s.stw.rang = false → w.toNat % 2 ^ 17 % 4 = 0 → 0x800 ≤ w.toNat / 2 ^ 17 →
         w.toNat % 2 ^ 17 + 4 * (w.toNat / 2 ^ 17) ≤ 0x20000 →
         exec (.stwRspRingWrite core w) s
           = .next (s.modStw fun q => { q with ringBase := w.toNat % 2 ^ 17, ringSizeW := w.toNat / 2 ^ 17 }))
     ∧ (∀ (core : CoreId) (w : Word), s.stw.rang = true → ∃ t, exec (.stwRspRingWrite core w) s = .next t ∧ t.stw = s.stw)
     ∧ (∀ f rest, s.stw.queue = f :: rest → s.powered dSteward = true → (ringFrame f).length ≤ s.ringSpace →
         s.stw.ringWr + (ringFrame f).length ≤ 4 * s.stw.ringSizeW →
         exec .stwRingDeliver s = .next
           (((s.modCores fun c => { c with tcmSteward := mwrite 0 c.tcmSteward (s.stw.ringBase + s.stw.ringWr) (ringFrame f),
                                           irqSteward := c.irqSteward ||| 1 }).modStw fun q =>
             { q with queue := rest, ringWr := (s.stw.ringWr + (ringFrame f).length) % (4 * s.stw.ringSizeW) }).refillSteward)))
  ∧ ((∀ (op : Nat) (r : Req) (o : Outstanding) (s u : State), isExt op = true → Runs op r o s u →
       (u.featureOff 6 = false → u.stewardOn = true → ∃ t, exec (.extCommand op r) s = .next t
           ∧ t.stw.forwards = u.stw.forwards ++ [⟨u.stw.nextForward % 65536, o.port, o.session, o.tag, op⟩]
           ∧ t.stw.nextForward = u.stw.nextForward + 1
           ∧ t.stw.queue ++ t.stw.waiting
               = (if u.stw.waiting.isEmpty ∧ u.stwUnreserved < 32
                   then u.stw.queue ++ [⟨op, 16, 0, u.stw.nextForward % 65536, o.payload⟩] ++ u.stw.waiting
                   else u.stw.queue ++ u.stw.waiting ++ [⟨op, 16, 0, u.stw.nextForward % 65536, o.payload⟩])
           ∧ t = { u with stw := t.stw })
       ∧ (u.featureOff 6 = true → exec (.extCommand op r) s = .next (u.refuse o 0x00FE))
       ∧ (u.featureOff 6 = false → u.stewardOn = false → exec (.extCommand op r) s = .next (u.refuse o 0x0001)))
     ∧ ∀ (op number status : Nat) (payload : Bytes) (f : Forward) (o : Outstanding) (s : State),
         s.stw.forwards.find? (fun x => x.number = number ∧ x.opcode = op) = some f → s.findOut f.port f.session f.tag = some o →
         let u := s.modStw fun q => { q with forwards := q.forwards.filter fun x => x.number ≠ number }
         (s.now < o.deadline → exec (.extAnswer op number status payload) s = .next (u.respond o status payload))
         ∧ (o.deadline ≤ s.now →
             exec (.extAnswer op number status payload) s = .next ((u.respond o 0x13 (zeros 4)).eventLate 3 0 0x0503 op)))

/-- Bulk transfers: the expected frame of an inbound transfer is appended and restarts the idle timer, its LAST one starts the command when the
data is as long as announced; a consumed outbound frame is followed by the next, and the last ends the transfer; at the idle timer's terminal
edge a transfer closes, and an inbound one's command completes EXPIRED.
The response timer's terminal edge: a command on the Keeper completes EXPIRED without effect; one sent to a die whose link is lost completes
EXPIRED with LINK_LOST and a ticket, and its outcome stays awaited.
The model's choices that it rests on: log entries 10 and 15. -/
def Obligations.BulkTransfersAndTimers : Prop :=
  (∀ (s : State) (b : Bulk),
     (∀ f : Bytes, s.mb.slot = some f → s.transfer .mb0 0 true = some b → s.now < b.deadline → bulkFormOk .mb0 f = true → crcPasses f = true →
       u16 f 0 = b.tag → u16 f 2 = b.seq → byteAt f 7 = 0 →
       let u := s.modMb fun m => { m with slot := none }
       (byteAt f 6 = 0 →
         exec (.bulkFrameIn .mb0 0) s
           = .next (u.setTransfer { b with data := b.data ++ slice f 8 (u16 f 4), seq := b.seq + 1, deadline := s.now + 60000000 }))
       ∧ (byteAt f 6 = 1 → ∀ o i, s.findOut .mb0 0 b.tag = some o → cmdInfo o.opcode = some i →
           (b.data ++ slice f 8 (u16 f 4)).length = b.total →
           let w : Outstanding := { o with bulk := b.data ++ slice f 8 (u16 f 4), edge := s.now, progress := .accepted,
                                           deadline := s.now + s.timeoutCycles i.time }
           exec (.bulkFrameIn .mb0 0) s = .next (((u.closeBulk .mb0 0 true).setOut w).logAccepted w)))
     ∧ (∀ p n, p ≠ .svc → p ≠ .cus → s.transfer p n false = some b →
         (b.data = [] → exec (.bulkFrameOutConsumed p n) s = .next (s.closeBulk p n false))
         ∧ (b.data ≠ [] → exec (.bulkFrameOutConsumed p n) s = .next (s.setTransfer { b.next with deadline := s.now + 60000000 })))
     ∧ (∀ p n o, s.transfer p n true = some b → s.findOut p n b.tag = some o →
         exec (.bulkIdleExpiry p n true) s = .next (((s.advanceTo b.deadline).closeBulk p n true).respond o 0x13 (zeros 4)))
     ∧ (∀ p n, s.transfer p n false = some b →
         exec (.bulkIdleExpiry p n false) s = .next (((s.advanceTo b.deadline).closeBulk p n false).logDiscard p n b.opcode)))
  ∧ (∀ (s : State) (p : Port) (n tag : Nat) (o : Outstanding), s.findOut p n tag = some o → o.progress ≠ .awaitsBulk →
       let forward := s.stw.forwards.find? fun x => x.port = o.port ∧ x.session = o.session ∧ x.tag = o.tag
       let u := s.advanceTo o.deadline
       (∀ x, forward = some x → o.link = none → exec (.responseTimerExpiry p n tag) s = .next ((u.withdrawForward x.number).respond o 0x13 (zeros 4)))
       ∧ (forward = none → o.link = none → exec (.responseTimerExpiry p n tag) s = .next (u.respond o 0x13 (zeros 4)))
       ∧ (∀ l, forward = none → o.link = some l → s.inSession l = false →
           exec (.responseTimerExpiry p n tag) s = .next
             (((u.newTicket o).2.modPaths fun q => { q with lost := q.lost ++ [(s.paths.nextTicket, l)] }).respond o 0x13
               (le 2 1 ++ le 4 s.paths.nextTicket))))

/-! ## Chapter 3: the custody channel -/

/-- A record that is no custody record is dropped and counted. A protected record of an open session whose tag verifies and whose SEQ is fresh
restarts the idle time; KEEPALIVE does no more, CLOSE closes the session, DATA goes to reassembly; a tag that fails is counted and changes
nothing else.
CUSTODY_STEER sends the UDP payload of the oldest steered frame to the Keeper with its source while the link is in SESSION and fewer than 8
wait, and else drops it and counts why; CUSTODY_RECORD_TRANSMIT removes the oldest message and puts its records as frames in SITE's order.
The model's choices that it rests on: log entries 16 and 35. -/
def Obligations.CustodyRecordsAndTransport : Prop :=
  (∀ (source record : Bytes) (s : State),
     let v : State := { s with net := { s.net with keeperIn := s.net.keeperIn.erase (source, record) } }
     let n := be16 record 2
     let seq := beVal (slice record 4 8)
     let len := be16 record 14
     let x := s.session n
     let opened := gcmOpen ((s.slotKey (slotTraffic n)).take 32) (x.ivIn ++ be 8 seq) (record.take 16) (slice record 16 len) (record.drop (16 + len))
     (record.length < 16 → exec (.custodyRecord source record) s = .next v.cusDrop)
     ∧ (byteAt record 0 = 1 → len ≤ 1280 → byteAt record 12 < byteAt record 13 → byteAt record 13 ≤ 16 →
         0x10 ≤ byteAt record 1 → byteAt record 1 ≤ 0x12 → record.length = 32 + len →
         (s.sessionOpen n = false → exec (.custodyRecord source record) s = .next v.cusDrop)
         ∧ (s.sessionOpen n = true → opened = none → exec (.custodyRecord source record) s = .next v.cusTagFail)
         ∧ (∀ text, s.sessionOpen n = true → opened = some text → s.now < x.deadline → x.freshSeq seq = true →
             let w := v.setSession n { (x.takeSeq seq) with deadline := s.now + s.cusIdle, address := source }
             (byteAt record 1 = 0x11 → exec (.custodyRecord source record) s = .next w)
             ∧ (byteAt record 1 = 0x12 → exec (.custodyRecord source record) s = .next (w.closeSession n))
             ∧ (byteAt record 1 = 0x10 →
                 exec (.custodyRecord source record) s
                   = .next (w.dataFragment n seq (byteAt record 12) (byteAt record 13) text x.seqHi)))))
  ∧ (∀ (f : NetFrame) (s : State),
       (s.findFrame (fun g => g.stage = .steer) = some f →
         let u := s.advanceTo f.edge
         (f.unlimited = false → f.residence ≤ u.now → exec .custodySteer s = .next (u.dropFrame f f.dir rStale (u.now = f.residence)))
         ∧ (u.now < f.residence → u.inSession 0 = false →
             exec .custodySteer s = .next ((u.dropFrame f 0 dCusLink).modNet fun n => { n with cusLink := satInc 255 n.cusLink }))
         ∧ (u.now < f.residence → u.inSession 0 = true → 8 ≤ s.net.keeperIn.length →
             exec .custodySteer s = .next ((u.dropFrame f 0 dCusFull).modNet fun n => { n with cusFull := satInc 255 n.cusFull }))
         ∧ (∀ ip udp, f.parse.steer = some (ip, udp) → u.now < f.residence → u.inSession 0 = true → s.net.keeperIn.length < 8 →
             exec .custodySteer s = .next ((u.frameLeaves f).modNet fun n =>
               { n with steered := satInc 65535 n.steered,
                        keeperIn := n.keeperIn ++ [(custodySource f.bytes ip udp, slice f.bytes (udp + 8) (be16 f.bytes (udp + 4) - 8))] })))
       ∧ (∀ m rest, s.cus.out = m :: rest → s.inSession 0 = true → m.type < 0x10 → m.body.length ≤ 1280 →
           exec .custodyRecordTransmit s = .next ((s.modCus fun c => { c with out := rest }).siteFrame
             (custodyFrame m.address (slice s.clsBody 8 16) (u16 s.clsBody 24)
               ([1] ++ le 1 m.type ++ be 2 m.session ++ zeros 8 ++ [0, 1] ++ be 2 m.body.length ++ m.body))))
       ∧ ∀ m rest, s.cus.out = m :: rest → (s.inSession 0 = false ∨ (0x10 ≤ m.type ∧ s.sessionOpen m.session = false)) →
           exec .custodyRecordTransmit s = .next (s.modCus fun c => { c with out := rest }))

/-- The custody handshake: a C_HELLO that the limits bar is answered REJECT with reason 1; a C_FINISH with the right confirmation opens the
session and is answered I_FINISH; one with a wrong confirmation ends the attempt without a reply, as its 2 s do; a session's idle time closes it.
What the opening and the closing of a custody session leave (R135, R138, R283): an open session takes the handshake's initialisation
vectors and its idle deadline; a closed one has lost its traffic key, its transfers and its subscription.
The model's choices that it rests on: log entry 16. -/
def Obligations.CustodySessions : Prop :=
  (∀ (source record : Bytes) (s : State),
     let v : State := { s with net := { s.net with keeperIn := s.net.keeperIn.erase (source, record) } }
     let body := record.drop 16
     (byteAt record 0 = 1 → body.length ≤ 1280 → record.length = 16 + be16 record 14 → byteAt record 12 = 0 → 1 ≤ byteAt record 13 →
       byteAt record 13 ≤ 16 → beVal (slice record 4 8) = 0 → s.featureOff 2 = false →
       (byteAt record 1 = 1 → be16 record 2 = 0 → s.cus.handshake = none → s.cusBusy = true →
         exec (.custodyRecord source record) s = .next (v.cusReject 1 source))
       ∧ (∀ h, byteAt record 1 = 3 → byteAt record 13 = 1 → s.cus.handshake = some h → s.now < h.deadline → h.answered = true → h.session = be16 record 2 →
           h.finishParts = [] → body.length = 48 →
           let h' : Handshake := { h with finishParts := [(0, body)], finishCount := 1 }
           let w := v.modCus fun c => { c with handshake := some h' }
           (body = hmac (s.slotKey slotFinC) h.transcript → exec (.custodyRecord source record) s = .next (w.openSession h' source body))
           ∧ (body ≠ hmac (s.slotKey slotFinC) h.transcript → exec (.custodyRecord source record) s = .next (w.endHandshake false))))
     ∧ (∀ h, s.cus.handshake = some h → exec .handshakeTimeout s = .next ((s.advanceTo h.deadline).endHandshake false))
     ∧ ∀ n, s.sessionOpen n = true → exec (.cusIdleExpiry n) s = .next ((s.advanceTo (s.session n).deadline).closeSession n))
  ∧ ((∀ (h : Handshake) (source finish : Bytes) (s : State), s.cus.handshake = some h →
       let t := s.openSession h source finish
       t.cus.handshake = none
         ∧ t.session h.session = { isOpen := true, ivIn := h.ivIn, ivOut := h.ivOut, deadline := s.now + s.cusIdle, address := source }
         ∧ t.cus.out = s.cus.out ++ [⟨h.session, 4, hmac (s.slotKey slotFinI) (h.transcript ++ finish), source⟩])
     ∧ ∀ (n : Nat) (s : State), s.sessionOpen n = true →
       let t := s.closeSession n
       t.sessionOpen n = false ∧ t.slotValid (slotTraffic n) = false ∧ t.transfer .cus n true = none ∧ t.transfer .cus n false = none
         ∧ (∀ x ∈ t.log.subs, ¬(x.port = .cus ∧ x.session = n)) ∧ ∀ m, m ≠ n → t.session m = s.session m)

/-! ## Chapter 20: the Sillage -/

/-- A record that is placed takes the next SEQ, joins the ring's end and the hash chain, which begins anew at SEQ 0; the 120th record of the
open batch seals it, and the next record opens another.
The Sillage store: a write starts with the oldest batch that is not persisted while Warden R is free; its end leaves the batch persisted
in its sector, consumes the SSN and moves on a sector; a write that fails is counted and logged, and the third failure of a batch stops
the store. LOG.EXPORT sends the ring's sector images as bulk data.
The model's choices that it rests on: log entries 20 and 50. -/
def Obligations.SillageChainAndStore : Prop :=
  (∀ (r : Rec) (s : State), s.log.ring.length < 2048 → s.log.openFirst ≤ s.log.nextSeq →
     let seq := s.log.nextSeq
     let t := s.placeRec r
     t.log.nextSeq = seq + 1
       ∧ t.log.ring = s.log.ring ++ [(seq, r)]
       ∧ t.log.chain = sha ((if seq = 0 then sha (ascii "TXI-SIL" ++ s.devid ++ le 4 s.log.bootCount) else s.log.chain) ++ r.bytes seq)
       ∧ (s.log.openCount + 1 < 120 → t.log.openFirst = s.log.openFirst ∧ t.log.sealed = s.log.sealed)
       ∧ (s.log.openCount + 1 = 120 → t.log.openFirst = seq + 1 ∧ ∃ b : Batch, t.log.sealed = s.log.sealed ++ [b] ∧ b.firstSeq = s.log.openFirst
           ∧ b.count = 120 ∧ b.chain = t.log.chain ∧ (b.unsigned = false ↔ s.domainOn dCrypto = true ∧ s.slotValid 122 = true)))
  ∧ ((∀ (b : Batch) (s : State), s.batchDue = some b → s.storeInUse = true → s.portsReady = true →
       (s.storeFree = true →
         exec .storeWriteStart s = .next (s.scanStore.modStore fun t => { t with writing := some b.firstSeq, cut := false }))
       ∧ (s.storeFree = false → exec .storeWriteStart s = .next s))
     ∧ (∀ (first : Nat) (b : Batch) (s : State), s.log.store.writing = some first →
         s.log.sealed.find? (fun x => x.firstSeq = first) = some b → s.log.store.cut = false →
         let t := s.log.store
         let image := s.sectorImage b t.nextSsn
         (s.sectorAllowed t.nextSector = false → exec (.storeWriteDone false) s = .next (s.storeFails b))
         ∧ (s.sectorAllowed t.nextSector = true →
             exec (.storeWriteDone true) s = .next ((s.tornSector t.nextSector image).storeFails b)
             ∧ exec (.storeWriteDone false) s = .next
                 (((s.writeSector t.nextSector 4096 image).modBatch first fun x => { x with persisted := true, ssn := t.nextSsn }).modStore fun y =>
                   { y with lastSsn := y.nextSsn, writing := none, cut := false, nextSector := sectorAfter y.nextSector, nextSsn := y.nextSsn + 1 })))
     ∧ (∀ (b : Batch) (s : State), (s.storeFails b).log.store.stopped = (s.log.store.stopped || decide (2 ≤ b.failures)))
     ∧ ∀ (r : Req) (o : Outstanding) (s u : State), Runs 0xA001 r o s u → o.payload.length = 16 → u32 o.payload 0 = 0 → byteAt o.payload 8 = 0 →
         byteAt o.payload 9 = 0 → 0 < u16 o.payload 10 → u16 o.payload 10 ≤ 64 →
         exec (.logExport r) s = .next (u.bulkOut o (u.ringImages (u32 o.payload 12) (u16 o.payload 10)).flatten []))

/-- The Sillage's own events: the next record enters on its entry edge; on the commit edge, 2048 cycles after a held record's, what entered
and is that old is committed; 2^32 cycles after its first record the open batch is sealed; a signature ends with the batch signed by slot 122,
or UNSIGNED; the alert frame shows the lowest active code.
The model's choices that it rests on: log entries 10, 11 and 20. -/
def Obligations.SillageEvents : Prop :=
  ∀ s : State,
    (∀ e, lowest (s.log.entry.flight.map Prod.fst) = some e → exec .recordEntry s = .next (s.advanceTo e).enterDue)
    ∧ (∀ c, s.log.entry.begun = true → lowest (s.log.entry.held.map Rec.cycle) = some c →
        exec .recordCommit s = .next ((s.advanceTo (c + 2048)).enterDue).commitDue)
    ∧ (s.log.openCount ≠ 0 → exec .batchSealTimeout s = .next (s.advanceTo (s.log.openSince + 2 ^ 32)).sealBatch)
    ∧ (∀ b, s.log.sealed.find? Batch.signing = some b →
        exec (.sealSigned true) s = .next (s.endSeal b.firstSeq none)
        ∧ (s.slotValid 122 = true → s.drbgReady = true →
            let g := s.generate 48
            exec (.sealSigned false) s = .next (g.2.endSeal b.firstSeq (some (sign sEcdsa384 96 (g.2.slotKey 122)
              (sha (ascii "TXI-SLS" ++ g.2.sealHead b)) g.1)))))
    ∧ (s.clk.running = true →
        let u := s.atTick 28800000
        exec .alertFrameStart s = .next (u.modLog fun l => { l with shown := u.lowestAlert, frameStart := u.now }))

/-- LOG.READ, LOG.SEAL, LOG.GET_HEAD, LOG.SUBSCRIBE and LOG.CLEAR_ALERT on payloads their formats allow.
A delivery of a subscription takes all its due records in one notice under the TAG of its LOG.SUBSCRIBE, which belongs to no ticket, and leaves
none due; nothing is sent while none is due or the last delivery still waits.
The model's choices that it rests on: log entry 7. -/
def Obligations.SillageCommands : Prop :=
  (∀ (r : Req) (o : Outstanding) (s u : State),
     let oldest := match u.log.ring with | [] => u.log.nextSeq | x :: _ => x.1
     let recs := (u.log.ring.filter fun x => max (u32 o.payload 0) oldest ≤ x.1).take (u16 o.payload 4)
     (Runs 0xA000 r o s u → o.fits 8 [(6, 2)] → 0 < u16 o.payload 4 → u16 o.payload 4 ≤ 120 →
       exec (.logRead r) s = .next (u.respond o cOk (le 4 u.log.nextSeq ++ le 4 oldest ++ le 4 u.log.bootCount ++ le 2 recs.length ++ zeros 2
         ++ recs.flatMap fun x => x.2.bytes x.1)))
     ∧ (Runs 0xA002 r o s u → o.fits 0 [] →
         (u.sealBatch.log.last = none → exec (.logSeal r) s = .next (u.sealBatch.respond o cOk (zeros 192)))
         ∧ (∀ b, u.sealBatch.log.last = some b → b.signing = false →
             exec (.logSeal r) s = .next (u.sealBatch.respond o cOk (u.sealBatch.sealBlock b)))
         ∧ (∀ b, u.sealBatch.log.last = some b → b.signing = true →
             exec (.logSeal r) s = .next (u.sealBatch.modLog fun l => { l with waiters := l.waiters ++ [(o.port, o.session, o.tag, b.firstSeq)] })))
     ∧ (Runs 0xA003 r o s u → o.fits 0 [] →
         exec (.logGetHead r) s = .next (u.respond o cOk (le 4 u.logStat ++ le 4 u.log.nextSeq ++ le 4 u.log.bootCount
           ++ le 4 ((u.log.last.map Batch.firstSeq).getD 0) ++ sized 48 u.log.chain ++ le 4 u.log.store.lastSsn ++ le 4 u.logDrop
           ++ le 4 u.logAlert ++ zeros 4)))
     ∧ (Runs 0xA004 r o s u → o.fits 4 [] → u16 o.payload 0 < 2 ^ 14 → byteAt o.payload 2 ≤ 3 → byteAt o.payload 3 = 0 →
         (u16 o.payload 0 = 0 → exec (.logSubscribe r) s = .next ((u.unsubscribe o.port o.session).respond o cOk (zeros 4)))
         ∧ (u16 o.payload 0 ≠ 0 →
             exec (.logSubscribe r) s = .next (((u.unsubscribe o.port o.session).modLog fun l =>
               { l with subs := l.subs ++ [{ port := o.port, session := o.session, tag := o.tag, number := u.log.nextSub, mask := u16 o.payload 0,
                                             minSev := byteAt o.payload 2, since := o.edge }],
                        nextSub := l.nextSub + 1 }).respond o cOk (le 4 u.log.nextSub))))
     ∧ (Runs 0xA005 r o s u → o.fits 4 [(1, 3)] →
         let code := byteAt o.payload 0
         let k := alertCodeList.idxOf code
         (2 ≤ k → k ≤ 5 → bit u.log.latched k = true →
           let v := u.modLog fun l => { l with latched := l.latched - 2 ^ k }
           exec (.logClearAlert r) s = .next ((v.event 2 0 0x0D05 code).respond o cOk (le 4 v.logAlert)))
         ∧ (2 ≤ k → k ≤ 5 → bit u.log.latched k = false → exec (.logClearAlert r) s = .next (u.refuse o 1))))
  ∧ (∀ (p : Port) (n : Nat) (x : Subscription) (s : State),
       s.log.subs.find? (fun y => y.port = p ∧ y.session = n) = some x →
         (x.due = [] ∨ s.deliveryWaits x = true → exec (.subscriptionDelivery p n) s = .next s)
         ∧ (x.due ≠ [] → s.deliveryWaits x = false →
             exec (.subscriptionDelivery p n) s = .next ((s.modLog fun l =>
               { l with subs := l.subs.map fun y => if y.number = x.number then { y with due := [], skipped := 0 } else y }).notice p n
                 { opcode := 0xA004, flags := 3, status := cOk, tag := x.tag,
                   payload := le 4 x.number ++ le 1 x.due.length ++ le 1 x.skipped ++ zeros 2 ++ x.due.flatMap fun y => y.2.bytes y.1 })))

/-! ## Chapter 15: the MACs and the slow path -/

/-- The MACs' links and reception: a poll of a usable PHY brings the link up with its speed and 4096 cycles of training, a poll that finds it
down takes it down; a frame whose SFD finds room is stored after its last nibble, or dropped with the first reason that holds; a PAUSE ends on
its edge; with GO, RLY.NET_MDIO_CMD runs an access.
The model's choices that it rests on: log entries 34 and 64. -/
def Obligations.MacLinksAndReception : Prop :=
  ∀ (m : Nat) (s : State), m < 2 → s.macOn m = true → s.netOn = true →
    (∀ (bmcr bmsr adv partner gctl gstat : BitVec 16),
      let u := s.atTick (2 ^ 20)
      (∀ v, bmsr.getLsbD 2 = true → (s.mac m).up = false → (bmcr.getLsbD 12 = true → bmsr.getLsbD 5 = true) →
        mdioSpeed bmcr adv partner gctl gstat = some v →
        exec (.mdioPoll m bmcr bmsr adv partner gctl gstat) s
          = .next ((u.modMac m fun k => { k with up := true, speed := v, training := some (u.now + 4096) }).event (8 + m) 0 0x0801))
      ∧ (bmsr.getLsbD 2 = true → (s.mac m).up = true → exec (.mdioPoll m bmcr bmsr adv partner gctl gstat) s = .next u)
      ∧ (bmsr.getLsbD 2 = false → (s.mac m).up = true → (s.mac m).receiving = none →
        exec (.mdioPoll m bmcr bmsr adv partner gctl gstat) s
          = .next (((u.modMac m fun k => { k with up := false, training := none, receiving := none }).dropQueued m).event (8 + m) 0 0x0802)))
    ∧ (∀ t, (s.mac m).training = some t →
        exec (.linkTrainingEnd m) s = .next ((s.advanceTo t).modMac m fun k => { k with training := none }))
    ∧ (∀ (core : CoreId) (v : Word) (d : Nat), s.inSession 0 = true → (core = .steward → s.cores.winRly = true) → v.toNat < 2 ^ 23 →
        exec (.mdioCoreAccess core m v d) s = .next (s.modMac m fun k =>
          { k with mdioData := if bit v.toNat 22 = true ∧ bit v.toNat 21 = false then d % 65536 else v.toNat % 65536,
                   mdioReg := bits v.toNat 20 16, mdioWrite := bit v.toNat 21 }))
    ∧ ((s.mac m).up = true →
        (s.roomFor m = true → exec (.frameSfd m) s = .next (s.modMac m fun k => { k with receiving := some true }))
        ∧ (s.roomFor m = false →
            exec (.frameSfd m) s
              = .next ((s.drop m dBufferFull (baton s.now (8 + m)) 0).modMac m fun k => { k with receiving := some false })))
    ∧ (∀ (f : Bytes) (coding : Bool), (s.mac m).receiving = some true →
        let u := s.modMac m fun k => { k with receiving := none }
        let b := baton u.now (8 + m)
        (fcsPasses f = false → exec (.frameReception m f coding) s = .next (u.drop m dFcs b 0))
        ∧ (fcsPasses f = true → f.length < 64 → exec (.frameReception m f coding) s = .next (u.drop m dRunt b 0))
        ∧ (fcsPasses f = true → 2048 < f.length → exec (.frameReception m f coding) s = .next (u.drop m dOversize b 0))
        ∧ (fcsPasses f = true → 64 ≤ f.length → f.length ≤ 2048 →
            (coding = true ∨ (s.mac m).training.isSome = true → exec (.frameReception m f coding) s = .next (u.drop m dRxErr b 0))
            ∧ (coding = false → (s.mac m).training = none → be16 f 12 ≠ 0x8808 →
                exec (.frameReception m f coding) s = .next (u.storeFrame m f false))
            ∧ (coding = false → (s.mac m).training = none → be16 f 12 = 0x8808 →
                exec (.frameReception m f coding) s = .next (u.macControl m f))))
    ∧ ∀ t, (s.mac 1).paused = some t → exec .pauseExpiry s = .next ((s.advanceTo t).modMac 1 fun k => { k with paused := none })

/-- A frame's way: its parse ends on its parse end edge; the slow path copies it into its cell with a descriptor, advances TAIL and raises the
Steward's interrupt; a free transmitter sends it; when sent, its cells return; at its residence terminal edge it is dropped STALE_EPOCH.
The model's choices that it rests on: log entry 36. -/
def Obligations.FrameWay : Prop :=
  ∀ (m : Nat) (f : NetFrame) (s : State), m < 2 →
    (s.findFrame (fun g => g.dir = m ∧ g.stage = .parsing) = some f →
      let u := s.advanceTo f.parseEnd
      (f.parse.reason = 0 → exec (.parseEnd m) s = .next (u.replaceFrame f { f with stage := .parsed }))
      ∧ (f.parse.reason ≠ 0 → f.injected = true → exec (.parseEnd m) s = .next (u.dropFrame f m dInjLoop))
      ∧ (f.parse.reason ≠ 0 → f.injected = false → f.parse.reason = rMalformed → pbMalf (s.macBlock m) = 0 →
          exec (.parseEnd m) s = .next (u.dropFrame f m rMalformed))
      ∧ (f.parse.reason ≠ 0 → f.injected = false → (f.parse.reason = rMalformed → pbMalf (s.macBlock m) ≠ 0) →
          exec (.parseEnd m) s = .next (u.replaceFrame f
            { f with stage := .slow, reason := f.parse.reason, rule := 0xFFFFFFFF, edge := f.parseEnd })))
    ∧ (earliest (s.net.frames.filter fun g => g.stage = .slow) = some f → s.inSession 0 = true → (s.advanceTo (f.edge + 1)).now < f.residence →
        let u := s.advanceTo (f.edge + 1)
        let waiting := (s.net.spTail + 2 ^ 32 - s.net.spHead) % 2 ^ 32
        let cell := s.net.spTail % s.spCells
        let base := (s.partition 2).1
        (s.spLimit ≤ waiting → exec .slowPathDelivery s = .next (u.dropFrame f f.dir dSlowFull))
        ∧ (waiting < s.spLimit → ∃ t, exec .slowPathDelivery s = .next t
            ∧ t.wdn = ((u.poolWrite (base + 0x2000 + 0x800 * cell) f.bytes).poolWrite (base + 32 * (s.net.spTail % 256))
                (spDescriptor f cell s.net.spTail)).wdn
            ∧ t.net.spTail = (s.net.spTail + 1) % 2 ^ 32 ∧ t.net.spHead = s.net.spHead ∧ t.net.frames = s.net.frames.erase f
            ∧ t.cores = { s.cores with irqSteward := s.cores.irqSteward ||| 4 }))
    ∧ (∀ (core : CoreId) (v : Word), s.inSession 0 = true → (core = .steward → s.cores.winRly = true) →
        (headInRange s.net.spHead s.net.spTail v.toNat = true →
          exec (.spHeadWrite core v) s = .next (s.modNet fun n => { n with spHead := v.toNat }))
        ∧ (headInRange s.net.spHead s.net.spTail v.toNat = false →
          exec (.spHeadWrite core v) s = .next (s.event (coreSlot core) 0 0x0003 0 0x41050800 v.toNat)))
    ∧ (earliest (s.net.frames.filter fun g => g.stage = .forward ∧ g.txMac = m) = some f → (s.mac m).paused = none → s.netOn = true →
        (s.net.frames.any fun g => g.stage = .sending ∧ g.txMac = m) = false → f.mirror = false →
        let u := s.advanceTo (max f.edge (s.mac m).free)
        (f.unlimited = true ∨ u.now < f.residence → ∃ t, exec (.frameTransmit m) s = .next t ∧ t.now = u.now
          ∧ t.net.frames = s.net.frames.erase f ++ [{ f with stage := .sending, ends := u.now + byteCycles (s.mac m).speed (8 + f.bytes.length),
                                                             epoch := none }]
          ∧ (t.mac m).free = u.now + byteCycles (s.mac m).speed (20 + f.bytes.length))
        ∧ (f.unlimited = false → f.residence ≤ u.now →
          exec (.frameTransmit m) s = .next (u.dropFrame f f.dir rStale (u.now = f.residence))))
    ∧ (s.findFrame (fun g => g.stage = .sending ∧ g.txMac = m) = some f →
        ∃ t, exec (.frameTransmitted m) s = .next t ∧ t.now = (s.advanceTo f.ends).now ∧ t.net.frames = s.net.frames.erase f
          ∧ (t.mac m).txOk = satInc 0xFFFFFFFF (s.mac m).txOk
          ∧ (t.mac m).paused = match (s.mac m).pauseDue with | some n => some (t.now + n) | none => (s.mac m).paused)
    ∧ (s.findFrame (fun g => g.dir = m ∧ g.stage ≠ .sending ∧ !g.unlimited) = some f →
        exec (.residenceExpiry m) s = .next ((s.advanceTo f.residence).dropFrame f f.dir rStale))

/-! ## Chapter 16: classification -/

/-- A frame's classification on its parse end edge plus 3: too late it is dropped STALE_EPOCH, a custody frame of SITE is steered, and else the
table in force decides; the winning entry is the lowest of the direction that matches, and it counts frame and bytes.
The model's choices that it rests on: log entry 36. -/
def Obligations.ClassificationRules : Prop :=
  ∀ (m : Nat) (f : NetFrame) (s : State), m < 2 →
    (s.findFrame (fun g => g.dir = m ∧ g.stage = .parsed) = some f →
      let u := s.advanceTo (f.parseEnd + 3)
      (f.residence ≤ u.now → exec (.classification m) s = .next (u.dropFrame f m rStale (u.now = f.residence)))
      ∧ (u.now < f.residence → m = 0 → u.cusOn = true → f.parse.steer.isSome = true → f.injected = false →
          exec (.classification m) s = .next (u.replaceFrame f { f with stage := .steer, edge := u.now }))
      ∧ (u.now < f.residence → ¬(m = 0 ∧ u.cusOn = true ∧ f.parse.steer.isSome = true) → exec (.classification m) s = .next (u.meetRules f)))
    ∧ (∀ (cl : Bytes) (t : Table) (i : Nat) (b : Bytes), winningRule cl t m f.parse = some (i, b) →
        (i, b) ∈ t.rules ∧ clTcamBase cl m ≤ i ∧ i < clTcamBase cl m + clTcam cl m
          ∧ ruleMatches t (clRangeBase cl m) (keyOf f.parse) f.parse.fv b = true)
    ∧ (∀ (i : Nat) (b : Bytes), winningRule s.clsBody s.tableNow.1 f.dir f.parse = some (i, b) → ruFlag b 1 = false →
        let c := tget ({} : RuleCount) s.net.cls.counts i
        let c' : RuleCount := { c with frames := satInc 0xFFFFFFFF c.frames, bytes := satAdd (2 ^ 48 - 1) c.bytes f.bytes.length }
        s.meetRules f = (s.modCls fun q => { q with counts := tset {} q.counts i c' }).act f (ruAction b)
              ((i - clTcamBase s.clsBody f.dir) + 4096 * f.dir + 8192 * s.tableNow.2) s.tableNow.2 false)
    ∧ ∀ rule epoch refused,
        (s.act f 0 rule epoch false = s.frameLeaves f) ∧ (s.act f 0 rule epoch true = s.dropByRule f f.dir dOverDrop rule)
        ∧ (s.act f 2 rule epoch refused = s.toSteward f rCopy rule epoch)
        ∧ (s.act f 1 rule epoch refused = s.sendOn (1 - f.dir) f { f with rule := rule, edge := s.now, epoch := some epoch, mirror := false })
        ∧ (s.act f 3 rule epoch refused = s.sendOn (1 - f.dir) f { f with rule := rule, edge := s.now, epoch := some epoch, mirror := true })

/-- NET.WRITE_RULE, NET.WRITE_RANGE and NET.COMMIT: writes go to the shadow alone and are refused while a commit is pending; a commit takes effect
on the Relay's effect edge while no frame is bound to the older table, and else is PENDING until the edge after it drained; 512 edges after the
effect the copy into the shadow ends.
NET.GET_PORT reports a port's link, limits and counters; NET.SET_LIMITS changes the parse limits of a port that parses its graph from the
Relay's effect edge on, and refuses a disabled MAC, FIXED parsing and a link out of SESSION.
The model's choices that it rests on: log entry 36. -/
def Obligations.RuleCommands : Prop :=
  (∀ (r : Req) (o : Outstanding) (s u : State),
     let b := o.payload.drop 4
     let d := ruDir b
     let obj := [objTable (131072 + 4096 * d + ruIndex b)]
     (Runs 0x4010 r o s u → o.fits 100 [(1, 3)] → byteAt o.payload 0 ≤ 1 → u.inSession 0 = true → ruleFault u.clsBody b = none →
       ruIndex b < clTcam u.clsBody d → ruAction b ≠ 3 → ruFlag b 1 = false →
       u.unopposed [objTable 163840] →
       (u.net.cls.waiting.isSome = true → exec (.netWriteRule r) s = .next (u.refuse o 0x14))
       ∧ (u.net.cls.waiting = none → u.net.cls.copying = none → u.net.cls.copyHeld = false → u.unopposed obj →
           let i := clTcamBase u.clsBody d + ruIndex b
           exec (.netWriteRule r) s = .next (((u.takesEffect o.port o.opcode obj).modCls fun c =>
             { c with shadow := { c.shadow with rules := if ruFlag b 0 then tins c.shadow.rules i b else tdel c.shadow.rules i },
                      clears := if byteAt o.payload 0 = 1 then i :: c.clears.erase i else c.clears }).respond o cOk [])))
     ∧ (Runs 0x4011 r o s u → o.fits 8 [] → u.inSession 0 = true → rangeFault o.payload = none →
         rgIndex o.payload < clRange u.clsBody (rgDir o.payload) → u.net.cls.waiting = none → u.net.cls.copying = none →
         u.net.cls.copyHeld = false → u.unopposed [objTable 163840] → u.unopposed [objTable (147456 + 64 * rgDir o.payload + rgIndex o.payload)] →
         let i := clRangeBase u.clsBody (rgDir o.payload) + rgIndex o.payload
         exec (.netWriteRange r) s = .next
           (((u.takesEffect o.port o.opcode [objTable (147456 + 64 * rgDir o.payload + rgIndex o.payload)]).modCls fun c =>
             { c with shadow := { c.shadow with
                 ranges := if byteAt o.payload 3 = 1 then tins c.shadow.ranges i o.payload else tdel c.shadow.ranges i } }).respond o cOk []))
     ∧ (Runs 0x4012 r o s u → o.fits 0 [] → u.inSession 0 = true → u.net.cls.waiting = none → u.net.cls.copying = none →
         u.net.cls.copyHeld = false → u.unopposed [objTable 163840] →
         let v := u.takesEffect o.port o.opcode [objTable 163840]
         (u.oldLive = true →
           exec (.netCommit r) s = .next (((v.newTicket o).2.respond o cPending (le 4 u.paths.nextTicket)).modCls fun c =>
             { c with waiting := some u.paths.nextTicket, drained := max c.drained (u.now + 31 - 1) }))
         ∧ (u.oldLive = false →
             let t := v.commitTakes (u.now + 31)
             exec (.netCommit r) s = .next (t.respond o cOk (le 8 (baton (u.now + 31) 8) ++ le 1 ((u.net.cls.cur + 1) % 4) ++ zeros 3))
             ∧ t.net.cls.current = u.net.cls.shadow ∧ t.net.cls.older = u.net.cls.current ∧ t.net.cls.cur = (u.net.cls.cur + 1) % 4
             ∧ t.net.cls.old = u.net.cls.cur ∧ t.net.cls.effect = u.now + 31 ∧ t.net.cls.copying = some (u.now + 543)))
     ∧ (∀ k, s.net.cls.waiting = some k → s.oldLive = false →
         let e := s.net.cls.drained + 1
         let t := (s.advanceTo e).commitTakes (max e s.net.cls.effect)
         exec .epochDrainCommit s = .next (t.settleTicket k cOk (le 8 (baton (max e s.net.cls.effect) 8) ++ le 1 t.net.cls.cur ++ zeros 3)))
     ∧ ∀ e, s.net.cls.copying = some e → exec .classifierCopyEnd s = .next ((s.advanceTo e).modCls fun c => { c with copying := none }))
  ∧ (∀ (r : Req) (o : Outstanding) (s u : State),
       let m := byteAt o.payload 0
       let k := u.mac m
       (Runs 0x4000 r o s u → o.fits 4 [(1, 3)] → m ≤ 1 → u.inSession 0 = true →
         exec (.netGetPort r) s = .next (u.respond o cOk (le 1 m
           ++ le 1 (b2n (u.macOn m) + 2 * b2n k.up + 4 * b2n k.paused.isSome + 8 * b2n k.training.isSome) ++ le 1 k.speed
           ++ le 1 (b2n (pbFixed (u.macBlock m))) ++ le 1 k.depth ++ le 1 (pbMalf (u.macBlock m)) ++ le 2 k.window ++ le 4 k.rxOk ++ le 4 k.rxErrReg
           ++ le 4 k.dropReg ++ le 4 k.txOk ++ le 4 k.txErrReg ++ le 4 u.net.spTail ++ le 4 u.net.spHead ++ zeros 4)))
       ∧ (Runs 0x4001 r o s u → o.fits 4 [] → m ≤ 1 →
           let depth := byteAt o.payload 1
           let window := u16 o.payload 2
           (1 ≤ depth → depth ≤ 16 → 64 ≤ window → window ≤ 256 → window % 8 = 0 →
             (u.macOn m = false → exec (.netSetLimits r) s = .next (u.refuse o 1))
             ∧ (u.macOn m = true → pbFixed (u.macBlock m) = true → exec (.netSetLimits r) s = .next (u.refuse o 2))
             ∧ (u.macOn m = true → pbFixed (u.macBlock m) = false → u.inSession 0 = true → u.unopposed [objTable (65536 + m)] →
                 exec (.netSetLimits r) s = .next
                   (((u.takesEffect o.port o.opcode [objTable (65536 + m)]).modMac m fun q =>
                     { q with depthWas := q.depth, windowWas := q.window, limitsAt := u.now + 31, depth := depth, window := window }).respond o cOk
                     (le 8 (baton (u.now + 31) (8 + m))))))))

/-- NET.GET_COUNTERS reads a direction's misses, drops and rule counters, and with FLAGS 1 clears those it reads; NET.SET_MIRROR sets the mode and
empties the sink; a mirror copy that ends lies in its slot with its header; NET_MR_HEAD moves only between HEAD and TAIL.
NET.INJECT with room puts a frame of 60 to 2044 bytes and its FCS into SITE's or PLANT's transmit order, or, classified, into the buffer of the
port it claims; it answers the Baton of the edge.
The model's choices that it rests on: log entry 7. -/
def Obligations.CountersMirrorInjection : Prop :=
  (∀ (r : Req) (o : Outstanding) (s u : State),
     let d := byteAt o.payload 0
     let first := u16 o.payload 2
     let n := u16 o.payload 4
     let base := clTcamBase u.clsBody d + first
     let one (i : Nat) : Bytes :=
       le 4 (tget ({} : RuleCount) u.net.cls.counts (base + i)).frames ++ le 8 (tget ({} : RuleCount) u.net.cls.counts (base + i)).bytes
         ++ le 4 (tget ({} : RuleCount) u.net.cls.counts (base + i)).refused
     let payload := le 1 d ++ zeros 1 ++ le 2 first ++ le 2 n ++ zeros 2 ++ le 4 (u.mac d).misses ++ le 4 (u.mac d).clsReg
       ++ (List.range n).flatMap one
     (Runs 0x4013 r o s u → o.fits 8 [(6, 2)] → d ≤ 1 → 0 < n → n ≤ 240 → first + n ≤ clTcam u.clsBody d → u.inSession 0 = true →
       (byteAt o.payload 1 = 0 → exec (.netGetCounters r) s = .next (u.respond o cOk payload))
       ∧ (byteAt o.payload 1 = 1 → o.port.rank ≠ 5 →
           exec (.netGetCounters r) s = .next ((u.modCls fun c =>
             { c with counts := c.counts.filter fun x => !(decide (base ≤ x.1) && decide (x.1 < base + n)) }).respond o cOk payload))
       ∧ (byteAt o.payload 1 = 1 → o.port.rank = 5 → exec (.netGetCounters r) s = .next (u.respond o cRank [])))
     ∧ (Runs 0x4014 r o s u → o.fits 4 [(1, 3)] → d ≤ 2 → u.inSession 0 = true → u.net.mrJobs = [] → u.unopposed [objTable 163841] →
         (d ≠ 0 → u.featureOff 7 = true → exec (.netSetMirror r) s = .next (u.refuse o 0x00FE))
         ∧ ((d ≠ 0 → u.featureOff 7 = false ∧ byteAt (u.sect 4 0) 3 ≠ 0) → u.net.mrOff ≤ 65535 →
             exec (.netSetMirror r) s = .next (((u.takesEffect o.port o.opcode [objTable 163841]).modNet fun q =>
               { q with mrMode := d, mrHead := q.mrTail }).respond o cOk (le 8 (baton (u.now + 31) 8) ++ le 4 u.net.mrTail))))
     ∧ (∀ j rest, s.net.mrJobs = j :: rest →
         let cap := min j.bytes.length 128
         let v := s.advanceTo (j.dispatch + ceilDiv cap 16 + 1)
         exec .mirrorCopy s = .next ((v.poolWrite ((s.partition 3).1 + 256 * (s.net.mrTail % ((s.partition 3).2 / 256)))
           (sized 256 (le 1 j.dir ++ zeros 1 ++ le 2 j.bytes.length ++ le 2 cap ++ zeros 2 ++ le 8 (baton j.recv (8 + j.dir)) ++ le 4 j.rule
             ++ le 4 s.net.mrTail ++ zeros 8 ++ j.bytes.take cap))).modNet fun q =>
             { q with mrJobs := rest, mrTail := (s.net.mrTail + 1) % 2 ^ 32 }))
     ∧ ∀ (core : CoreId) (v : Word), s.inSession 0 = true → (core = .steward → s.cores.winRly = true) →
         (headInRange s.net.mrHead s.net.mrTail v.toNat = true →
           exec (.mrHeadWrite core v) s = .next (s.modNet fun q => { q with mrHead := v.toNat }))
         ∧ (headInRange s.net.mrHead s.net.mrTail v.toNat = false →
           exec (.mrHeadWrite core v) s = .next (s.event (coreSlot core) 0 0x0003 0 0x41060088 v.toNat)))
  ∧ (∀ (r : Req) (o : Outstanding) (s u : State),
       let m := byteAt o.payload 0
       let mode := byteAt o.payload 1
       let len := u16 o.payload 2
       let t := u.now + 31
       let bs := withFcs (o.payload.drop 8)
       Runs 0x4015 r o s u → m ≤ 1 → 60 ≤ len → len ≤ 2044 → o.fits (8 + len) [(4, 4)] → u.inSession 0 = true → u.powered dRelayNet = true →
       u.macOn m = true →
         (mode = 0 → u.roomFor (1 - m) = true → (u.mac m).up = true →
           exec (.netInject r) s = .next ((u.modNet fun n => { n with frames := n.frames ++
             [{ dir := 1 - m, bytes := bs, recv := t, cells := 16, stage := .forward, edge := t, txMac := m }] }).respond o cOk (le 8 (baton t (8 + m)))))
         ∧ (mode = 1 → u.roomFor m = true →
             exec (.netInject r) s = .next (((u.modMac m fun k => { k with rxOk := satInc 0xFFFFFFFF k.rxOk }).modNet fun n => { n with frames := n.frames ++
               [{ dir := m, bytes := bs, recv := t, cells := ceilDiv bs.length 128, stage := .parsing, injected := true,
                  parse := u.parseFrame m bs }] }).respond o cOk (le 8 (baton t (8 + m)))))
         ∧ (mode ≤ 1 → u.roomFor (if mode = 0 then 1 - m else m) = false → exec (.netInject r) s = .next (u.refuse o 0x17)))

/-! ## Chapters 13 and 14: the Lane engines and the Pacer -/

/-- The Lane master: a push that passes its checks is queued; an entry starts on its start edge, or completes CONT_BROKEN where a held select or a
broken chain bars it; it completes with its bytes in the pool and a record; CANCEL empties the queue; the hold timer breaks a chain; LANE_DONE
removes the oldest record; a COPY takes the idle engine 0; at the claim timeout the drain ends.
The Lane target: a WRITE with room for its frame and its record fills the lower-numbered free RX slot, and any other frame is discarded and
counted; READ drives the staged frame and, clocked whole, leaves a record; STATUS reports and clears the discards; the core frees slots and
stages one frame of 1 to 4096 bytes.
The model's choices that it rests on: log entry 24. -/
def Obligations.Lanes : Prop :=
  (∀ (e : Nat) (s : State), e < 2 →
     let l := s.lane e
     (∀ (core : CoreId) (v : Word), s.reachesRelay core → s.laneRole e = 1 → s.domainOn (dLane e) = true → s.powered (dLane e) = true →
       s.draining (dLane e) = false →
       (16 ≤ l.queue.length → exec (.lanePush core e v) s = .next (s.pushOutcome e 1 2 0))
       ∧ (l.queue.length < 16 →
           (∀ off, entryFault (sized 32 l.staged) (fun k => s.mapped (laneCode e (1 + k))) (s.laneWidth e) (0x8000 * (s.laneArea e).2) = some off →
             exec (.lanePush core e v) s = .next (s.pushOutcome e 2 0 off))
           ∧ (entryFault (sized 32 l.staged) (fun k => s.mapped (laneCode e (1 + k))) (s.laneWidth e) (0x8000 * (s.laneArea e).2) = none →
             exec (.lanePush core e v) s = .next ((s.pushOutcome e 0 0 0).modLane e fun x => { x with queue := x.queue ++ [sized 32 l.staged] }))))
     ∧ (∀ b rest, l.queue = b :: rest → l.running = none → l.records.length < 32 → l.copy = false → l.copyWaits = false →
         s.domainOn (dLane e) = true →
         (l.held = none → l.broken = false →
           let u := s.advanceTo (l.highSince + 2 * max 1 l.csi * entDiv b)
           exec (.laneEntryStart e) s
             = .next ((u.modLane e fun l => { l with queue := rest }).modLane e fun l => { l with running := some (b, u.now) }))
         ∧ (∀ h, l.held = some h → s.now < h.deadline →
             (h.sel ≠ entSel b ∨ h.mode ≠ entMode b →
               exec (.laneEntryStart e) s = .next ((s.modLane e fun l => { l with queue := rest }).breakEntry e b false))
             ∧ (h.sel = entSel b → h.mode = entMode b →
               exec (.laneEntryStart e) s
                 = .next ((s.modLane e fun l => { l with queue := rest }).modLane e fun l => { l with held := none, running := some (b, s.now) })))
         ∧ (∀ h, l.held = some h → h.deadline ≤ s.now →
             exec (.laneEntryStart e) s
               = .next (((s.contTimeout e).modLane e fun l => { l with queue := rest }).breakEntry e b true)))
     ∧ (∀ b start (input : Bytes), l.running = some (b, start) → s.draining (dLane e) = false → entLen b [1, 2] ≠ 0 →
         let u := s.advanceTo (max s.now (laneCompletion l b start))
         exec (.laneEntryComplete e input) s = .next
           ((((u.poolWrite ((s.laneArea e).1 + entIn b) (inBytes (bit (byteAt b 1) 2) (entList b) input)).modLane e fun l =>
             { l with running := none, highSince := u.now }).modLane e fun x =>
               { x with held := if entCont b then some { sel := entSel b, mode := entMode b, deadline := u.now + 2 ^ l.contTo } else none }).endEntry
             e b 0 (entPhases b - 1) u.now false))
     ∧ (∀ (core : CoreId), s.reachesRelay core → l.running = none → l.held = none →
         let u := s.flushQueue e 2 s.now
         exec (.laneCancel core e 1) s = .next (u.modLane e fun x =>
           { x with held := none, broken := false, highSince := if (u.lane e).held.isSome then u.now else x.highSince }))
     ∧ (∀ h, l.running = none → l.held = some h →
         let u := s.advanceTo h.deadline
         exec (.laneContTimeout e) s
           = .next ((u.modLane e fun l => { l with held := none, broken := true, highSince := u.now }).laneEvent e 0x0711))
     ∧ (∀ (core : CoreId), s.reachesRelay core →
         (l.records = [] → exec (.laneDoneRead core e) s = .next (s.readResult core 0x000F0000))
         ∧ (∀ w0 w1 rest, l.records = (w0, w1) :: rest →
             exec (.laneDoneRead core e) s = .next ((s.modLane e fun l =>
               { l with records := rest, doneHiKeeper := if core = .keeper then w1 else l.doneHiKeeper,
                        doneHiSteward := if core = .steward then w1 else l.doneHiSteward }).readResult core w0)))
     ∧ ((s.lane 0).copyWaits = true → (s.lane 0).running = none → (s.lane 0).held = none → s.domainOn (dLane 0) = true →
         exec .copyTakesEngine s = .next (s.modLane 0 fun l => { l with copyWaits := false, copy := true }))
     ∧ (s.draining (dLane e) = true → (s.domain (dLane e)).drop = none → l.running = none → l.tx = none → l.copy = false →
         let u := s.advanceTo (s.domain (dLane e)).timer
         exec (.laneClaimTimeout e) s
           = .next ((u.modLane e fun l => { l with held := none, copy := false, closedAt := some u.now }).drainEnds (dLane e) u.now true)))
  ∧ (∀ (e : Nat) (s : State), e < 2 →
       let l := s.lane e
       (s.targetAlive e = true →
         (∀ (tx : Byte) (data : Bytes) (extra : Nat), tx ≠ 0x02 → tx ≠ 0x32 → exec (.laneTargetWrite e tx data extra) s = .next (s.laneOther e))
         ∧ (∀ (data : Bytes) (extra : Nat),
             let u := s.modLane e fun l => { l with drove := [] }
             (extra % 8 ≠ 0 ∨ data = [] ∨ 4096 < data.length ∨ (l.crcEn = true ∧ crcPasses data = false) →
               exec (.laneTargetWrite e 0x32 data extra) s = .next (u.laneDiscard e true))
             ∧ (extra % 8 = 0 → data ≠ [] → data.length ≤ 4096 → (l.crcEn = true → crcPasses data = true) →
                 (l.freeRx = none ∨ 32 ≤ l.records.length ∨ s.targetOpen e = false →
                   exec (.laneTargetWrite e 0x32 data extra) s = .next (u.laneDiscard e false))
                 ∧ (∀ k, l.freeRx = some k → l.records.length < 32 → s.targetOpen e = true →
                   exec (.laneTargetWrite e 0x32 data extra) s
                     = .next (((u.poolWrite ((s.laneArea e).1 + 0x2000 + 0x1000 * k) data).modLane e fun l =>
                         { l with rx0 := l.rx0 || decide (k = 0), rx1 := l.rx1 || decide (k = 1) }).laneRecord e data.length 1 0 k))))
         ∧ (∀ clocked : Nat,
             (l.tx = none ∨ s.targetOpen e = false →
               exec (.laneTargetRead e clocked) s = .next (s.modLane e fun l => { l with drove := List.replicate clocked (BitVec.ofNat 8 l.notReady) }))
             ∧ (∀ n, l.tx = some n → s.targetOpen e = true →
                 let u := s.modLane e fun l => { l with
                   drove := ((0x5A#8 :: le 2 n ++ s.poolRead ((s.laneArea e).1 + 0x4000) n) ++ zeros clocked).take clocked }
                 (3 + n ≤ clocked → exec (.laneTargetRead e clocked) s
                   = .next ((u.modLane e fun l => { l with tx := none }).laneRecord e n 2 0 0))
                 ∧ (clocked < 3 + n → exec (.laneTargetRead e clocked) s = .next u)))
         ∧ (s.targetOpen e = true →
             let free := b2n (!l.rx0) + b2n (!l.rx1)
             let b0 := 1 + 2 * b2n (decide (0 < free) && decide (l.records.length < 32)) + 4 * b2n l.tx.isSome + 8 * b2n (decide (0 < l.discards))
             exec (.laneTargetStatus e) s
               = .next (s.modLane e fun x => { x with drove := le 1 b0 ++ le 1 free ++ zeros 1 ++ le 1 x.discards, discards := 0 })))
       ∧ (∀ (core : CoreId) (v : Word), s.reachesRelay core →
           (v.toNat < 32 → exec (.laneRxFree core e v) s = .next (s.modLane e fun l =>
             { l with rx0 := l.rx0 && !v.getLsbD 0, rx1 := l.rx1 && !v.getLsbD 1, txBusy := l.txBusy && !v.getLsbD 4 }))
           ∧ (1 ≤ v.toNat → v.toNat ≤ 4096 → l.tx = none →
               exec (.laneTxStage core e v) s = .next (s.modLane e fun l => { l with tx := some v.toNat }))
           ∧ (1 ≤ v.toNat → v.toNat ≤ 4096 → l.tx.isSome = true →
               exec (.laneTxStage core e v) s = .next (s.modLane e fun l => { l with txBusy := true }))
           ∧ (v.toNat = 0 → exec (.laneTxStage core e v) s = .next (s.event (coreSlot core) 0 0x0003 0 (laneAddr e 0x4C) 0))))

/-- The Pacer's buckets: a tick adds INC with its fraction up to CEIL; a debit is admitted while LEVEL is positive and stays at or above DEBT, and
LEVEL never falls below −2^31; PCR.SET_RATE, PCR.FORGIVE and PCR_GO set a bucket, PCR.GET_BUCKET reads it.
The heat: on its next heat edge a Bank with pending requests either skips, counting the reason in its order, or dispatches pulses of one row;
a request that is not admitted stays pending; PCR.SET_HEAT changes the interval from the Bank's effect edge on.
The model's choices that it rests on: log entries 32 and 33. -/
def Obligations.PacerAndHeat : Prop :=
  ((∀ (inc : Nat) (k : Bucket),
     let sum := k.frac + inc
     (k.ceil ≤ k.level + (sum / 65536 : Nat) → k.refill inc = { k with level := k.ceil, frac := 0 })
     ∧ (k.level + (sum / 65536 : Nat) < k.ceil → k.refill inc = { k with level := k.level + (sum / 65536 : Nat), frac := sum % 65536 }))
   ∧ (∀ (die n : Nat) (x : Bytes) (s : State), die < 5 → n < 512 → s.bucketRec die n = some x → s.dieRuns die = true →
       s.now < (s.bucket die n).ticked + 1 → (s.bucket die n).ticked < maxCycle →
       let k := s.bucket die n
       let u := s.advanceTo (nextTick (2 ^ bkTick x) k.ticked)
       exec (.bucketTick die n) s = .next (u.setBucket die n { k.refill (u.bucketInc die (bkUnit x) k.rate) with ticked := u.now }))
   ∧ (∀ (die n : Nat) (x : Bytes) (s : State), s.inSession die = true → s.dieAbsent die = false → die < 5 → n < 512 → s.bucketRec die n = some x →
       let k := s.bucket die n
       (∀ v : Word, v.toNat = n → 0 < signed 32 (s.pcrStage die 1) → signed 32 (s.pcrStage die 2) ≤ 0 →
         s.boundKept die (bkUnit x) (signed 32 (s.pcrStage die 1)) (signed 32 (s.pcrStage die 2)) = true →
         let k' := k.change (s.pcrStage die 0) (signed 32 (s.pcrStage die 1)) (signed 32 (s.pcrStage die 2)) s.now
         exec (.pcrGoRate .keeper die v) s = .next ((s.setBucket die n k').pacerLog die s.now 0x0903 n k.level k'.level))
       ∧ (∀ v : Word, v.toNat = n + 512 → k.debt ≤ signed 32 (s.pcrStage die 1) → signed 32 (s.pcrStage die 1) ≤ k.ceil →
         exec (.pcrGoForgive .keeper die v) s = .next ((s.setBucket die n (k.forgive (signed 32 (s.pcrStage die 1)) s.now)).pacerLog die s.now
           0x0904 n k.level (signed 32 (s.pcrStage die 1)))))
   ∧ ∀ (r : Req) (o : Outstanding) (s u : State) (x : Bytes),
       let die := byteAt o.payload 0
       let n := u16 o.payload 2
       let k := u.bucket die n
       let t := u.dieEdge die
       u.bucketRec die n = some x → u.inSession die = true → u.unopposed [objBucket die n] →
       (Runs 0xB000 r o s u → o.fits 4 [(1, 1)] →
         exec (.pcrGetBucket r) s = .next (u.respond o cOk (le 1 die ++ le 1 (bkUnit x) ++ le 1 (bkTick x) ++ zeros 1 ++ le 2 n ++ le 2 k.frac
           ++ le 4 (unsigned 32 k.level) ++ le 4 k.rate ++ le 4 (unsigned 32 k.ceil) ++ le 4 (unsigned 32 k.debt) ++ le 4 k.refused)))
       ∧ (Runs 0xB001 r o s u → o.fits 16 [(1, 1)] →
           let ceil := signed 32 (u32 o.payload 8)
           let debt := signed 32 (u32 o.payload 12)
           0 < ceil → debt ≤ 0 →
           (u.boundKept die (bkUnit x) ceil debt = false → exec (.pcrSetRate r) s = .next (u.refuse o 2))
           ∧ (u.boundKept die (bkUnit x) ceil debt = true →
               let k' := k.change (u32 o.payload 4) ceil debt t
               exec (.pcrSetRate r) s = .next (((((u.takesEffect o.port o.opcode [objBucket die n]).setBucket die n k').pacerLog die t 0x0903 n k.level
                 k'.level).respond o cOk (le 4 (unsigned 32 k'.level) ++ le 8 (baton t (dieSlot die)))))))
       ∧ (Runs 0xB002 r o s u → o.fits 8 [(1, 1)] →
           let level := signed 32 (u32 o.payload 4)
           (level < k.debt ∨ k.ceil < level → exec (.pcrForgive r) s = .next (u.refuse o 3))
           ∧ (k.debt ≤ level → level ≤ k.ceil →
               exec (.pcrForgive r) s = .next ((((u.takesEffect o.port o.opcode [objBucket die n]).setBucket die n (k.forgive level t)).pacerLog die t
                 0x0904 n k.level level).respond o cOk (le 4 (unsigned 32 k.level) ++ le 4 (unsigned 32 level))))))
  ∧ ((∀ (b : Nat) (s : State), b < 4 → s.bankDeclared b = true → s.dieRuns (1 + b) = true → s.powered (dBank b) = true →
       let u := (s.advanceTo ((s.bank b).nextHeat s.now)).modBank b fun k => { k with lastHeat := (s.advanceTo ((s.bank b).nextHeat s.now)).now }
       let pend := u.pendingReqs b u.now
       (pend = [] → exec (.heatEdge b) s = .next u)
       ∧ (pend ≠ [] → u.inSession (1 + b) = true → u.domainOn (dBank b) = true →
           exec (.heatEdge b) s = .next (u.heat b pend)
           ∧ (u.pulseRuns b u.now = true → u.heat b pend = u.skipHeat b 1)
           ∧ (u.pulseRuns b u.now = false → (u.bank b).halted = true → u.heat b pend = u.skipHeat b 2)
           ∧ (u.pulseRuns b u.now = false → (u.bank b).halted = false → u.restarting = true → u.heat b pend = u.skipHeat b 3)
           ∧ (u.pulseRuns b u.now = false → (u.bank b).halted = false → u.restarting = false → (u.bank b).lockdown = true →
               (∀ x ∈ pend, x.2.unlock = true) → u.heat b pend = u.skipHeat b 4)))
     ∧ (∀ (row avail t : Nat) (eb hb : List Bucket) (xs : List (Nat × Bytes)),
         let a := xs.foldl (admitOne row avail t eb hb) {}
         a.current ≤ row ∧ a.energy ≤ avail ∧ a.taken = (xs.take a.taken.length).map Prod.fst)
     ∧ ∀ (r : Req) (o : Outstanding) (s u : State), Runs 0xB003 r o s u → o.fits 4 [(1, 1)] →
         let b := byteAt o.payload 0
         let us := u16 o.payload 2
         b ≤ 3 → 250 ≤ us → us ≤ 10000 → u.bankDeclared b = true → u.inSession (1 + b) = true → u.unopposed [objBucket (1 + b) 512] →
         exec (.pcrSetHeat r) s = .next (((u.takesEffect o.port o.opcode [objBucket (1 + b) 512]).modBank b fun k =>
           { k with heatWas := k.heatUs, heatFrom := u.now + 33, heatUs := us }).respond o cOk (le 8 (nextTick (us * 600) (u.now + 33)))))

/-! ## Chapter 17: Bank dies and compartments -/

/-- CMP.OPEN on a reachable compartment that nothing bars completes DEFERRED with a ticket: a DUAL one waits for its credential, one with a delay
waits, any other is sent to its Bank; in the open window it confirms; the conditions that bar it refuse it with their details. A LOCKED compartment
becomes UNLOCK_PENDING with an unlock request.
The model's choices that it rests on: log entry 31. -/
def Obligations.CompartmentOpen : Prop :=
  (∀ (r : Req) (o : Outstanding) (s u : State), Runs 0x2000 r o s u → o.fits 4 [(2, 2)] →
    let n := u16 o.payload 0
    let c := u.comp n
    let w := u.takesEffect o.port o.opcode [objComp n]
    let v := (w.newTicket o).2
    n ≤ 1023 → u.reachable n → u.unopposed (objComp n :: o.lockObjs) →
      (c.stage = none →
        (u.redFlag = true → o.port ≠ .kpr → exec (.cmpOpen r) s = .next (u.refuse o 0x40))
        ∧ ((u.redFlag = true → o.port = .kpr) →
            (c.disabled = true → exec (.cmpOpen r) s = .next (u.refuse o 3))
            ∧ (c.disabled = false → c.frozen = true → exec (.cmpOpen r) s = .next (u.refuse o 6))
            ∧ (c.disabled = false → c.frozen = false → u.now < c.holdUntil → exec (.cmpOpen r) s = .next (u.refuse o 7))
            ∧ (c.disabled = false → c.frozen = false → c.holdUntil ≤ u.now → u.now < c.lockUntil → exec (.cmpOpen r) s = .next (u.refuse o 8))
            ∧ (c.disabled = false → c.frozen = false → c.holdUntil ≤ u.now → c.lockUntil ≤ u.now → u.groupBlocks n = true →
                exec (.cmpOpen r) s = .next (u.refuse o 9))
            ∧ (c.disabled = false → c.frozen = false → c.holdUntil ≤ u.now → c.lockUntil ≤ u.now → u.groupBlocks n = false →
                (u.bank (n / 256)).halted = false →
                (u.compDual n = true → exec (.cmpOpen r) s = .next ((v.respond o cDeferred (le 4 u.paths.nextTicket ++ le 1 1 ++ zeros 3)).modComp n
                  fun x => { x with stage := some { kind := 1, ticket := u.paths.nextTicket, port := o.port, session := o.session, cause := o.baton,
                                                    due := u.now + c.dualS * 600000000, delayS := c.delayS, windowS := c.windowS } }))
                ∧ (u.compDual n = false → c.delayS ≠ 0 →
                    exec (.cmpOpen r) s = .next ((v.respond o cDeferred (le 4 u.paths.nextTicket ++ le 1 2 ++ zeros 3)).modComp n
                      fun x => { x with stage := some { kind := 2, ticket := u.paths.nextTicket, port := o.port, session := o.session,
                                                        cause := o.baton, due := u.now + c.delayS * 600000000, delayS := c.delayS,
                                                        windowS := c.windowS } }))
                ∧ (u.compDual n = false → c.delayS = 0 →
                    exec (.cmpOpen r) s = .next (((v.respond o cDeferred (le 4 u.paths.nextTicket ++ le 1 0 ++ zeros 3)).modComp n
                      fun x => { x with stage := none }).actuate n u.paths.nextTicket o.baton)))))
      ∧ (∀ g, c.stage = some g → g.kind = 3 → u.now < g.due → u.redFlag = false → c.disabled = false → c.frozen = false → c.holdUntil ≤ u.now →
          c.lockUntil ≤ u.now → u.groupBlocks n = false → (u.bank (n / 256)).halted = false →
          exec (.cmpOpen r) s = .next (w.confirmOpen o n)))
  ∧ ∀ (n ticket t cause : Nat) (s : State), (s.comp n).code = 0 → (s.comp n).req = none →
      let v := s.applyOpen n (some ticket) t cause
      (v.comp n).state = stUnlockPending ∧ (v.comp n).req = some { unlock := true, cause := cause, applied := t }
        ∧ (v.comp n).openTicket = some ticket ∧ ∀ m, m ≠ n → v.comp m = s.comp m

/-- CMP.RELOCK, HOLD, FREEZE, UNFREEZE, CREDENTIAL, DISABLE and ENABLE on one compartment that commands reach.
CMP.GET_STATE and GET_BANK read; CMP.SET_TIMELOCK sets lock, delay, window and credential time unless a higher rank's lock stands longer;
CMP.SET_GROUP gives a group its members while none is active.
The model's choices that it rests on: log entry 31. -/
def Obligations.CompartmentCommands : Prop :=
  (∀ (r : Req) (o : Outstanding) (s u : State),
     let n := u16 o.payload 0
     let m := u16 o.payload 2
     let w := u.takesEffect o.port o.opcode [objComp n]
     let x := u.takesEffect o.port o.opcode [objComp m]
     let one := byteAt o.payload 0 = 0 ∧ m ≤ 1023
     let open_ := u.redFlag = true → o.port = .kpr
     (Runs 0x2001 r o s u → o.fits 4 [(2, 2)] → n ≤ 1023 → u.reachable n → u.unopposed [objComp n] → (u.comp n).disabled = false →
       (u.bank (n / 256)).halted = false →
       exec (.cmpRelock r) s = .next (((w.newTicket o).2.respond o cDeferred (le 4 u.paths.nextTicket)).applyRelock n (some u.paths.nextTicket)
         (u.now + 33) o.baton))
     ∧ (Runs 0x2002 r o s u → o.fits 8 [(1, 1)] → one → 1 ≤ u32 o.payload 4 → u32 o.payload 4 ≤ 86400 → u.reachable m →
         u.unopposed [objComp m] →
         exec (.cmpHold r) s = .next ((((x.modComp m fun c => { c with holdUntil := max c.holdUntil (u.now + u32 o.payload 4 * 600000000) }).endStage m
           cState (refusedResult 0x17)).cancelUnlock m (u.now + 33) o.baton cState (refusedResult 0x17)).respond o cOk []))
     ∧ (Runs 0x2003 r o s u → o.fits 4 [(1, 1)] → one → u.reachable m → u.unopposed [objComp m] →
         exec (.cmpFreeze r) s = .next (((((x.endStage m cState (refusedResult 0x17)).cancelUnlock m (u.now + 33) o.baton cState
           (refusedResult 0x17)).relockIfOpenable m (u.now + 33) o.baton).setFreeze m (u.now + 33) o.baton true).respond o cOk []))
     ∧ (Runs 0x2004 r o s u → o.fits 4 [(1, 1)] → one → u.reachable m → u.unopposed (objComp m :: o.lockObjs) →
         (open_ → exec (.cmpUnfreeze r) s = .next ((x.setFreeze m (u.now + 33) o.baton false).respond o cOk []))
         ∧ (u.redFlag = true → o.port ≠ .kpr → exec (.cmpUnfreeze r) s = .next (u.refuse o 0x40)))
     ∧ (∀ g, Runs 0x2005 r o s u → o.fits 4 [(2, 2)] → n ≤ 1023 → u.compPresent n = true → u.bankDeclared 0 = true →
         u.unopposed (objComp n :: o.lockObjs) → open_ → (u.comp n).stage = some g → g.kind = 1 → u.now < g.due →
         (g.port ≠ o.port → exec (.cmpCredential r) s = .next ((w.afterDual n u.now g).respond o cOk []))
         ∧ (g.port = o.port → g.session = o.session → exec (.cmpCredential r) s = .next (u.refuse o 0x11)))
     ∧ (Runs 0x2009 r o s u → o.fits 4 [(2, 2)] → n ≤ 1023 → u.reachable n → u.unopposed [objComp n] →
         exec (.cmpDisable r) s = .next ((((((w.modComp n fun c => { c.cancelReq with disabled := true }).setComp n stDisabled 0 (u.now + 33)
           o.baton).openRefused n 0x17).relockRefused n 0x17).bankClaim (n / 256)).respond o cOk []))
     ∧ (Runs 0x200A r o s u → o.fits 4 [(2, 2)] → n ≤ 1023 → u.reachable n → u.unopposed (objComp n :: o.lockObjs) → open_ →
         let v := w.modComp n fun c => { c with disabled := false }
         ((v.comp n).state = stFault ∨ (v.comp n).state = stDisabled →
           exec (.cmpEnable r) s = .next ((v.deriveComp n (u.now + 33) o.baton).respond o cOk []))
         ∧ ((v.comp n).state ≠ stFault → (v.comp n).state ≠ stDisabled → exec (.cmpEnable r) s = .next (v.respond o cOk [])))
     ∧ (∀ (op : Nat), op ∈ [0x2001, 0x2009] → Runs op r o s u → o.fits 4 [(2, 2)] → n ≤ 1023 → u.bankDeclared 0 = false →
         (op = 0x2001 → exec (.cmpRelock r) s = .next (u.refuse o 1)) ∧ (op = 0x2009 → exec (.cmpDisable r) s = .next (u.refuse o 1))))
  ∧ (∀ (r : Req) (o : Outstanding) (s u : State),
       let n := u16 o.payload 0
       let m := u16 o.payload 2
       let b := byteAt o.payload 0
       let k := u.bank b
       let until_ := if u32 o.payload 4 = 0 then 0 else u.now + u32 o.payload 4 * 600000000
       let ns := (List.range (byteAt o.payload 1)).map fun i => u16 o.payload (4 + 2 * i)
       (Runs 0x2006 r o s u → o.fits 4 [] → n ≤ 1023 → 0 < m → m ≤ 256 → (n + m - 1) / 256 = n / 256 → u.bankReachable (n / 256) = true →
         exec (.cmpGetState r) s = .next (u.respond o cOk ((List.range m).flatMap fun i => u.compRecord (n + i))))
       ∧ (Runs 0x2007 r o s u → o.fits 4 [(1, 3)] → b < 4 → u.bankDeclared b = true → u.bankReachable b = true →
           exec (.cmpGetBank r) s = .next (u.respond o cOk (slice (u.bankBody b) 0 2 ++ le 2 k.heatUs ++ le 1 (u.scanPeriod b / 600000)
             ++ le 1 (b2n k.halted + 2 * b2n k.synced + 4 * b2n k.lockdown) ++ le 2 (u.present b).length ++ le 4 (u.pcrHeat b) ++ zeros 4
             ++ u.sect 0x08 b)))
       ∧ (Runs 0x2008 r o s u → o.fits 12 [(2, 2)] → (∀ x ∈ timelockFields o.payload, x.1 = false) → u.compPresent n = true → u.bankDeclared 0 = true →
           (u.now < (u.comp n).lockUntil → until_ < (u.comp n).lockUntil → (u.comp n).lockRank < o.port.rank → u.unopposed [objComp n] →
             exec (.cmpSetTimelock r) s = .next (u.respond o cRank []))
           ∧ (¬(u.now < (u.comp n).lockUntil ∧ until_ < (u.comp n).lockUntil ∧ (u.comp n).lockRank < o.port.rank) → u.unopposed [objComp n] →
               exec (.cmpSetTimelock r) s = .next (((u.takesEffect o.port o.opcode [objComp n]).modComp n fun c =>
                 { c with lockUntil := until_, lockRank := if until_ = 0 then 0 else o.port.rank, delayS := u16 o.payload 8,
                          windowS := byteAt o.payload 10, dualS := byteAt o.payload 11 }).respond o cOk [])))
       ∧ (Runs 0x200B r o s u → b ≤ 31 → byteAt o.payload 1 ≤ 32 → o.fits (4 + 2 * byteAt o.payload 1) [(2, 2)] → (∀ x ∈ memberFields o.payload, x.1 = false) →
           (∀ i ∈ ns, u.compPresent i = true) → u.bankDeclared 0 = true →
           ((u.groupMembers b).any (fun i => (u.comp i).active) = true → u.unopposed [objGroup b] → exec (.cmpSetGroup r) s = .next (u.refuse o 9))
           ∧ ((u.groupMembers b).any (fun i => (u.comp i).active) = false → ns.Nodup → (∀ i ∈ ns, (u.comp i).group = none) → u.unopposed [objGroup b] →
               let w := u.takesEffect o.port o.opcode [objGroup b]
               let move (v : Option Nat) (s : State) (n : Nat) : State := s.modComp n fun c =>
                 { c with group := v, groupEdge := s.now, groupWas := if c.groupEdge = s.now then c.groupWas else c.group }
               exec (.cmpSetGroup r) s = .next ((ns.foldl (move (some b)) ((w.groupMembers b).foldl (move none) w)).respond o cOk []))))

/-- The Banks' own events: the end of a pulse releases its latch or starts its verify timer; an overcurrent cuts the row's pulses; a stuck gate halts
the Bank; a row's scan samples its compartments; each timer of a compartment acts on its terminal edge; a stage of an OPEN ends on its edge; the
claim timer cuts what runs.
The model's choices that it rests on: log entries 31 and 32. -/
def Obligations.CompartmentEvents : Prop :=
  ∀ (b i n : Nat) (s : State), b < 4 → i < 16 → n < 1024 →
    let c := s.comp n
    (∀ q, s.pulseOn b i = some (n, q) → exec (.pulseEnd b i) s = .next (((s.advanceTo q.ends).pulseEnds n q).bankClaim b))
    ∧ (let heat := (s.requests b).filter fun x => x.2.start.isSome ∧ compRow x.1 = i
        let u := (s.modBank b fun k => { k with overcurrents := satInc 255 k.overcurrents }).bankLog b s.now 1024 0x0906 i
        heat ≠ [] →
          exec (.overcurrent b i) s = .next (((heat.filter fun x => x.2.runs s.now).foldl (fun s x => s.cutPulse x.1 2 0x14) u).bankClaim b))
    ∧ (s.bankDeclared b = true → i < byteAt (s.bankBody b) 0 → s.dieRuns (1 + b) = true → s.powered (dBank b) = true →
        ((s.bank b).halted = false → s.requests b = [] → ∃ t, exec (.stuckOnGate b i) s = .next t ∧ (t.bank b).halted = true
          ∧ (t.bank b).stuckRow = i ∧ t.comps = s.comps)
        ∧ (∀ returns : BitVec 32, i ≠ 0 → i ≠ (s.bank b).seen →
            let u := s.advanceTo (sampleEdge (s.scanPeriod b) i s.now (s.bank b).lastSample)
            let v := u.modBank b fun k => { k with seen := 0, lastSample := u.now }
            exec (.senseScanRow b i returns) s
              = .next (((v.present b).filter fun m => compRow m = i).foldl (fun s m => s.senseComp m returns) v)))
    ∧ (∀ (bolt : Bool) (t : Nat), c.timerOf bolt = some t → exec (.debounceExpiry n bolt) s = .next ((s.advanceTo t).debounceEnds n bolt))
    ∧ (∀ t, c.relock = some t → exec (.relockTimerExpiry n) s = .next ((s.advanceTo t).relockExpires n))
    ∧ (∀ t, c.ajar = some t → exec (.ajarTimerExpiry n) s = .next ((s.advanceTo t).ajarExpires n))
    ∧ (∀ t, c.verify = some t → exec (.verifyTimerExpiry n) s = .next ((s.advanceTo t).verifyExpires n))
    ∧ (∀ g, c.stage = some g →
        let u := s.advanceTo g.due
        let ended := u.modComp n fun x => { x with stage := none }
        (g.kind = 1 → exec (.dualWindowExpiry n) s = .next (ended.settleTicket g.ticket cState (refusedResult 0x0E)))
        ∧ (g.kind = 2 → exec (.delayExpiry n) s = .next (u.modComp n fun x =>
            { x with stage := some { g with kind := 3, due := g.due + g.windowS * 600000000 } }))
        ∧ (g.kind = 3 → exec (.openWindowExpiry n) s = .next (ended.settleTicket g.ticket cState (refusedResult 0x0D))))
    ∧ (c.lockUntil ≠ 0 → exec (.timelockEnd n) s = .next ((s.advanceTo c.lockUntil).modComp n fun x => { x with lockUntil := 0, lockRank := 0 }))
    ∧ (c.holdUntil ≠ 0 → exec (.holdEnd n) s = .next ((s.advanceTo c.holdUntil).modComp n fun x => { x with holdUntil := 0 }))
    ∧ ((s.domain (dBank b)).condition = .drain → (s.domain (dBank b)).drop = none →
        let u := s.advanceTo (s.domain (dBank b)).timer
        let v := ((u.requests b).filter fun x => x.2.start.isSome).foldl (fun s x => s.cutPulse x.1 6 2) u
        exec (.bankClaimTimeout b) s = .next (v.drainEnds (dBank b) v.now true))

/-! ## Chapter 19: power -/

/-- PWR.SET_STATE with no domain outside its target on takes effect at once, and for VAULT seals the open batch and is due 2^20 cycles later; else it
is refused 0x0010 and nothing changes. WAKEn low moves WATCH to DIM. PWR.SET_GOVERNOR sets a scope's settings from its apply edge on; PWR.GET_STATE
and PWR.GET_MONITORS read; a reading is taken, and a limit crossed is logged.
The model's choices that it rests on: log entries 48 and 49. -/
def Obligations.PowerStates : Prop :=
  ∀ (r : Req) (o : Outstanding) (s u : State),
    let target := powerState (byteAt o.payload 0)
    let w := u.fusePower.takesEffect o.port o.opcode [objPower]
    let die := byteAt o.payload 0
    (Runs 0x1001 r o s u → o.fits 4 [(1, 3)] → byteAt o.payload 0 ≤ 3 → u.flc.closed = true → u.pwr.vaultDue = none →
      (target ≠ u.pwr.state → u.outsideOn target = true → u.unopposed [objPower] → exec (.pwrSetState r) s = .next (u.refuse o 0x10))
      ∧ (target ≠ u.pwr.state → u.outsideOn target = false → u.unopposed [objPower] →
          (target = .vault →
            let v := w.sealBatch.modPwr fun p => { p with vaultDue := some (w.sealBatch.now + 2 ^ 20) }
            exec (.pwrSetState r) s = .next (v.respond o cOk (le 8 (baton o.edge 2))))
          ∧ (target ≠ .vault →
            exec (.pwrSetState r) s = .next ((w.enterPower target 0).respond o cOk (le 8 (baton o.edge 2)))))
      ∧ (target = u.pwr.state → u.unopposed [objPower] →
          exec (.pwrSetState r) s = .next (w.respond o cOk (le 8 (baton o.edge 2)))))
    ∧ (∀ (st : PowerState) (cause : Nat) (x : State), (x.enterPower st cause).pwr.state = st ∧ (x.enterPower st cause).pwr.lastChange = x.now)
    ∧ (s.boot.started = true → s.unopposed [objPower] →
        let v := (s.modPwr fun p => { p with wake := true }).event 15 1 0x0501
        (s.pwr.state = .watch → exec .wakenLow s = .next ((v.takesEffect .pnl 0 [objPower]).enterPower .dim 1))
        ∧ (s.pwr.state = .run ∨ s.pwr.state = .dim → exec .wakenLow s = .next v))
    ∧ (Runs 0x1005 r o s u → o.fits 8 [(1, 1), (6, 2)] → byteAt o.payload 2 ≤ 150 → byteAt o.payload 3 ≤ 150 →
        byteAt o.payload 2 < byteAt o.payload 3 → u16 o.payload 4 ≤ 32000 →
        (die = 0 → u16 o.payload 4 = 0 → exec (.pwrSetGovernor r) s = .next ((u.modPwr fun p =>
          { p with keeperGov := { knee := byteAt o.payload 2, stop := byteAt o.payload 3, floor := 0, since := u.now,
                                  was := (p.keeperGov.knee, p.keeperGov.stop, 0) } }).respond o cOk (le 8 (baton u.now 2))))
        ∧ (1 ≤ die → die ≤ 4 → u.bankDeclared (die - 1) = true → u.inSession die = true →
            let g : Governor := { knee := byteAt o.payload 2, stop := byteAt o.payload 3, floor := u16 o.payload 4, since := u.now + 33,
                                  was := u.bankGovernor (die - 1) }
            exec (.pwrSetGovernor r) s = .next ((u.modPwr fun p => { p with bankGov := tins p.bankGov (die - 1) g }).respond o cOk (le 8 (baton (u.now + 33) (9 + die))))))
    ∧ (Runs 0x1000 r o s u → o.fits 0 [] →
        exec (.pwrGetState r) s = .next (u.respond o cOk (le 1 u.pwr.state.code
          ++ le 1 (b2n u.pwr.vaultDue.isSome + 2 * b2n u.pwr.wake + 4 * b2n (decide (0 < u.drains))) ++ le 2 u.claimUs
          ++ le 8 (baton u.pwr.lastChange 2) ++ zeros 4)))
    ∧ (Runs 0x1004 r o s u → o.fits 4 [(1, 3)] → die = 0 → (tget ({} : Reading) u.pwr.readings 0).presented = false →
        exec (.pwrGetMonitors r) s = .next (u.respond o cOk (le 1 0 ++ zeros 1
          ++ ((List.range 8).flatMap fun c => if c < 5 then le 2 (u.lastReading 0 c) else zeros 2) ++ zeros 2 ++ le 4 0 ++ le 8 0)))
    ∧ ∀ (d c v : Nat) (x : State), d < 6 → c < channels d → x.monitorRuns d = true →
        ∃ t, exec (.monitorReading d c v) x = .next t
          ∧ (tget ({} : Reading) t.pwr.readings (16 * d + c)).value = v % 65536
          ∧ (tget ({} : Reading) t.pwr.readings (16 * d + c)).edge = x.now
          ∧ (x.overLimit d c (v % 65536) (tget ({} : Reading) x.pwr.readings (16 * d + c)).high (tget ({} : Reading) x.pwr.readings (16 * d + c)).low
                = ((tget ({} : Reading) x.pwr.readings (16 * d + c)).high, (tget ({} : Reading) x.pwr.readings (16 * d + c)).low) → t.log = x.log)

/-- PWR.SET_DOMAIN: ON switches to the ready edge under a ticket; OFF or GATE acts at once where no claim is held, and else drains until its claim is
released or its timer ends; at the ready edge the domain is ON, at the drop its contents are lost and its notice goes out.
The model's choices that it rests on: log entry 48. -/
def Obligations.PowerDomains : Prop :=
  (∀ (r : Req) (o : Outstanding) (s u : State), Runs 0x1002 r o s u → o.fits 4 [(2, 2)] →
    let n := byteAt o.payload 0
    let op := byteAt o.payload 1
    let d := u.domain n
    let w := u.takesEffect o.port o.opcode [objDomain n]
    1 ≤ n → n ≤ 16 → op ≤ 2 → u.flc.closed = true → u.pwr.vaultDue = none → u.domainPresent n = true → d.condition ≠ .drain →
    u.unopposed [objDomain n] → (∀ l, domainLink n = some l → u.inSession l = true ∧ u.domainOn (dFilong l) = true) →
      (targetMet op d.condition = true → (op = 1 → u.pwr.state.allows n = true) →
        (op ≠ 1 → u.platRuns n = false ∧ (n = 10 → u.wdn.runners = [])) → exec (.pwrSetDomain r) s = .next (w.respond o cOk []))
      ∧ (op = 1 → u.pwr.state.allows n = false → exec (.pwrSetDomain r) s = .next (u.refuse o 2))
      ∧ (op = 1 → u.pwr.state.allows n = true → d.condition = .off ∨ d.condition = .gated →
          exec (.pwrSetDomain r) s = .next (((w.newTicket o).2.respond o cPending (le 4 u.paths.nextTicket)).setDomain n
            { condition := .switching, ready := max (u.domainEdge n) (d.drop.getD 0) + readyTime n (d.condition = .gated),
              ticket := some u.paths.nextTicket }))
      ∧ (op ≠ 1 → u.platRuns n = true → exec (.pwrSetDomain r) s = .next (u.refuse o 4))
      ∧ (op ≠ 1 → u.platRuns n = false → (n = 10 → u.wdn.runners = []) → d.condition = .on → d.ticket = none → d.joined = [] →
          (w.claimHeld n = true → exec (.pwrSetDomain r) s = .next ((((w.newTicket o).2.respond o cDeferred (le 4 u.paths.nextTicket)).setDomain n
            { condition := .drain, toGate := op = 2, timer := u.domainEdge n + w.claimUs * 600, ticket := some u.paths.nextTicket }).drainBegins n
              u.paths.nextTicket))
          ∧ (w.claimHeld n = false →
              let e := u.domainEdge n + drainZ n
              exec (.pwrSetDomain r) s = .next ((((w.setDomain n { condition := if op = 2 then .gated else .off, drop := some e }).domainLoses n).logSwitch n
                (if op = 2 then 2 else 0) e).respond o cOk (le 8 (baton e (domainSlot n).1))))))
  ∧ (∀ (n : Nat) (s : State), n < 22 →
      let d := s.domain n
      (d.condition = .switching → n < 17 → exec (.domainReady n) s = .next ((s.advanceTo d.ready).becomesOn n))
      ∧ (d.condition = .switching → 17 ≤ n → s.inSession (n - 17) = true → exec (.domainReady n) s = .next (s.becomesOn n))
      ∧ (d.condition = .drain → d.drop = none → s.claimHeld n = false → s.now < d.timer → n ≠ dNose →
          exec (.domainClaimRelease n) s = .next (s.drainEnds n (s.now + 1) false))
      ∧ (d.condition = .drain → d.drop = none → n = 5 →
          let u := s.advanceTo d.timer
          exec (.domainClaimTimeout n) s = .next (u.drainEnds n u.now true))
      ∧ (∀ t, d.condition = .drain → d.drop = some t →
          let u := (s.advanceTo t).setDomain n { condition := if d.toGate then .gated else .off }
          let v := (u.domainLoses n).logSwitch n (if d.toGate then 2 else 0) t
          (∀ k, d.ticket = some k → exec (.domainRailDrop n) s = .next (v.settleTicket k cOk (domainNotice n t d.reachedT)))
          ∧ (d.ticket = none → exec (.domainRailDrop n) s = .next v)))
  ∧ ∀ (r : Req) (o : Outstanding) (s u : State), Runs 0x1003 r o s u → o.fits 0 [] →
      exec (.pwrGetDomains r) s = .next (u.respond o cOk (le 4 (maskOf 22 fun n => u.domainPresent n) ++ le 4 (u.domainMask .on)
        ++ le 4 (u.domainMask .switching) ++ le 4 (u.domainMask .gated) ++ le 4 (u.domainMask .drain) ++ le 4 u.claimMask
        ++ le 4 (maskOf 22 u.pwr.state.allows) ++ zeros 4))

/-- An order of any OP that finds its domain in DRAIN completes BUSY_DRAIN with that drain's ticket, and changes nothing else. -/
def Obligations.DrainAnswersBusy : Prop :=
  ∀ (r : Req) (o : Outstanding) (s u : State) (k : Nat), Runs 0x1002 r o s u → o.fits 4 [(2, 2)] →
    let n := byteAt o.payload 0
    n ≤ 21 → byteAt o.payload 1 ≤ 2 → ¬(n = 0 ∨ (byteAt o.payload 1 = 2 ∧ 17 ≤ n)) → u.flc.closed = true → u.pwr.vaultDue = none →
    u.domainPresent n = true → (u.domain n).condition = .drain → (u.domain n).ticket = some k → u.unopposed [objDomain n] →
    exec (.pwrSetDomain r) s = .next (u.respond o 0x14 (le 4 k))

/-! ## Chapter 18: the Nose -/

/-- NOS.IMPORT of a package that passes every check loads its model in a new tenant session; START runs it, STOP pauses it or ends the session;
GET_STATUS and GET_EVENTS read. Each is refused where the Nose is switched off by FEATURES, its domain is off or its state bars it.
The model's choices that it rests on: log entries 38 and 39. -/
def Obligations.NoseCommands : Prop :=
  ∀ (r : Req) (o : Outstanding) (s u : State),
    let n := u.nose
    let ready := u.featureOff 1 = false ∧ u.draining dNose = false ∧ u.powered dNose = true
    (Runs 0x9000 r o s u → o.fits 8 [] → ready → u.flc.closed = true → byteAt (u.sect 0x0C 0) 0 ≠ 0 → u.draining dCrypto = false →
      u.domainOn dCrypto = true → u.unopposed [objNose] →
      (¬(n.state = .staging ∧ n.importing = some (o.port, o.session, o.tag)) → exec (.nosImport r) s = .next (u.refuse o 2).closeImport)
      ∧ (∀ i body, n.state = .staging → n.importing = some (o.port, o.session, o.tag) → packageFault o.bulk = none → u.packageRefusal o.bulk = none →
          tenantIndex (u.sect 0x0C 0) (pkTenant o.bulk) = some i →
          let w := (u.takesEffect o.orderPort 0x9000 [objNose]).openTenant i
          let v := w.modNose fun x => { x with state := .loaded, model := body, tenantId := pkTenant o.bulk, version := u32 o.bulk 80, importing := none,
                                               stagedOpen := false }
          w.openPackage o.bulk = some body → modelValid body = true → sourcesOk body (byteAt (tenantAt (u.sect 0x0C 0) i) 50) = true →
          exec (.nosImport r) s = .next (v.respond o cOk (le 1 i ++ zeros 3 ++ le 4 (u32 o.bulk 80) ++ le 4 (u32 o.bulk 12) ++ le 4 (infCycles body)
            ++ le 2 (loadCycles body) ++ zeros 2 ++ le 4 v.nose.session)).closeImport))
    ∧ (Runs 0x9001 r o s u → o.fits 4 [(1, 3)] → ready → u.unopposed [objNose] →
        (n.state ≠ .loaded → exec (.nosStart r) s = .next (u.refuse o 2))
        ∧ (n.state = .loaded → u.domainOn dSensor = true →
            exec (.nosStart r) s = .next ((((u.modNose fun x =>
              { x with state := .running, report := byteAt o.payload 0, since := u.now, rings := [] }).takesEffect o.port 0x9001 [objNose]).respond
                o cOk (le 8 (nextTick (mHop n.model * 600) u.now))))))
    ∧ (Runs 0x9002 r o s u → o.fits 4 [(1, 3)] → byteAt o.payload 0 ≤ 1 → ready → u.unopposed [objNose] →
        let w := (u.takesEffect o.port 0x9002 [objNose]).settleCompute
        (n.state ≠ .running → n.state ≠ .loaded → exec (.nosStop r) s = .next (u.refuse o 2))
        ∧ (n.state = .running → byteAt o.payload 0 = 0 →
            let v := w.respond o cOk (le 8 (baton u.now 5))
            exec (.nosStop r) s
              = .next ((v.dropLoad v.now).spoil.modNose fun x => { x with state := .loaded, compute := none, freeFrom := v.now + 1 }))
        ∧ (n.state = .running ∨ n.state = .loaded → byteAt o.payload 0 = 1 →
            let v := w.respond o cOk (le 8 (baton u.now 5))
            exec (.nosStop r) s = .next (v.endTenant v.now endStop)))
    ∧ (Runs 0x9003 r o s u → o.fits 0 [] → u.featureOff 1 = false → u.powered dNose = true → n.model = [] → u.tenantOpen = false →
        exec (.nosGetStatus r) s = .next (u.respond o cOk (le 1 n.state.code ++ le 1 0xFF ++ le 1 n.active
          ++ le 1 (b2n n.load.isSome + 2 * b2n n.compute.isSome) ++ le 4 n.session ++ sized 48 n.tenantId ++ le 4 n.version ++ le 4 0 ++ le 4 0 ++ le 4 0
          ++ le 2 0 ++ List.replicate 6 0xFF ++ zeros 12 ++ le 4 n.cnt ++ ((List.range 8).flatMap fun i => le 1 (n.last.getD i 0)) ++ le 8 n.opened)))
    ∧ (Runs 0x9004 r o s u → o.fits 4 [] → u.featureOff 1 = false → u.powered dNose = true →
        exec (.nosGetEvents r) s = .next (u.respond o cOk (le 4 n.session ++ le 4 ((n.events.head?.map NoseEvent.recno).getD 0)
          ++ le 4 ((n.events.getLast?.map NoseEvent.recno).getD 0) ++ le 4 n.overwritten
          ++ (n.events.filter fun e => u32 o.payload 0 ≤ e.recno).flatMap NoseEvent.bytes)))
    ∧ (∀ op, op ∈ [0x9001, 0x9004] → Runs op r o s u → o.fits 4 [(1, 3)] → u.featureOff 1 = true →
        (op = 0x9001 → exec (.nosStart r) s = .next (u.refuse o 0xFE)) ∧ (op = 0x9004 → exec (.nosGetEvents r) s = .next (u.refuse o 0xFE)))

/-- The Nose's own events: samples enter their rings; a window edge after START takes, skips or drops a window; a loaded window computes from
the first free edge on; an inference ends on its completion edge; a session's end scrubs, and after the scrub the Nose is EMPTY; a failed import and
the claim timer end what is open.
The model's choices that it rests on: log entries 38, 39 and 40. -/
def Obligations.NoseEvents : Prop :=
  ∀ s : State,
    (∀ (c : Nat) (v : Int) (x : Stream), c < 4 → s.streamOf c = some x → s.domainOn dSensor = true →
      let u := s.atTick (12000 * 2 ^ x.rateK)
      exec (.analogSample c v) s = .next (u.pushSample c u.now (u.now + 600) v))
    ∧ (∀ (i : Nat) (v : Int) (x : Stream) (m : Nat), i < 2 → s.streamOf (4 + i) = some x → s.domainOn dSensor = true → m = ceilDiv (s.now - 64) 12500 →
        0 < m → s.nose.since ≤ 12500 * (m - 1) →
        let u := s.advanceTo (12500 * m + 64)
        exec (.pdmSample i v) s = .next (u.pushSample (4 + i) (12500 * (m - 1)) u.now v))
    ∧ (s.nose.state = .running → s.domainOn dNose = true →
        let u := s.atTick (mHop s.nose.model * 600)
        (u.now ≤ s.nose.since → exec .noseWindowEdge s = .next u)
        ∧ (s.nose.since < u.now → exec .noseWindowEdge s = .next u.startCompute.windowEdge))
    ∧ (∀ w, s.nose.load = some w →
        let u := s.advanceTo (max (w.edge + 1) s.nose.freeFrom)
        s.nose.state = .running → w.edge < u.now → s.nose.freeFrom ≤ u.now → s.nose.compute = none → s.domainOn dNose = true →
          (u.withheld = false → exec .inferenceStart s = .next (u.modNose fun n =>
            { n with load := none, compute := some { w with edge := u.now + infCycles n.model } }))
          ∧ (u.withheld = true → exec .inferenceStart s = .next u))
    ∧ (∀ w, s.nose.compute = some w → s.draining dNose = false ∨ w.edge < (s.domain dNose).timer →
        let u := (s.advanceTo w.edge).inferenceEnds w
        exec .inferenceComplete s = .next (if u.draining dNose then u.noseDrainEnd (u.now + 1) false else u))
    ∧ (s.nose.state = .scrubbing → ∃ t, exec .noseScrubEnd s = .next t ∧ t.nose.act = [] ∧ t.nose.scrubOwed = false
        ∧ t.nose.state = (if s.draining dNose then .off else .empty))
    ∧ (∀ p n tag, s.nose.importing = some (p, n, tag) → s.findOut p n tag = none →
        (s.nose.state = .staging → exec .noseImportClose s = .next (s.startScrub s.now))
        ∧ (s.nose.state ≠ .staging →
            exec .noseImportClose s = .next (s.modNose fun x => { x with importing := none, stagedOpen := false })))
    ∧ ((s.domain dNose).condition = .drain → (s.domain dNose).drop = none → s.nose.compute = none →
        let u := s.advanceTo (s.domain dNose).timer
        exec .noseClaimTimeout s = .next (u.noseDrainEnd u.now true))
    ∧ ∀ (t cause : Nat), let v := s.endTenant t cause
        v.nose.state = .scrubbing ∧ v.nose.scrubEnd = t + 655360 ∧ v.nose.model = [] ∧ v.nose.act = [] ∧ v.nose.rings = [] ∧ v.nose.load = none
          ∧ v.nose.compute = none ∧ v.slotValid 118 = false

/-! ## Cold start and restarts -/

/-- PORN_RELEASE with REFCLK starts the Cadence at cycle 0 and the cold start; without it, or once started, nothing happens. DRBG_READY ends step 5,
PORTS_OPEN opens the ports of step 13, HEART_CLOSURE closes the measurement: each where its step stands.
The model's choices that it rests on: log entries 51, 53 and 57. -/
def Obligations.ColdStartSteps : Prop :=
  ∀ s : State,
    (∀ (vres : Nat) (faults : List Nat),
      (s.boot.started = false → s.pwr.state ≠ .vault →
        let u := ((s.modClk fun c => { c with now := 0, running := true }).modPwr fun p => { p with mainPower := true }).modBoot fun b => { b with started := true }
        exec (.pornRelease true vres faults) s = .next (((u.setDomain dKcore { condition := .on }).setDomain dCrypto { condition := .on }).coldStart vres faults))
      ∧ exec (.pornRelease false vres faults) s = .next s
      ∧ (s.boot.started = true → exec (.pornRelease true vres faults) s = .next s))
    ∧ (s.boot.stage = 0x03 → s.drbgReady = true →
        let u := s.modBoot fun b => { b with esWait := false }
        let seeded (x : State) := [0, 1, 2, 3].foldl State.reseedMesh x
        (s.vlt.startClass = 0 → exec .drbgReady s = .next (((seeded u).advanceTo ((seeded u).now + 1)).startFormula))
        ∧ (s.vlt.startClass ≠ 0 → (seeded u.newBaseNote).lifecycle = 2 ∨ (seeded u.newBaseNote).lifecycle = 3 →
            let v := (seeded u.newBaseNote).enterRedFlag [(17, 0)]
            exec .drbgReady s = .next ((v.advanceTo (v.now + 1)).startFormula)))
    ∧ (s.boot.portsDue = true →
        let u := ((s.advanceTo (s.now + 1)).modBoot fun b => { b with portsDue := false }).setStage 0x08
        let v := (u.modMb fun m => { m with isOpen := true }).modSvc fun x => { x with isOpen := true }
        let w := if v.boot.stwVerdict = 0 then (v.setDomain dSteward { condition := .on }).stewardStarts else v
        ((w.link 0).state = .down → exec .portsOpen s = .next w.readEverything)
        ∧ ((w.link 0).state ≠ .down → exec .portsOpen s = .next (w.bootPlats.foldl State.platWaits w).holdPorts))
    ∧ (s.mayClose = true →
        let v := (s.setStage 0x09).platEntries
        let w := (v.advanceTo (v.now + 1)).modFlc fun f => { f with maClose := f.ma, count := f.entries, closed := true }
        let x := w.closureKeys.issueHeart.modBoot fun b => { b with closeCycle := w.closureKeys.issueHeart.now, ref := w.closureKeys.issueHeart.now }
        let y := if x.orders = [] then x.setStage 0x0A else x
        exec .heartClosure s = .next (((y.advanceTo (y.now + 1)).domainsAtClosure).modFrm fun f => { f with revalidating := true }))

/-- FRM.ACTIVATE of the digest of a staged Formula makes the staging slot active and orders the restart; the checks of its owner come in their order.
Main power lost and the end of a move to VAULT leave the package in VAULT with every slot zeroed and the Cadence stopped.
The restarts: a PORn pulse of 10 µs or more always restarts the package and one below 1 µs never; the Keeper's watchdog, a clock fault, a move to RETURNED
or SCRAPPED, an activation and an install restart it. A restart loses what the Vault domain, the fuses, NVM, the flashes and the pins do not hold.
The model's choices that it rests on: log entries 51, 52, 53 and 58. -/
def Obligations.RestartsActivationVault : Prop :=
  ((∀ (r : Req) (o : Outstanding) (s u : State), Runs 0xC002 r o s u → o.fits 48 [] → u.restarting = false → u.unopposed (o.lockObjs ++ u.everyObject) →
     (u.frm.staged = none → exec (.frmActivate r) s = .next (u.refuse o 1))
     ∧ (∀ f, u.frm.staged = some f → u.staging o = false →
         (u.redRefuses o = true → exec (.frmActivate r) s = .next (u.refuse o 3))
         ∧ (u.redRefuses o = false → sized 48 f.digest ≠ o.payload → exec (.frmActivate r) s = .next (u.refuse o 4))
         ∧ (u.redRefuses o = false → sized 48 f.digest = o.payload →
             let w := (u.takesEffect o.port o.opcode u.everyObject).modFrm fun x => { x with active := 1 - x.active, activating := true }
             exec (.frmActivate r) s = .next (w.restartBegins.respond o cOk []))))
   ∧ (∀ s : State, s.pwr.mainPower = true → ∃ t, exec .mainPowerLost s = .next t ∧ t.pwr.state = .vault ∧ t.pwr.mainPower = false
       ∧ t.clk.running = false ∧ t.flc.slots = [] ∧ t.cry = {} ∧ t.paths.outstanding = [])
   ∧ (∀ s : State, s.pwr.mainPower = false → exec .mainPowerLost s = .next s)
   ∧ ∀ s : State, s.canRestart = true → (s.pwr.vaultDue = none → exec .vaultEntry s = .next s)
       ∧ ∀ e, s.pwr.vaultDue = some e → ∃ t, exec .vaultEntry s = .next t ∧ t = ((s.advanceTo e).cutWork.fuseRestart).enterVault
           ∧ t.pwr.state = .vault ∧ t.clk.running = false ∧ t.flc.slots = [])
  ∧ ((∀ s : State,
       let t := s.restart
       t.part = s.part ∧ t.clk = {} ∧ t.flc = {} ∧ t.cry = {} ∧ t.cus = {} ∧ t.mb = {} ∧ t.stw = {} ∧ t.paths = {} ∧ t.lanes = [] ∧ t.comps = []
         ∧ t.boot.started = false ∧ t.frm.applied = none ∧ t.frm.active = (s.cutWork.fuseRestart).frm.active ∧ t.vlt = (s.cutWork.fuseRestart).vlt.kept
         ∧ t.cores.tcmSteward = [] ∧ t.pending = (s.cutWork.fuseRestart).pending)
     ∧ (∀ (w : Nat) (s : State),
         (w < 1000 → exec (.pornLow w) s = .next s)
         ∧ (10000 ≤ w → exec (.pornLow w) s = .next s.restart)
         ∧ (1000 ≤ w → w < 10000 → ∃ u : State, u = { s with free := s.free + 1 }
             ∧ (exec (.pornLow w) s = .next u ∨ exec (.pornLow w) s = .next u.restart)))
     ∧ ∀ s : State, s.canRestart = true →
         exec .keeperWdogExpiry s = .next s.restart
         ∧ exec .lossOfPllLock s = .next (s.restart.modClk fun c => { c with clkFaultPrev := true })
         ∧ (∀ n, let u := s.modClk fun c => { c with refCount := n }
             (23682 ≤ n → n ≤ 25146 → exec (.clockMonitorWindow n) s = .next u)
             ∧ (n < 23682 ∨ 25146 < n → exec (.clockMonitorWindow n) s = .next (u.restart.modClk fun c => { c with clkFaultPrev := true })))
         ∧ (∀ t, s.fus.restartFrom = some t → exec .lifecycleRestart s = .next (s.advanceTo t).restart)
         ∧ (s.fus.restartFrom = none → exec .lifecycleRestart s = .next s)
         ∧ (s.frm.activating = true → s.quiet = true → exec .activateRestart s = .next (s.advanceTo s.frm.restartFrom).restart)
         ∧ (s.frm.activating = false ∨ s.quiet = false → exec .activateRestart s = .next s)
         ∧ (∀ k, s.wdn.install = some k → s.quiet = true →
             let u := s.advanceTo s.frm.restartFrom
             let x := u.stagedKeeper
             let refused (d : Nat) (v : State) := (v.modWdn fun w => { w with install := none }).settleTicket k cState (le 2 d ++ zeros 2)
             let size := ihLen x.header + x.block.length
             exec .keeperInstallRestart s = .next (
               if u.recoveryAllows 0 keeperWindow size then
                 match u.keeperRefusal x with
                 | some d => refused d u
                 | none =>
                   if (u.installImage x).1 then ((u.installImage x).2.settleTicket k cOk []).restart else (refused 0x000B (u.installImage x).2).restart
               else refused 0x000B u)))

/-! ## Chapter 6: the Marshal -/

/-- A trigger: while the Cadence runs a source whose response is DQ destroys every slot and note on that edge, one of RED FLAG or DQ enters the Red flag, and
a source that only logs changes neither. A source's own filter decides when it triggers; a sample of a source that is not watched does nothing.
The Vault's oscillator, swirl and supply: every period is one Vault tick; two periods out of range trigger source 14; the swirl re-masks both shares of the
Base note and leaves the note as it is; arming needs VBAT; a rail below hold leaves contents that never read as LIVE with a check that holds.
The model's choices that it rests on: log entries 53, 54 and 55. -/
def Obligations.TamperAndVaultSupply : Prop :=
  ((∀ (src : Nat) (s : State),
     (s.filterOutput src false).log = s.log
     ∧ (bit s.vlt.live src = true → (s.filterOutput src true).log = s.log)
     ∧ (bit s.vlt.live src = false →
         s.filterOutput src true = (s.modVlt fun v => { v with live := v.live - 2 ^ src * b2n false + 2 ^ src * b2n true }).trigger src)
     ∧ (s.response src = 0 → (s.trigger src).flc = s.flc ∧ (s.trigger src).vlt.redFlag = s.vlt.redFlag)
     ∧ (s.clk.running = true →
         let n := ((s.modVlt fun v => { v with hit := v.hit ||| 2 ^ src }).vaultEvent src 1 (s.response src) 0).alert 2
         (s.response src = 1 → s.trigger src = n.fuseTamper)
         ∧ (s.response src = 2 → s.trigger src = n.fuseTamper.sourceRedFlag src 2)
         ∧ (s.response src = 3 → s.trigger src = (n.fuseTamper.dqFires src).sourceRedFlag src 3))
     ∧ (s.dqDestroys.flc.slots = [] ∧ s.dqDestroys.vlt.noteA = zeros 32 ∧ s.dqDestroys.vlt.noteB = zeros 32 ∧ s.dqDestroys.vlt.state = 0xC3))
   ∧ (∀ (pair : Nat) (level : Bool) (s : State), pair < 4 →
       (s.watched pair = false → exec (.meshSample pair level) s = .next s)
       ∧ (s.watched pair = true → s.clk.running = true →
           let u := s.sampleTick pair 4096 4098
           let d := (tget {} u.vlt.mesh pair).drive (decide ((u.now - 4098) / 4096 % 2 = 1))
           let past := d.2.window ++ [decide (d.1 ≠ level)]
           let window := past.drop (past.length - 16)
           let v := u.modVlt fun x => { x with mesh := tset {} x.mesh pair { d.2 with window := window } }
           exec (.meshSample pair level) s = .next (v.filterOutput pair (4 ≤ (window.filter id).length))))
   ∧ (∀ (i : Nat) (level : Bool) (s : State), i < 8 →
       (s.watched (4 + i) = false → exec (.staticSample i level) s = .next s)
       ∧ (s.watched (4 + i) = true → s.clk.running = true →
           let u := s.sampleTick (4 + i) 2048 0
           let seen := tget 0 u.vlt.statics i
           let n := if level = bit u.vlt.staticActive i then seen + 1 else 0
           exec (.staticSample i level) s = .next ((u.modVlt fun x => { x with statics := tset 0 x.statics i (min n 4) }).filterOutput (4 + i) (decide (4 ≤ n)))))
   ∧ ∀ (c : Int) (s : State),
       let u := s.sampleTick 12 (2 ^ 20) 0
       let v := u.freeVal.2.modVlt fun x => { x with temp := unsigned 16 (4 * c), vbatMv := u.freeVal.1 % 4096 }
       (v.watched 12 = false → exec (.vaultTempSample c) s = .next v)
       ∧ (v.watched 12 = true → v.vlt.window.1 ≤ c → c ≤ v.vlt.window.2 →
           exec (.vaultTempSample c) s = .next ((v.modVlt fun x => { x with tempRun := 0 }).filterOutput 12 false))
       ∧ (v.watched 12 = true → (c < v.vlt.window.1 ∨ v.vlt.window.2 < c) →
           exec (.vaultTempSample c) s
             = .next ((v.modVlt fun x => { x with tempRun := min 2 (v.vlt.tempRun + 1) }).filterOutput 12 (decide (1 ≤ v.vlt.tempRun)))))
  ∧ (∀ s : State,
       (∀ c, let u := s.modVlt fun v => { v with tick := (v.tick + 1) % 2 ^ 48 }
         (s.watched 14 = false → exec (.vaultOscPeriod (some c)) s = .next u)
         ∧ (s.watched 14 = true → s.clk.running = true → 16480 ≤ c → c ≤ 20140 →
             exec (.vaultOscPeriod (some c)) s = .next ((u.modVlt fun v => { v with oscRun := 0 }).filterOutput 14 false))
         ∧ (s.watched 14 = true → s.clk.running = true → c < 16480 ∨ 20140 < c →
             exec (.vaultOscPeriod (some c)) s
               = .next ((u.modVlt fun v => { v with oscRun := min 2 (s.vlt.oscRun + 1) }).filterOutput 14 (decide (1 ≤ s.vlt.oscRun)))))
       ∧ (s.watched 14 = true → s.clk.running = false → exec (.vaultOscPeriod none) s = .next (s.filterOutput 14 true))
       ∧ (s.vlt.noteA.length = 32 → s.vlt.noteB.length = 32 → ∃ t, exec .vaultSwirl s = .next t ∧ t.vlt.note = s.vlt.note ∧ (s.drbgReady = false → t.random = s.random + 32)
           ∧ t.vlt.tick % 32768 = 0)
       ∧ (∀ below, ∃ t, exec (.vbatLow below) s = .next t ∧ t.vlt.vbatLow = below ∧ (below = false ∨ s.vlt.vbatLow = true → t.log = s.log))
       ∧ exec .vbatArm s = .next (s.modVlt fun v => { v with armed := true, vbatOk := true })
       ∧ (∃ t, exec .vbatDisarm s = .next t ∧ t.vlt.armed = false ∧ t.vlt.vbatOk = false ∧ t.log = s.log ∧ t.flc = s.flc)
       ∧ (∀ step above, s.vlt.armed = false ∨ s.watched 13 = false → exec (.vbatGlitch step above) s = .next s)
       ∧ (∀ step, s.vlt.armed = true → s.watched 13 = true → exec (.vbatGlitch step true) s = .next (s.filterOutput 13 true))
       ∧ (s.pwr.mainPower = true → exec .vaultRailBelowHold s = .next s)
       ∧ (s.pwr.mainPower = false → ∃ t, exec .vaultRailBelowHold s = .next t ∧ t.vlt.class = 1))

/-- The Red flag's orders: SYS.LOCKDOWN, RF_CTL and REDFLAGn low set their mask bits; a lift answers its checks in their order and clears the latch;
SYS.GET_TAMPER and VLT_TICK_LO read.
The model's choices that it rests on: log entry 57. -/
def Obligations.RedFlagOrders : Prop :=
  (∀ (r : Req) (o : Outstanding) (s u : State),
    (Runs 0x0040 r o s u → o.fits 0 [] →
      exec (.sysLockdown r) s = .next (((u.takesEffect o.port 0x0040 [objLockdown]).enterRedFlag [(16, 0)]).respond o cOk []))
    ∧ (Runs 0x0041 r o s u → o.fits 4 [] → u.unopposed [objLockdown, objLift] →
        (u.vlt.redFlag = false → exec (.sysLiftLockdown r) s = .next (u.refuse o 0x44))
        ∧ (u.vlt.redFlag = true → u.vlt.dqSeen = true → exec (.sysLiftLockdown r) s = .next (u.refuse o 0x43))
        ∧ (u.vlt.redFlag = true → u.vlt.dqSeen = false → u32 o.payload 0 ≠ u.rfMask → exec (.sysLiftLockdown r) s = .next (u.refuse o 0x42))
        ∧ (u.vlt.redFlag = true → u.vlt.dqSeen = false → u32 o.payload 0 = u.rfMask → u.liftBarred = true →
            exec (.sysLiftLockdown r) s = .next (u.refuse o 0x41))
        ∧ (u.vlt.redFlag = true → u.vlt.dqSeen = false → u32 o.payload 0 = u.rfMask → u.liftBarred = false →
            exec (.sysLiftLockdown r) s = .next (((u.takesEffect o.port 0x0041 [objLift]).liftRedFlag o).respond o cOk [])))
    ∧ (Runs 0x0042 r o s u → o.fits 0 [] →
        exec (.sysGetTamper r) s = .next (u.respond o cOk (le 1 (b2n u.vlt.redFlag) ++ le 1 u.vlt.startClass ++ le 1 (u.vltStat / 4) ++ zeros 1
          ++ le 4 u.vlt.redMask ++ le 2 u.vlt.live ++ le 2 u.vlt.hit ++ le 2 u.vlt.vbatMv ++ le 2 u.vlt.temp ++ le 1 u.vlt.imported
          ++ le 1 u.vlt.importOverflow ++ zeros 2 ++ le 8 u.vlt.redBaton ++ zeros 4))))
  ∧ (∀ (o : Outstanding) (x : State), x.banksInSession = [] → (x.liftRedFlag o).vlt.redFlag = false ∧ (x.liftRedFlag o).vlt.redMask = 0)
  ∧ (∀ (by_ : List (Nat × Nat)) (src resp : Nat) (x : State), x.vlt.redFlag = true →
      (x.enterRedFlag ((src, resp) :: by_)).flc = x.flc ∧ ((x.redFlagBit (x.now + 1) src resp).vlt.redMask = x.vlt.redMask ||| 2 ^ src))
  ∧ ∀ s : State,
      (s.vlt.redflagnLow = false → s.clk.running = true →
        let u := (s.modVlt fun v => { v with redflagnLow := true }).event 15 0 0x0501
        exec (.redflagnLow true) s = .next ((u.takesEffect .pnl 0 [objLockdown]).enterRedFlag [(15, 0)]))
      ∧ exec (.redflagnLow false) s = .next (s.modVlt fun v => { v with redflagnLow := false })
      ∧ (∀ value : Word, s.boot.kfVersion ≠ none →
          let u := s.logReserved .keeper 0x4000071C (value.toNat / 2 * 2)
          (value.toNat % 2 = 1 → exec (.rfCtlEnter .keeper value) s = .next ((u.takesEffect .kpr 0 [objLockdown]).enterRedFlag [(16, 0)]))
          ∧ (value.toNat % 2 = 0 → exec (.rfCtlEnter .keeper value) s = .next u)
          ∧ exec (.vltTickLoRead .keeper) s
              = .next ((s.modVlt fun v => { v with tickHi := v.tick / 2 ^ 32 }).readResult .keeper (s.vlt.tick % 2 ^ 32)))
      ∧ (∀ value : Word, s.cores.steward = .running →
          exec (.rfCtlEnter .steward value) s = .next (s.accessFault .steward 0x4000071C)
          ∧ exec (.vltTickLoRead .steward) s = .next (s.accessFault .steward 0x40000744))

/-! ## Chapters 1 and 2: the links -/

/-- Link rows: a training link whose lanes are deskewed in time enters PAIR; at its timer's end, and at the end of a relink attempt, the link is lost;
lost Cadence darkens it; a check passes on the counter the gun set, and fails on another or at its timer's end.
SYS.GET_TOPOLOGY, SYS.GET_LINKS and SYS.GET_TIME read; SYS.CHECK_ALIGN answers one result a link and re-initialises each die whose counter differs.
The model's choices that it rests on: log entry 46. -/
def Obligations.LinkTrainingAndQueries : Prop :=
  (∀ (l : Nat) (s : State), l < 5 →
     let k := s.link l
     (k.state = .train → k.deadline = none ∨ (∃ t, k.deadline = some t ∧ s.now < t) →
       exec (.linkTrainDone l) s = .next (s.enterPair l).coldStep)
     ∧ (∀ t, k.state = .train → k.deadline = some t → t ≤ s.now →
         exec (.linkTrainDone l) s = .next ((s.loseLink l).eventLate 2 0 0x0401 l 3).coldStep)
     ∧ (∀ t, k.state = .train → k.deadline = some t → exec (.trainTimeout l) s = .next ((s.advanceTo t).loseLink l).coldStep)
     ∧ (k.state ≠ .train → exec (.trainTimeout l) s = .next s)
     ∧ (∀ t, k.attemptEnd = some t → exec (.relinkAttemptTimeout l) s = .next ((s.advanceTo t).loseLink l).coldStep)
     ∧ (k.attemptEnd = none → exec (.relinkAttemptTimeout l) s = .next s)
     ∧ (l = 0 → exec (.cadenceLoss l) s = .next (s.modLink 0 fun x => { x with dark := true }))
     ∧ (∃ t, exec (.cadenceLoss l) s = .next t ∧ (t.link l).dark = true ∧ t.log = s.log
         ∧ ∀ c q, 0 < l → c / 256 = l - 1 → (s.comp c).req = some q → q.start.isSome = true → (t.comp c).req = none)
     ∧ (∀ v t, k.checkDue = some t → s.now < t →
         exec (.gunCheckResult l v) s = .next (s.checkEnds l v (v = k.checkV)).coldStep)
     ∧ (∀ v t, k.checkDue = some t → t ≤ s.now →
         exec (.gunCheckResult l v) s = .next ((s.checkEnds l v false).eventLate 1 0 0x0402 l 2 v).coldStep)
     ∧ (∀ t, k.checkDue = some t → exec (.gunCheckTimeout l) s = .next ((s.advanceTo t).checkEnds l 0 false).coldStep)
     ∧ (∀ c, let x := s.event 1 0 0x0402 l 2 c
         3 ≤ k.checksFailed + 1 → k.mode ≠ 1 →
           s.checkEnds l c false = (x.modLink l fun y => { y with checkDue := none, aligned := false, checksFailed := y.checksFailed + 1 }).holdDie l 1)
     ∧ (k.state ∉ [.train, .pair, .session] → s.loseLink l = s))
  ∧ (∀ (r : Req) (o : Outstanding) (s u : State), o.fits 0 [] →
       (Runs 0x0010 r o s u → exec (.sysGetTopology r) s = .next (u.respond o cOk (le 4 u.topology ++ le 4 u.frmSerial ++ le 4 u.bootCount)))
       ∧ (Runs 0x0011 r o s u → exec (.sysGetLinks r) s = .next (u.respond o cOk ((List.range 5).flatMap fun l => le 4 (u.filState l) ++ le 4 (u.filErr l))))
       ∧ (Runs 0x0020 r o s u → exec (.sysGetTime r) s = .next (u.respond o cOk (le 8 (baton o.edge o.port.slot)
           ++ le 8 (if u.clk.gunDone then baton u.clk.gun 1 else 0) ++ le 4 u.bootCount ++ le 4 u.tkStat)))
       ∧ (Runs 0x0021 r o s u →
           ((∀ l, l < 5 → u.alignResult l ≠ 2) →
             exec (.sysCheckAlign r) s = .next (((List.range 5).foldl (fun x l => if u.inSession l then
                 (x.event 1 0 0x0402 l 1).modLink l fun k => { k with aligned := true } else x) u).respond o cOk
               ((List.range 5).flatMap (fun l => le 1 (if u.inSession l then 1 else 0)) ++ zeros 3)))
           ∧ (u.inSession 0 = true → (u.link 0).offset ≠ some 0 → (∀ l, 0 < l → l < 5 → u.inSession l = false) →
               (∀ l, 0 < l → l < 5 → ((u.event 1 0 0x0402 0 2).reinit 0).inSession l = false) →
               exec (.sysCheckAlign r) s = .next (((u.event 1 0 0x0402 0 2).reinit 0).respond o cOk [2, 0, 0, 0, 0, 0, 0, 0])))
       ∧ (∀ l, u.alignResult l = 0 ↔ u.inSession l = false))

/-- A flit is taken only in a state that carries its type, in sequence, and under its key's tag; what is out of sequence leaves everything as it was, and a type or a
tag that fails counts, the third in a row losing the link. An ack timer's end sends again what is not acknowledged, the fourth time losing the link.
The model's choices that it rests on: log entries 29 and 44. -/
def Obligations.FlitReception : Prop :=
  ∀ (l : Nat) (up : Bool) (f : Flit) (m : Message) (s : State), l < 5 →
    let k := s.link l
    let rx := k.sender (!up)
    (k.state ∉ [.pair, .session] → exec (.flitReceived l up f m) s = .next s.coldStep)
    ∧ (k.state = .session →
        (f.type ∉ [0, 1, 2, 3, 4, 5, 9, 0xA] → exec (.flitReceived l up f m) s = .next (s.tagFails l up).coldStep)
        ∧ (f.type ∈ [0, 1, 2, 3, 4, 5, 9, 0xA] →
            (f.seq % 4096 ≠ rx.accepted % 4096 → exec (.flitReceived l up f m) s = .next s.coldStep)
            ∧ (f.seq % 4096 = rx.accepted % 4096 → k.dark = false →
                (rx.key = [] ∨ f.tag ≠ flitTag rx.key l up rx.accepted f → exec (.flitReceived l up f m) s = .next (s.tagFails l up).coldStep)
                ∧ (rx.key ≠ [] → f.tag = flitTag rx.key l up rx.accepted f → f.type = 0 →
                    let n := rx.accepted + 1
                    let u := (s.modLink l fun k => k.modSender (!up) fun e => { e with accepted := n, tagRun := 0 }).modLink l
                      fun k => k.modSender up fun e => { e with sent := max e.sent n }
                    exec (.flitReceived l up f m) s = .next (if up then u.toKeeper l 0 m else u.toPartner l 0 m).coldStep))))
    ∧ (∀ e rest, (k.sender up).unacked = e :: rest →
        let u := s.advanceTo e.deadline
        (3 ≤ e.timeouts → exec (.ackTimerExpiry l up) s = .next (u.loseLink l).coldStep)
        ∧ (e.timeouts < 3 → up = true → exec (.ackTimerExpiry l up) s = .next (u.modLink l fun k => k.modSender true (LinkEnd.retransmit u.now)).coldStep)
        ∧ (e.timeouts < 3 → up = false →
            exec (.ackTimerExpiry l up) s = .next ((u.modLink l fun k => k.modSender false (LinkEnd.retransmit u.now)).modLink l
              fun k => { k with retx := satAdd 65535 k.retx (rest.length + 1) }).coldStep))
    ∧ ((k.sender up).unacked = [] → exec (.ackTimerExpiry l up) s = .next s)

/-! ## Chapters 4 and 9: platforms and the Formula -/

/-- Measurement: a presented digest is queued with the pages it fills, and the next image follows; its limit, a wait for PGOOD that ends, and a HOLD procedure that finds
a fault give READ. A verdict commits the pages of an image that passed; PGOOD's level is recorded, and a rise may end the wait.
The release order: an order comes due its delay after the one before it, and no release happens while the Red flag, DQ or a restart bars it; on its release
edge a platform leaves reset, or is skipped.
The model's choices that it rests on: log entries 19, 42 and 43. -/
def Obligations.MeasurementAndRelease : Prop :=
  (∀ (p i : Nat) (s : State), p < 4 → i < 8 →
     let q := s.plat p
     (∀ t, (s.image p i).limit = some t →
         exec (.measurementLimitExpiry p i) s = .next (((s.advanceTo t).giveVerdict p i 4).measureImage p (i + 1)))
     ∧ ((s.image p i).limit = none → exec (.measurementLimitExpiry p i) s = .next s)
     ∧ (∀ t, (s.image p i).limit = some t → s.inSession 0 = true → q.measuring ≠ 0 → (s.wport (s.bootPort p)).phase = 1 → q.image = i →
         s.recovering p = false →
         (t ≤ s.now → exec (.imageDigestPresented p i) s
           = .next (((s.giveVerdict p i 4).measureImage p (i + 1)).eventLate 2 0 0x0601 (i + 256 * p)))
         ∧ (s.now < t →
             let rec_ := s.imageRec p i
             let x := s.readFor p i (s.bootPort p) (iAddr rec_)
             let filled := s.fillPages p i (s.flashRead (s.bootPort p) (iPinAddr rec_) (iPinLen rec_))
             let v := filled.modImage p i fun y =>
               { y with header := x.header, sigBlock := x.block, digest := x.digest, version := ihVersion x.header, queued := true, limit := none }
             exec (.imageDigestPresented p i) s
               = .next (((v.modBoot fun b => { b with verifying := b.verifying ++ [(p, i)] }).keeperJob (.image p i)).measureImage p (i + 1))))
     ∧ (s.boot.verifying.head? = some (p, i) → s.powered dCrypto = true →
         let y := s.image p i
         let v := s.judge p i false { header := y.header, block := y.sigBlock, digest := y.digest }
         exec (.imageVerdict p i) s
           = .next (((s.modBoot fun b => { b with verifying := b.verifying.drop 1 }).endImageJob p i).giveVerdict p i v))
     ∧ (s.boot.verifying.head? ≠ some (p, i) → exec (.imageVerdict p i) s = .next s)
     ∧ (∀ t, q.pgoodUntil = some t → exec (.pgoodWaitExpiry p) s = .next ((s.advanceTo t).readAll p))
     ∧ (q.pgoodUntil = none → exec (.pgoodWaitExpiry p) s = .next s)
     ∧ (q.pgoodUntil = none →
         (bit s.boot.pgood p = true → exec (.pgoodChange p false) s = .next (s.modBoot fun b => { b with pgood := b.pgood - 2 ^ p }))
         ∧ (bit s.boot.pgood p = false →
             exec (.pgoodChange p true) s = .next ((s.modBoot fun b => { b with pgood := b.pgood + 2 ^ p }).tryMeasure p)))
     ∧ (∀ t, q.pgoodUntil = some t → t ≤ s.now → bit s.boot.pgood p = false →
         exec (.pgoodChange p true) s = .next (((s.modBoot fun b => { b with pgood := b.pgood + 2 ^ p }).readAll p).eventLate 15 3 0x0501))
     ∧ (∀ (port : Nat) (reads : HoldReads), port < 5 → s.portDeclared port = true → (s.wport port).holdDue = true → (s.wport port).busy = false →
         s.powered (dWarden port) = true →
         let u := s.holdSteps port reads
         (u.platOf port = none → exec (.holdProcedure port reads) s = .next u)
         ∧ (u.platOf port = some p → (u.plat p).measuring ≠ 0 →
             ((u.wport port).fault ≠ 0 → exec (.holdProcedure port reads) s = .next (u.readAll p))
             ∧ ((u.wport port).fault = 0 → exec (.holdProcedure port reads) s = .next (u.tryMeasure p))))
     ∧ (∀ v, v ≠ 0 → s.policyFor p i ≠ 0 → q.measuring = 0 →
         (s.giveVerdict p i v).wdn.queue = s.wdn.queue ++ [{ plat := p, image := i, policy := s.policyFor p i, edge := s.now }]))
  ∧ (∀ s : State,
       (∀ k, s.orders[s.boot.nextOrder]? = some k → s.flc.closed = true → s.boot.orderAt = none → (s.boot.plats.any fun x => x.2.measuring = 3) = false →
         let u := s.advanceTo (max (s.boot.ref + 1 + s.orderDelay k) s.boot.liftRef)
         (u.releaseBarred = true → exec .releaseOrderDue s = .next (u.modBoot fun b => { b with rfWait := u.redFlag }))
         ∧ (u.releaseBarred = false → u.inSession 0 = false → exec .releaseOrderDue s = .next u))
       ∧ (s.orders[s.boot.nextOrder]? = none → exec .releaseOrderDue s = .next s)
       ∧ (∀ p t, p < 4 → (s.plat p).releaseAt = some t → (s.plat p).releaseCmd = none →
           let u := s.advanceTo t
           (u.releaseBarred = true ∨ u.inSession 0 = false → exec (.platformRelease p) s = .next u.orderWaits)
           ∧ (u.releaseBarred = false → u.inSession 0 = true →
               ((u.plat p).heldCmd = false → u.pgoodMet p = true → u.eligibleNow p = true →
                 exec (.platformRelease p) s = .next ((u.releasePlat p).takesEffect .kpr 0 [objReset p]).closeOrder)
               ∧ ((u.plat p).heldCmd = true ∨ u.pgoodMet p = false ∨ u.eligibleNow p = false →
                   exec (.platformRelease p) s = .next (u.skipPlat p u.now).closeOrder)))
       ∧ (∀ p, p < 4 → (s.plat p).releaseAt = none → exec (.platformRelease p) s = .next s)
       ∧ ∀ p, let t := s.releasePlat p
           (t.plat p).released = true ∧ (t.plat p).state = 6 ∧ (t.plat p).releaseBaton = baton s.now 15 ∧ (t.plat p).releaseAt = none
             ∧ (∀ x, x ≠ p → t.plat x = s.plat x) ∧ t.wdn = s.wdn ∧ t.paths = s.paths)

/-- SYS.RELEASE_PLATFORM answers the Baton of a platform that is out of reset, and sends the port of one that is not to LAUNCH for its release edge 62 cycles on;
SYS.HOLD_PLATFORM drives PRSTn low; WDN.SET_PHASE moves a port to SERVE or HOLD; SYS.GET_BOOT reads.
The model's choices that it rests on: log entry 42. -/
def Obligations.PlatformCommands : Prop :=
  ∀ (r : Req) (o : Outstanding) (s u : State),
    let p := byteAt o.payload 0
    (Runs 0x0030 r o s u → p ≤ 3 → o.fits 4 [(1, 3)] → u.unopposed (objReset p :: o.lockObjs) →
      (u.redRefuses o = true → exec (.sysReleasePlatform r) s = .next (u.refuse o 0x40))
      ∧ (u.redRefuses o = false → u.hasBoot p = true → u.flc.closed = true → u.eligibleNow p = true → (u.plat p).ordered = true → u.inSession 0 = true →
          (u.pgoodMet p = false → exec (.sysReleasePlatform r) s = .next (u.refuse o 4))
          ∧ (u.pgoodMet p = true → (u.plat p).released = true →
              exec (.sysReleasePlatform r) s = .next (u.respond o cOk (le 8 (u.plat p).releaseBaton)))
          ∧ (u.pgoodMet p = true → (u.plat p).released = false →
              let w := (u.takesEffect o.port o.opcode [objReset p]).sendLaunch p (u.takesEffect o.port o.opcode [objReset p]).relayEdge
              exec (.sysReleasePlatform r) s = .next (w.modPlat p fun q =>
                { q with heldCmd := false, releaseAt := some (w.now + 62), releaseCmd := some (o.port, o.session, o.tag) }))))
    ∧ (Runs 0x0031 r o s u → p ≤ 3 → o.fits 4 [(1, 3)] → u.unopposed [objReset p] →
        exec (.sysHoldPlatform r) s = .next (((u.takesEffect o.port o.opcode [objReset p]).holdByCommand p).respond o cOk
          (le 8 (baton (if u.heldLow p then o.edge else o.edge + 1) 15))))
    ∧ (∀ x : State, ((x.holdByCommand p).plat p).heldCmd = true ∧ ((x.holdByCommand p).plat p).released = false)
    ∧ (Runs 0x3005 r o s u → p ≤ 3 → o.fits 4 [(2, 2)] → u.portDeclared p = true → u.flc.closed = true → u.inSession 0 = true → (u.wport p).phase ≠ 2 →
        (byteAt o.payload 1 = 4 → u.redRefuses o = true → exec (.wdnSetPhase r) s = .next (u.refuse o 0x40))
        ∧ (byteAt o.payload 1 = 4 → u.redRefuses o = false →
            u.unopposed (objWarden p :: o.lockObjs) →
            ((u.wport p).phase = 4 → exec (.wdnSetPhase r) s = .next (u.respond o cOk (le 8 (u.wport p).phaseBaton)))
            ∧ ((u.wport p).phase = 3 →
                exec (.wdnSetPhase r) s
                  = .next (((u.takesEffect o.port o.opcode [objWarden p]).setPhase p 4 u.relayEdge).respond o cOk (le 8 (baton u.relayEdge 6)))))
        ∧ (byteAt o.payload 1 = 3 → u.redRefuses o = false → u.unopposed (objWarden p :: o.lockObjs) → exec (.wdnSetPhase r) s = .next (u.refuse o 3))
        ∧ (∀ x, byteAt o.payload 1 = 0 → u.platOf p = some x → u.unopposed [objWarden p, objReset x] →
            let w := ((u.takesEffect o.port o.opcode [objWarden p, objReset x]).holdByCommand x).remeasure x 2
            exec (.wdnSetPhase r) s = .next ((w.enterHold p u.relayEdge).respond o cOk (le 8 (baton u.relayEdge 6)))))
    ∧ (Runs 0x0032 r o s u → o.fits 0 [] →
        exec (.sysGetBoot r) s = .next (u.respond o cOk (le 1 u.boot.stage ++ le 1 (b2n u.boot.esWait + 2 * b2n u.boot.rfWait + 4 * b2n u.flc.closed)
          ++ zeros 2 ++ le 4 u.bootCount ++ le 8 (if u.flc.closed then baton u.boot.closeCycle 2 else 0)
          ++ (List.range 4).flatMap fun n => u.bootRecord n)))

/-- FRM.STAGE writes the staging slot and validates it: a Formula that is refused is erased and its code answered, one that passes is staged and its digest and serial
answered. STAGING_REVALIDATE validates the slot once after closure; FRM.GET_INFO and FRM.GET_RANKS read.
The model's choices that it rests on: log entries 26 and 47. -/
def Obligations.FormulaStaging : Prop :=
  ∀ (r : Req) (o : Outstanding) (s u : State),
    (Runs 0xC001 r o s u → 64 ≤ o.bulk.length → o.bulk.length ≤ 98304 → o.fits 8 [] →
      u.unopposed [objStage] →
      (u.staging o = true → exec (.frmStage r) s = .next (u.refuse o 2))
      ∧ (u.staging o = false →
          let v := (u.takesEffect o.orderPort o.opcode [objStage]).unstage
          let w := v.writeSlot v.stagingSlot o.bulk
          exec (.frmStage r) s = .next (match w.validate o.bulk with
            | some (code, off) => ((w.rejectFormula code off).eraseSlot (w.rejectFormula code off).stagingSlot).refuse o code
            | none => (w.modFrm fun q => { q with staged := some (formulaOf o.bulk) }).respond o cOk
                (sized 48 (formulaOf o.bulk).digest ++ le 4 (formulaOf o.bulk).serial))))
    ∧ (Runs 0xC001 r o s u → o.bulk.length < 64 ∨ 98304 < o.bulk.length → exec (.frmStage r) s = .next (u.malformed o 0))
    ∧ (∀ x : State, x.frm.revalidating = true →
        let v := x.modFrm fun f => { f with revalidating := false }
        let b := x.slotBytes x.stagingSlot
        exec .stagingRevalidate x = .next (match v.validate b with
          | some (code, off) => v.rejectFormula code off
          | none => v.modFrm fun f => { f with staged := some (formulaOf b) }))
    ∧ (∀ x : State, x.frm.revalidating = false → exec .stagingRevalidate x = .next x)
    ∧ (Runs 0xC000 r o s u → o.fits 0 [] →
        exec (.frmGetInfo r) s = .next (u.respond o cOk (le 1 (if u.frm.noFormula then 0xFF else u.frm.active) ++ le 1 (bits u.frmStat 5 1) ++ zeros 2
          ++ le 4 u.frmSerial ++ le 2 (u.frmStat / 65536) ++ zeros 2 ++ le 4 (u.frm.staged.getD {}).serial ++ le 2 (u.frm.staged.getD {}).version
          ++ le 2 u.frm.rejectCode ++ le 4 u.frm.rejectOffset ++ u.formulaDigest ++ sized 48 (u.frm.staged.getD {}).digest)))
    ∧ (Runs 0xC003 r o s u → o.fits 2 [] →
        exec (.frmGetRanks r) s = .next (u.respond o cOk (le 1 (((cmdInfo (u16 o.payload 0)).map CmdInfo.ranks).getD 0)
          ++ le 1 (u.effectiveRanks (u16 o.payload 0)) ++ zeros 2)))

/-! ## Chapters 0 to 2: the cores' registers -/

/-- A kick written on the edge of the Steward watchdog's terminal count comes after the expiry (R54): the core is reset, or held where the fourth expiry
within 2^30 cycles has come, and the kick is logged LATE_AT_EXPIRY. Before that edge a valid kick restarts the count and an invalid one is only logged; the expiry
itself comes on the terminal edge. -/
def Obligations.StewardWatchdog : Prop :=
  ∀ (s : State) (value : Word),
    (∀ x : State, let recent := (x.cores.expiries.filter fun t => x.now < t + 2 ^ 30) ++ [x.now]
      (recent.length < 4 → x.wdogExpires.cores = { x.cores with expiries := recent, wdogStart := some x.now })
      ∧ (4 ≤ recent.length → x.wdogExpires.cores = { x.cores with expiries := recent, wdogStart := none, steward := .held }))
    ∧ (s.wdogDue = some s.now → exec .stwWdogExpiry s = .next s.wdogExpires)
    ∧ (s.stewardOn = true → value.toNat < 256 →
        (s.wdogDue = some s.now → ∃ t, exec (.stwWdogKick value) s = .next t ∧ t.cores = s.wdogExpires.cores
          ∧ (s.recording = true → ∃ e x, t.log.entry.flight = s.wdogExpires.log.entry.flight ++ [(e, x)] ∧ x.late = true ∧ x.slot = 3))
        ∧ (∀ t, s.wdogDue = some t → s.now < t →
            (value.toNat = 0xA5 →
              exec (.stwWdogKick value) s = .next (s.modCores fun c => { c with wdogStart := c.wdogStart.map fun _ => s.now }))
            ∧ (value.toNat ≠ 0xA5 → exec (.stwWdogKick value) s = .next (s.event 3 0 0x0008 0 value.toNat))))

/-- A read of KPR.TK_NOW_LO that is applied on an edge returns that edge (R88): its low word as the value read, its high bits in the core's own latch. -/
def Obligations.TimeRead : Prop :=
  ∀ (core : CoreId) (s : State), s.coreRuns core = true →
    ∃ t, exec (.tkNowLoRead core) s = .next t
      ∧ (core = .keeper → t.clk.nowHiKeeper * 2 ^ 32 + t.cores.readKeeper.toNat = s.now ∧ t.clk.nowHiSteward = s.clk.nowHiSteward)
      ∧ (core = .steward → t.clk.nowHiSteward * 2 ^ 32 + t.cores.readSteward.toNat = s.now ∧ t.clk.nowHiKeeper = s.clk.nowHiKeeper)

/-- The NVM controller takes one request a bank (R51): another is answered REFUSED_STATE, one for bank B fetched from it SELF_BANK; a request done changes only the bytes
it covers.
An access that is not granted raises the core's access fault and has no other effect, a Steward's being logged with its address in slot 3; the window of an absent
Bank is granted to neither core (R46). A write that is granted is stored where the register or word has no behaviour of its own.
The model's choices that it rests on: log entries 59, 60 and 63. -/
def Obligations.RegisterAndNvmAccess : Prop :=
  (∀ (core : CoreId) (s : State), s.coreRuns core = true →
     (∀ (op : NvmOp), nvmOffset op < 0x100000 →
       (core = .keeper → s.cores.opA = none →
         exec (.nvmProgramErase core false 0 op) s = .next ((s.readResult core cOk).modCores fun c => { c with opA := some op }))
       ∧ (core = .keeper → s.cores.opA ≠ none → exec (.nvmProgramErase core false 0 op) s = .next (s.readResult core cState))
       ∧ (s.cores.opB = none →
           exec (.nvmProgramErase core false 1 op) s = .next ((s.readResult core cOk).modCores fun c => { c with opB := some op }))
       ∧ (s.cores.opB ≠ none → exec (.nvmProgramErase core false 1 op) s = .next (s.readResult core cState))
       ∧ exec (.nvmProgramErase core true 1 op) s = .next (s.readResult core cSelfBank)
       ∧ (core = .steward → ∀ b, exec (.nvmProgramErase core b 0 op) s = .next (s.accessFault core (0x10000000 + nvmOffset op))))
     ∧ (∀ op, s.cores.opA = some op →
         exec (.nvmOperationDone 0) s = .next (s.modCores fun c => { c with opA := none, nvmA := nvmEffect op c.nvmA }))
     ∧ (∀ op, s.cores.opB = some op →
         exec (.nvmOperationDone 1) s = .next (s.modCores fun c => { c with opB := none, nvmB := nvmEffect op c.nvmB }))
     ∧ (∀ (a : Nat) (m : Memory), m.wf 0xFF = true → ∀ x, ¬(a / 4096 * 4096 ≤ x ∧ x < a / 4096 * 4096 + 4096) →
         mread 0xFF (nvmEffect (.eraseSector a) m) x 1 = mread 0xFF m x 1))
  ∧ (∀ (core : CoreId) (addr : Nat) (s : State),
       (∀ b off write, s.dieAbsent (1 + b) = true → s.granted core write (.bnk b off) = false)
       ∧ (s.coreRuns core = true →
           (s.granted core true (placeOf addr) = false →
             exec (.accessFault core addr) s = .next (s.accessFault core addr)
             ∧ ∀ v, exec (.registerWrite core addr v) s = .next (s.accessFault core addr))
           ∧ (s.granted core false (placeOf addr) = false → exec (.rcRegisterRead core addr) s = .next (s.accessFault core addr))
           ∧ (s.granted core true (placeOf addr) = true → exec (.accessFault core addr) s = .next s)
           ∧ (∀ v, s.granted core true (placeOf addr) = true → s.writeLoses core (addr / 4 * 4) = false →
               let w := s.writeWins core (addr / 4 * 4)
               (ownWrite core (addr / 4 * 4) v w = none →
                 exec (.registerWrite core addr v) s = .next (w.storePlace core (addr / 4 * 4) v (placeOf addr)))
               ∧ ∀ out, ownWrite core (addr / 4 * 4) v w = some out → exec (.registerWrite core addr v) s = out)
           ∧ (∀ v, s.granted core true (placeOf addr) = true → s.writeLoses core (addr / 4 * 4) = true →
               exec (.registerWrite core addr v) s = .next (s.event 3 0 0x0003 0 (addr / 4 * 4) v.toNat))
           ∧ (∀ off, addr / 4 * 4 = addr → placeOf addr = .tcmSteward off →
               (∀ v, s.writeLoses core addr = false →
                 exec (.registerWrite core addr v) s = .next ((s.writeWins core addr).modCores fun c => { c with tcmSteward := mwrite 0 c.tcmSteward off (le 4 v.toNat) }))
               ∧ exec (.rcRegisterRead core addr) s = .next (s.readResult core (wordAt (mread 0 s.cores.tcmSteward off 4) 0)))
           ∧ (∀ off, placeOf addr = .kpr off → s.granted core false (.kpr off) = true → addr / 4 * 4 ≠ 0x40000300 → addr / 4 * 4 ≠ 0x40000744 →
               addr / 4 * 4 ≠ 0x41030040 → addr / 4 * 4 ≠ 0x41030140 → exec (.rcRegisterRead core addr) s = .next (s.kprRead core off)))
       ∧ (s.coreRuns core = false → ∀ v, exec (.registerWrite core addr v) s = .next s ∧ exec (.rcRegisterRead core addr) s = .next s)
       ∧ ((s.accessFault .keeper addr) = { s with cores := { s.cores with faultKeeper := some addr } })
       ∧ ∃ l, s.accessFault .steward addr = { s with cores := { s.cores with faultSteward := some addr }, log := l })

/-! ## Chapter 5: the fuses -/

/-- The FUS commands: a read never shows the words that only the Accord and the link keys receive; a program, a finalise, a transition and a bump start their words when
their checks pass, and a word that verifies is set before the next one starts.
The model's choices that it rests on: log entry 6. -/
def Obligations.FuseCommands : Prop :=
  ∀ (r : Req) (o : Outstanding) (s u : State),
    let b := o.payload
    (Runs 0xD000 r o s u → o.fits 8 [(1, 1), (6, 2)] → byteAt b 0 ≤ 2 → u16 b 2 < fuseArraySize (byteAt b 0) → 1 ≤ u16 b 4 → u16 b 4 ≤ 256 →
      u16 b 2 + u16 b 4 ≤ fuseArraySize (byteAt b 0) →
      exec (.fusRead r) s = .next (u.respond o cOk (b ++ (List.range (u16 b 4)).flatMap fun i => le 4 (u.readFuse (byteAt b 0) (u16 b 2 + i)))))
    ∧ (∀ a, 0x008 ≤ a → a ≤ 0x037 → u.readFuse 1 a = 0)
    ∧ (Runs 0xD001 r o s u → byteAt b 0 ≤ 1 → 1 ≤ u16 b 4 → u16 b 4 ≤ 64 → o.fits (8 + 4 * u16 b 4) [(1, 1), (6, 2)] → markerFault b = none →
        let ws := programWords b
        (ws.all fun w => u.programAllowed w.anti w.addr) = true →
        (ws.any fun w => programArea w.anti w.addr = 1 ∧ u.fuseArray w.anti (finalOf w.anti w.addr) ≠ 0) = false →
        (ws.any fun w => u.fuseArray w.anti w.addr &&& ~~~w.data ≠ 0) = false →
        (ws.any fun w => w.anti ∧ programArea true w.addr = 2 ∧ u.keyInUse (w.addr - 0xC8)) = false →
        (u.fus.op.isSome = true → exec (.fusProgram r) s = .next (u.refuse o 1))
        ∧ (u.fus.op = none → exec (.fusProgram r) s = .next (u.fuseNext { cmd := o.ref, opcode := 0xD001, words := ws })))
    ∧ (Runs 0xD002 r o s u → o.fits 4 [(1, 3)] →
        (∀ anti a n, unitOf (byteAt b 0) = some (anti, a, n) → byteAt b 0 ∈ [0x03, 0x04, 0x12, 0x13, 0x14, 0x15, 0x16, 0x17] →
          (u.fuseArray anti (a + n + 4) = 0xFFFFFFFF#32 → exec (.fusFinalise r) s = .next (u.refuse o 3))
          ∧ (let content := fuseBytes (if anti then u.fus.antifuse else u.fus.efuse) a n
             let dig := unitDigest (byteAt b 0) content
             let words := (List.range 4).map fun k => ({ anti := anti, addr := a + n + k, data := (digestWords dig).getD k 0 } : FuseWord)
             u.fuseArray anti (a + n + 4) = 0#32 → (anti = false ∨ (content.all fun x => x = 0) = false) → u.fus.op = none →
             (words.any fun w => u.fuseArray anti w.addr &&& ~~~w.data ≠ 0) = false →
             exec (.fusFinalise r) s = .next (u.fuseNext { cmd := o.ref, opcode := 0xD002, words := words ++ [({ anti := anti, addr := a + n + 4, data := 0xFFFFFFFF#32 } : FuseWord)],
                                                           subject := byteAt b 0, digest := dig })))
        ∧ (byteAt b 0 ∉ [0x03, 0x04, 0x12, 0x13, 0x14, 0x15, 0x16, 0x17] → exec (.fusFinalise r) s = .next (u.refuse o 2)))
    ∧ (Runs 0xD003 r o s u → o.fits 20 [(1, 3)] → 1 ≤ byteAt b 0 → byteAt b 0 ≤ 5 →
        let dst := byteAt b 0
        (slice b 4 16 ≠ u.devid → exec (.fusSetLifecycle r) s = .next (u.refuse o 0x0B))
        ∧ (slice b 4 16 = u.devid → transitionListed u.lifecycle dst = false → exec (.fusSetLifecycle r) s = .next (u.refuse o 0x0C))
        ∧ (slice b 4 16 = u.devid → transitionListed u.lifecycle dst = true → u.transitionReady dst = true → u.fus.op = none →
            (u.fuseWindow.1 = false → exec (.fusSetLifecycle r) s = .next (u.fuseWindow.2.respond o 0x22 []))
            ∧ (u.fuseWindow.1 = true → dst = 2 ∨ dst = 3 → fuseWord u.fus.efuse (0x20 + (dst - 2)) ≠ 0xFFFFFFFF →
                exec (.fusSetLifecycle r) s = .next (u.fuseWindow.2.fuseBegin o
                  { cmd := o.ref, words := [({ anti := false, addr := 0x20 + (dst - 2), data := 0xFFFFFFFF#32 } : FuseWord)], subject := dst }))
            ∧ (u.fuseWindow.1 = true → dst = 4 ∨ dst = 5 → fuseWord u.fus.efuse (0x20 + (dst - 2)) ≠ 0xFFFFFFFF →
                exec (.fusSetLifecycle r) s = .next (u.fuseWindow.2.zeroizeNotes.fuseBegin o
                  { cmd := o.ref, words := [({ anti := false, addr := 0x20 + (dst - 2), data := 0xFFFFFFFF#32 } : FuseWord)], subject := dst }))))
    ∧ (Runs 0xD004 r o s u → o.fits 4 [(2, 2)] →
        let c := byteAt b 0
        let t := byteAt b 1
        c ≤ 63 ∨ c ∈ [0x80, 0x81, 0x82] → 1 ≤ t → t ≤ 64 →
          (u.bumpRollsBack c t = true → exec (.fusBumpCounter r) s = .next (u.refuse o 0x0E))
          ∧ (u.bumpRollsBack c t = false → u.fus.op = none →
              let words := bumpWords (counterAt c).1 (counterAt c).2
                (thermoBits (if (counterAt c).1 then u.fus.antifuse else u.fus.efuse) (counterAt c).2) t
              exec (.fusBumpCounter r) s = .next (u.fuseNext { cmd := o.ref, opcode := 0xD004, words := words, subject := c, before := u.counterLive c })))
    ∧ ∀ (x : State) (op : FuseOp) (w : FuseWord) (rest : List FuseWord), x.fus.op = some op → op.words = w :: rest →
        let old := x.fuseArray w.anti w.addr
        exec (.fuseWordDone true) x = .next (((x.setFuse w).fuseEvent 0x0201 (fuseArg w.anti w.addr) w.data.toNat old.toNat).fuseNext
          { op with words := rest, done := op.done + 1, newBits := op.newBits + popcount (w.data &&& ~~~old) })
        ∧ exec (.fuseWordDone false) x = .next ((x.tornWord w).fuseStop op cState 8)
        ∧ (x.setFuse w).fuseArray w.anti w.addr = old ||| w.data
        ∧ (∀ anti a, ¬(anti = w.anti ∧ a = w.addr) → (x.setFuse w).fuseArray anti a = x.fuseArray anti a)

/-! ## Chapter 7: keys -/

/-- The KEY commands: a slot that is free is filled under its own attributes, and one that is taken, of the system, or of another rank is refused; a wrapped key is sealed under its
KEK, and one that the KEK opens fills its slot; a destroyed slot reads empty; KEY.SET_SWIRL and SWIRL_PASS keep every value while the shares change.
The model's choices that it rests on: log entries 4 and 22. -/
def Obligations.KeyCommands : Prop :=
  ∀ (r : Req) (o : Outstanding) (s u : State),
    let b := o.payload
    let n := byteAt b 0
    let a := u32 b 4
    (Runs 0x5000 r o s u → 12 ≤ b.length → n ≤ 105 → byteAt b 1 = 0 → byteAt b 2 = 0 → byteAt b 3 = 0 → attrFault b 4 = none → u16 b 8 = 0 → u16 b 10 = 0 →
      o.fits 12 [] →
      (u.slotTaken n = true → exec (.keyGenerate r) s = .next (u.refuse o 1))
      ∧ (u.slotTaken n = false → destReserved a = false → u.drbgReady = true → u.reseedDue = false → hasPublic a = false →
          exec (.keyGenerate r) s = .next (u.keyGenerate o)
          ∧ (u.unopposed [objSlot n] →
              let g := u.generate (keyInput (bits a 20 18) (bits a 24 21))
              let key := keyOfKind (bits a 20 18) (bits a 24 21) g.1
              let v := g.2.fillByCommand o 0x5000 n a key
              u.keyGenerate o = v.respond o cOk (le 4 (v.slot n).attr ++ le 2 (publicHalf (bits a 20 18) key).length ++ zeros 2 ++ publicHalf (bits a 20 18) key))))
    ∧ (Runs 0x5001 r o s u → 12 ≤ b.length → n ≤ 105 → byteAt b 1 = 0 → byteAt b 2 = 0 → byteAt b 3 = 0 → attrFault b 4 = none →
        u16 b 8 = 4 * (bits a 24 21 + 1) → o.fits (12 + u16 b 8) [(10, 2)] → scalarInRange (bits a 20 18) (b.drop 12) = true →
        (u.slotTaken n = true → exec (.keyImport r) s = .next (u.refuse o 1))
        ∧ (u.slotTaken n = false → destReserved a = false → u.unopposed [objSlot n] →
            let v := u.fillByCommand o 0x5001 n (a + 2 * 16384) (b.drop 12)
            exec (.keyImport r) s = .next (v.respond o cOk (le 4 (v.slot n).attr))))
    ∧ (Runs 0x5001 r o s u → 12 ≤ b.length → n ≤ 105 → byteAt b 1 = 1 → byteAt b 2 ≤ 127 → byteAt b 3 = 0 → a &&& 0x13FFC = a →
        o.fits (12 + u16 b 8) [(10, 2)] → blobFault (b.drop 12) = none → u.slotTaken n = false → destReserved a = false →
        let k := byteAt b 2
        let blob := b.drop 12
        let len := u16 blob 20
        let opened := gcmOpen (u.slotKey k) (slice blob 8 12) (blob.take 24) (slice blob 24 len) (blob.drop (24 + len))
        (u.slotValid k = false → exec (.keyImport r) s = .next (u.refuse o 2))
        ∧ (u.slotValid k = true → rankMissing (u.slot k).attr o.port = false → kekUsable (u.slot k).attr = true →
            (opened = none → exec (.keyImport r) s = .next (u.refuse o 9))
            ∧ (∀ key, opened = some key → u.unopposed [objSlot n] →
                let v := u.fillByCommand o 0x5001 n ((u32 blob 4 &&& a &&& 0x13FFC) + (u32 blob 4 &&& 0x1FC0000) + 3 * 16384) key
                exec (.keyImport r) s = .next (v.respond o cOk (le 4 (v.slot n).attr)))))
    ∧ (Runs 0x5002 r o s u → o.fits 4 [(2, 2)] → n ≤ 127 → byteAt b 1 ≤ 127 →
        let k := byteAt b 1
        (u.slotValid n = false ∨ u.slotValid k = false → exec (.keyWrap r) s = .next (u.refuse o 2))
        ∧ (u.slotValid n = true → u.slotValid k = true → rankMissing (u.slot n).attr o.port = false → rankMissing (u.slot k).attr o.port = false →
            (kekUsable (u.slot k).attr = false → exec (.keyWrap r) s = .next (u.refuse o 7))
            ∧ (kekUsable (u.slot k).attr = true → bit (u.slot n).attr 16 = true → u.drbgReady = true → u.reseedDue = false →
                let g := u.generate 12
                let key := g.2.slotKey n
                let head := ascii "TXKW" ++ le 4 ((u.slot n).attr &&& attrRequest) ++ g.1 ++ le 2 key.length ++ zeros 2
                let sealed := gcmSeal (g.2.slotKey k) g.1 head key
                exec (.keyWrap r) s = .next (g.2.respond o cOk (head ++ sealed.1 ++ sealed.2)))))
    ∧ (Runs 0x5003 r o s u → o.fits 4 [(1, 3)] →
        (106 ≤ n → n ≤ 127 → exec (.keyDestroy r) s = .next (u.refuse o 3))
        ∧ (n ≤ 105 → rankMissing (u.slot n).attr o.port = true → exec (.keyDestroy r) s = .next (u.respond o 0x10 []))
        ∧ (n ≤ 105 → rankMissing (u.slot n).attr o.port = false → u.unopposed [objSlot n] →
            (u.slotValid n = false → exec (.keyDestroy r) s = .next ((u.takesEffect o.port 0x5003 [objSlot n]).respond o cOk []))
            ∧ (u.slotValid n = true → exec (.keyDestroy r) s = .next (((((u.cryptoDestroyed n).emptySlot n).event 2 0 0x0302 n).takesEffect
                o.port 0x5003 [objSlot n]).respond o cOk []))))
    ∧ (∀ (m : Nat) (x : State), (x.emptySlot m).slotValid m = false)
    ∧ (Runs 0x5004 r o s u → o.fits 4 [(1, 3)] → n ≤ 127 →
        (u.slotValid n = true → exec (.keyGetAttr r) s = .next (u.respond o cOk (le 4 (u.slot n).attr ++ le 8 (u.slot n).baton ++ le 1 (u.slot n).port ++ zeros 3)))
        ∧ (u.slotValid n = false → exec (.keyGetAttr r) s = .next (u.respond o cOk (zeros 16))))
    ∧ (Runs 0x5005 r o s u → o.fits 36 [(1, 3)] → n ≤ 105 → u.slotValid n = true → rankMissing (u.slot n).attr o.port = false →
        u.draining dCrypto = false → u.domainOn dCrypto = true →
        let g := u.generate 48
        let text := u.provenance n (slice b 4 32)
        exec (.keyProvenance r) s = .next (g.2.respond o cOk (text ++ sign sEcdsa384 96 (g.2.slotKey 122) (sha (ascii "TXI-PRV" ++ text)) g.1)))
    ∧ (Runs 0x5006 r o s u → o.fits 4 [(1, 3)] → 16 ≤ n → n ≤ 24 → u.now < maxCycle →
        let v := u.setSwirl n
        exec (.keySetSwirl r) s = .next (v.respond o cOk (le 8 v.flc.swirlFrom)) ∧ v.flc.swirlFrom % 2 ^ n = 0 ∧ u.now < v.flc.swirlFrom)
    ∧ ∀ x : State, ∃ t, exec .swirlPass x = .next t ∧ t.flc.passes = (x.flc.passes + 1) % 65536 ∧ t.flc.maskStale = !x.drbgReady
        ∧ ∀ k, k < 128 → (x.slot k).shareA.length = 64 → (x.slot k).shareB.length = 64 → t.slotKey k = x.slotKey k ∧ (t.slot k).attr = (x.slot k).attr

/-! ## Chapter 8: the crypto cluster -/

/-- CRY.SUBMIT queues a job whose checks pass; JOB_START starts the one whose turn it is, its key loaded from its slot; JOB_COMPLETE answers with the job's result on its exact edge;
CRY.GET_JOB and CRY.CANCEL find the port's own job, and the claim timer's end stops every running one.
The model's choices that it rests on: log entries 13 and 21. -/
def Obligations.CryptoJobs : Prop :=
  (∀ (r : Req) (o : Outstanding) (s u : State), Runs 0x6000 r o s u → descriptorFault o.port o.payload = none → byteAt o.payload 3 = 0 →
    let b := o.payload
    let text := b.drop 32
    let param := text.take (u16 b 12)
    let data := text.drop (u16 b 12)
    byteAt b 0 ∈ [0x10, 0x11, 0x12, 0x13, 0x14] → paramSuits (byteAt b 0) (byteAt b 1) param = true →
    (u.draining dCrypto = false → u.domainOn dCrypto = false → exec (.crySubmit r) s = .next (u.refuse o 0x10))
    ∧ (∀ j, u.draining dCrypto = false → u.domainOn dCrypto = true → o.port ≠ .kpr → u.freeJobSlot [0, 1, 2, 3, 4, 5] = some j → u.cry.waiting = [] →
        u.unopposed [] →
        let job : Job := { cmd := some o.ref, alg := byteAt b 0, op := byteAt b 1, keySlot := 0xFF, outAttr := u32 b 8, outOff := u32 b 24, engine := 3,
                           param := param, data := data, accepted := o.edge, rank := o.port.rank }
        exec (.crySubmit r) s = .next (u.modCry fun c => { c with jobs := tins c.jobs j job }))
    ∧ (u.draining dCrypto = false → u.domainOn dCrypto = true → o.port ≠ .kpr → u.freeJobSlot [0, 1, 2, 3, 4, 5] = none →
        exec (.crySubmit r) s = .next (u.refuse o 1)))
  ∧ (∀ (k : Nat) (j : Job) (s : State), tfind s.cry.jobs k = some j →
      (∀ e, j.started = none → s.startEngine j = some e →
        let keyed := j.cmd.isSome && algKeyed j.alg j.op
        let v := s.advanceTo (max j.accepted (tget 0 s.cry.freed e) + 1)
        (keyed = false → exec (.jobStart k) s = .next (v.modCry fun c => { c with jobs := tins c.jobs k { j with engine := e, started := some v.now, key := [] } }))
        ∧ (keyed = true → s.slotValid j.keySlot = false →
            exec (.jobStart k) s = .next (v.stopJob k cState (le 2 (if s.vlt.dqSeen then 0x00D0 else 0x00D1) ++ zeros 2)))
        ∧ (keyed = true → s.slotValid j.keySlot = true → ∃ t, exec (.jobStart k) s = .next t
            ∧ tfind t.cry.jobs k = some { j with engine := e, started := some v.now, key := s.slotKey j.keySlot } ∧ bit (t.slot j.keySlot).attr 25 = true))
      ∧ (j.started = none → s.startEngine j = none → exec (.jobStart k) s = .next s)
      ∧ (∀ e c n, j.started = some e → j.cmd = some c →
          jobCycles j.alg j.op (bits (s.slot j.keySlot).attr 24 21) j.param j.data.length = some n →
          s.draining dCrypto = false →
          (j.draws = false ∨ s.drbgReady = true → exec (.jobComplete k) s = .next ((s.advanceTo (e + n)).finishJob k j e n c))
          ∧ (j.draws = true → s.drbgReady = false → exec (.jobComplete k) s = .next ((s.advanceTo (e + n)).stopJob k cState (le 2 0x000A ++ zeros 2)))))
  ∧ (∀ (r : Req) (o : Outstanding) (s u : State), o.fits 4 [(2, 2)] →
      (Runs 0x6001 r o s u →
        (u.findJob o (u16 o.payload 0) = none → exec (.cryGetJob r) s = .next (u.respond o cOk ([0, 0xFF] ++ zeros 10)))
        ∧ (∀ k j e, u.findJob o (u16 o.payload 0) = some (k, j) → j.started = some e →
            exec (.cryGetJob r) s = .next (u.respond o cOk (le 1 2 ++ le 1 k ++ le 1 j.engine ++ zeros 1 ++ le 4 (u.now - e) ++ zeros 4))))
      ∧ (Runs 0x6002 r o s u →
          (u.findJob o (u16 o.payload 0) = none → exec (.cryCancel r) s = .next (u.respond o cOk (zeros 4)))
          ∧ (∀ k j, u.findJob o (u16 o.payload 0) = some (k, j) → u.jobOver j = false →
              exec (.cryCancel r) s
                = .next ((u.stopJob k cState (le 2 0x0020 ++ zeros 2)).respond o cOk (le 1 (if j.started.isSome then 2 else 1) ++ zeros 3)))))
  ∧ ∀ s : State,
      (s.draining dCrypto = true → (s.domain dCrypto).drop = none → ∃ t, exec .cryptoClaimTimeout s = .next t
        ∧ t = ((s.advanceTo (s.domain dCrypto).timer).cryptoAbort.dropSeals.modPwr fun p => { p with domains := t.pwr.domains })
        ∧ (t.domain dCrypto).drop = some ((s.advanceTo (s.domain dCrypto).timer).now + 17) ∧ (t.domain dCrypto).reachedT = true)
      ∧ (s.draining dCrypto = false → exec .cryptoClaimTimeout s = .next s)

/-- The entropy source and the DRBG: blocks are tested, conditioned into a pool of two, and three failures in a row stop the DRBG; CRY.RANDOM delivers the bytes asked for while the DRBG
can, is refused while it cannot, and waits for a reseed that is due; CRY.GET_HEALTH reads.
The model's choices that it rests on: log entry 22. -/
def Obligations.Randomness : Prop :=
  (∀ (r : Req) (o : Outstanding) (s u : State),
    let n := u16 o.payload 0
    (Runs 0x6003 r o s u → o.fits 4 [(3, 1)] → 1 ≤ n → n ≤ 4096 → byteAt o.payload 2 = 0 →
      (u.drbgReady = false → exec (.cryRandom r) s = .next (u.refuse o 0x0A))
      ∧ (u.drbgReady = true → u.reseedDue = true → u.cry.pool = [] → exec (.cryRandom r) s = .next (u.setOut { o with progress := .accepted }))
      ∧ (u.drbgReady = true → u.reseedDue = false →
          let g := u.cry.deliver n
          exec (.cryRandom r) s = .next ((u.modCry fun _ => g.2).respond o cOk g.1) ∧ g.1.length = n ∧ g.2.requests = u.cry.requests + 1
            ∧ g.1 = (counterBlocks u.cry.drbgKey (ceilDiv n 16) u.cry.drbgV).take n))
    ∧ (Runs 0x6004 r o s u → o.fits 0 [] →
        exec (.cryGetHealth r) s = .next (u.respond o cOk (le 4 u.esStat ++ le 4 u.cry.rct ++ le 4 u.cry.apt ++ le 4 u.cry.conditioned ++ le 4 u.cry.reseeds
          ++ le 8 (if u.cry.reseeds = 0 then 0 else baton u.cry.lastReseed 5) ++ le 4 u.cryStat))))
  ∧ ∀ s : State,
      (s.clk.running = false → ∀ raw k, exec (.entropyBlock raw k) s = .next s)
      ∧ (s.clk.running = true → s.cry.es = 1 → ∀ raw k last run, repetition (rawBits raw) s.cry.lastBit s.cry.run 0 = (last, run, 0) →
          proportionFails (rawBits raw) = false →
          (s.cry.pool.length < 2 → ∃ t, exec (.entropyBlock raw k) s = .next t ∧ t.cry.pool = s.cry.pool ++ [sha raw] ∧ t.cry.discardRun = 0 ∧ t.cry.es = 1)
          ∧ (2 ≤ s.cry.pool.length → ∃ t, exec (.entropyBlock raw k) s = .next t ∧ t.cry.pool = s.cry.pool ∧ t.cry.discardRun = 0 ∧ t.cry.es = 1))
      ∧ (s.clk.running = true → s.cry.es = 1 → 2 ≤ s.cry.discardRun → ∀ raw k, proportionFails (rawBits raw) = true →
          ∃ t, exec (.entropyBlock raw k) s = .next t ∧ t.cry.es = 2 ∧ t.cry.drbg = 2 ∧ t.drbgReady = false)
      ∧ (s.cry.es = 2 → ∃ t, exec (.entropyFailRetry true) s = .next t ∧ t.cry.es = 1 ∧ t.cry.drbg = 1 ∧ t.cry.retries = 0)
      ∧ (s.cry.es = 2 → 7 ≤ s.cry.retries → ∃ t, exec (.entropyFailRetry false) s = .next t ∧ t.cry.es = 3)
      ∧ (s.cry.es ≠ 2 → ∀ k, exec (.entropyFailRetry k) s = .next s)
      ∧ (s.drbgReady = true → s.reseedDue = true → ∀ b rest, s.cry.pool = b :: rest → ∃ t, exec .drbgReseed s = .next t ∧ t.cry.pool = rest ∧ t.cry.requests = 0
          ∧ t.cry.lastReseed = s.now)
      ∧ (s.drbgReady = false → exec .drbgReseed s = .next s)

/-! ## Chapters 10 and 11: the Warden -/

/-- A granule's decision is that of the TYPE 1 descriptor of lowest index that contains it, in the field of the port's phase, and DENY where none does; a class-decided command's
is that of the TYPE 2 descriptor, and DENY where there is none (R410). -/
def Obligations.WardenDecisions : Prop :=
  ∀ (t : Sparse Bytes) (phase cls a : Nat), t.Pairwise (fun x y => x.1 < y.1) →
    let holds (d : Bytes) : Prop := dType d = 1 ∧ dBase d ≤ a ∧ a ≤ dLimit d
    ((∀ n d, (n, d) ∈ t → ¬holds d) → decideAddr t phase cls a = 0)
    ∧ (∀ n d, (n, d) ∈ t → holds d → (∀ m e, (m, e) ∈ t → m < n → ¬holds e) →
        decideAddr t phase cls a = u16 d (if phase = 3 then 10 else 12) / 4 ^ (addrPos cls) % 4)
    ∧ ((∀ n d, (n, d) ∈ t → dType d ≠ 2) → decideClass t phase cls = 0)
    ∧ (∀ n d, (n, d) ∈ t → dType d = 2 → (∀ m e, (m, e) ∈ t → dType e = 2 → (m, e) = (n, d)) →
        decideClass t phase cls = u16 d (if phase = 3 then 10 else 12) / 4 ^ (classPos cls) % 4)

/-- A host's select period: a port that does not serve its host ignores it, an opcode without a shape is denied, an answer comes from the shadow, and a capture waits in the write
buffer; on its release it is denied, allowed or put under review, and nothing of it reaches the flash before it is allowed.
A Warden-own operation starts on the edge after its command is allowed, lands on the flash at the release of its step 2, is polled until the flash is ready or its busy timer ends,
and ends on its ready edge; only the bytes it covers change.
The model's choices that it rests on: log entries 8 and 66. -/
def Obligations.WardenCommands : Prop :=
  (∀ (p : Nat) (s : State), p < 4 →
     (∀ x, s.hostServed p = false → exec (.hostTransaction p x) s = .next s)
     ∧ (∀ x : HostXfer, s.hostServed p = true → overspeed (s.portBody p) x.periodPs = false →
         let u := s.modPort p fun q => { q with armed := false, drove := [] }
         (shapeOf (s.portBody p) x.opcode = none →
           exec (.hostTransaction p x) s
             = .next ((u.modPort p fun q => { q with deniedOpc := satInc 255 q.deniedOpc }).wardenEvent p 0x0702 x.opcode))
         ∧ (∀ sh : Shape, shapeOf (s.portBody p) x.opcode = some sh → guardLate (s.portBody p) x.opcode x.periodPs = false → (wProto (s.portBody p) < 2 ∨ x.extension = 255 - x.opcode) →
             (s.wport p).dead = false →
             (sh.kind = .answer → exec (.hostTransaction p x) s = .next (u.modPort p fun q => { q with drove := q.answer x.opcode x.addr x.dataClocks }))
             ∧ (sh.kind = .swallow → exec (.hostTransaction p x) s = .next (u.modPort p fun q => { q with wel := sh.setsWel }))
             ∧ (sh.kind = .capture → exec (.hostTransaction p x) s = .next (u.capture p x sh (s.wport p).armed))
             ∧ (sh.kind = .passData → exec (.hostTransaction p x) s = .next (u.passData p x sh))
             ∧ (sh.kind = .passReg → exec (.hostTransaction p x) s = .next (u.passReg p x sh))))
     ∧ (∀ x sh armed, (s.capture p x sh armed).wdn.flash = s.wdn.flash ∧ (s.capture p x sh armed).wdn.pool = s.wdn.pool)
     ∧ ((s.wport p).undecided = none → exec (.hostCaptureRelease p) s = .next s)
     ∧ (∀ c, (s.wport p).undecided = some c →
         let u := s.modPort p fun q => { q with undecided := none }
         exec (.hostCaptureRelease p) s = .next ((u.decideCapture p c u.now).decideHeld p u.now)
         ∧ (u.decision p c = 0 → u.decideCapture p c u.now = (u.modPort p fun q => { q with wel := false }).wardenEvent p 0x0706 c.opcode c.decided)
         ∧ (u.decision p c = 1 → u.decideCapture p c u.now = u.modPort p fun q => { q with allowed := some { c with edge := u.now } }))
     ∧ (∀ c, s.inSession 0 = false → s.decision p c = 0)
     ∧ (∀ c, s.redFlag = true → s.decision p c ≠ 2))
  ∧ (∀ (p : Nat) (s : State), p < 4 →
       ((s.wport p).allowed = none → exec (.ownOpStart p) s = .next s)
       ∧ (∀ c, (s.wport p).allowed = some c → c.edge < maxCycle → ∃ t, exec (.ownOpStart p) s = .next t ∧ (t.wport p).allowed = none
           ∧ t.wdn.flash = s.wdn.flash ∧ ∃ op, (t.wport p).op = some op ∧ op.cmd = c ∧ op.landed = false ∧ op.start = max s.now (c.edge + 1))
       ∧ (∀ o, (s.wport p).op = some o → o.ready = none →
           let b := s.portBody p
           let poll := sckCycles b (sckPeriods b ((builtin (wProto b) 0x05).map Prod.snd |>.getD { kind := .answer }) 1)
           let edge := o.release + 4096 * (o.polls + 1) + poll
           (∀ v : Byte, edge < s.busyDeadline p o →
             let u := (s.advanceTo edge).landOp p
             let ready := if v.getLsbD 0 then none else some u.now
             exec (.ownOpPoll p v) s = .next (u.modPort p fun q =>
               { q with sr1 := if v.getLsbD 0 then q.sr1 else v.toNat, op := some { o with landed := true, polls := o.polls + 1, ready := ready } }))
           ∧ (∀ v : Byte, s.busyDeadline p o ≤ edge → v.getLsbD 0 = true → exec (.ownOpPoll p v) s = .next (s.busyExpires p o))
           ∧ exec (.busyTimeout p) s = .next (s.busyExpires p o))
       ∧ (∀ o e status, (s.wport p).op = some o → o.ready = some e → o.failed = false → o.cmd.cls ≠ 4 → o.cmd.cls ≠ 7 →
           let u := (s.advanceTo e).landOp p
           let v := u.modPort p fun q => { q with op := none, wel := false, deepPd := (q.deepPd || decide (o.cmd.opcode = 0xB9)) && decide (o.cmd.opcode ≠ 0xAB) }
           exec (.ownOpReady p status) s = .next ((v.wardenEvent p 0x0705 o.cmd.opcode o.cmd.addr).decideHeld p v.now))
       ∧ ((s.wport p).op = none → (∀ v, exec (.ownOpPoll p v) s = .next s) ∧ ∀ st, exec (.ownOpReady p st) s = .next s)
       ∧ ∀ (b : Bytes) (page : Nat) (c : Captured) (m : Memory) (a : Nat), 0 < page →
           let g := ownRange b page c
           ¬(g.1 ≤ a ∧ a < g.1 + g.2) → mread 0xFF (ownEffect b page c m) a 1 = mread 0xFF m a 1)

/-- WDN.SET_REGION writes the shadow table alone; WDN.COMMIT exchanges the tables and the port retires until no command bound to the old one is undecided, when the live table is
copied; while it retires both are refused. WDN.GET_PORT, WDN.GET_SFDP and WDN.GET_COUNTERS read.
The model's choices that it rests on: log entry 7. -/
def Obligations.WardenTables : Prop :=
  (∀ (r : Req) (o : Outstanding) (s u : State),
    let p := byteAt o.payload 0
    let n := byteAt o.payload 1
    let d := slice o.payload 4 16
    p ≤ 4 → u.portDeclared p = true → u.inSession 0 = true →
    (Runs 0x3001 r o s u → o.fits 20 [(2, 2)] →
      ((u.wport p).retires = true → exec (.wdnSetRegion r) s = .next (u.refuse o 6))
      ∧ ((u.wport p).retires = false →
          (∀ off, regionFault (p = 4) (wLog2 (u.portBody p)) d = some off → exec (.wdnSetRegion r) s = .next (u.malformed o (4 + off)))
          ∧ (regionFault (p = 4) (wLog2 (u.portBody p)) d = none →
              (dType d = 2 → (∃ e ∈ (u.wport p).shadow, dType e.2 = 2 ∧ e.1 ≠ n) → exec (.wdnSetRegion r) s = .next (u.refuse o 7))
              ∧ (dType d ≠ 2 → u.unopposed [objDescriptor p n] →
                  let v := u.takesEffect o.port o.opcode [objDescriptor p n]
                  exec (.wdnSetRegion r) s = .next ((v.modPort p fun q => { q with shadow := tset noDescriptor q.shadow n d }).respond o cOk [])))))
    ∧ (Runs 0x3002 r o s u → o.fits 4 [(1, 3)] →
        u.unopposed [objCommit p] →
        ((u.wport p).retires = true → exec (.wdnCommit r) s = .next (u.refuse o 6))
        ∧ ((u.wport p).retires = false →
            let v := (u.takesEffect o.port o.opcode [objCommit p]).modPort p fun q =>
              { q.bindOld with live := q.shadow, shadow := q.live, retiring := true, commits := satInc 65535 q.commits }
            exec (.wdnCommit r) s = .next (v.respond o cOk (le 8 (baton u.relayEdge (if p = 4 then 7 else 6))))))
    ∧ (Runs 0x3000 r o s u → o.fits 4 [(1, 3)] → (u.wport p).review = none →
        let q := u.wport p
        let flags := b2n (u.runnerOn p) + 2 * b2n q.retires + 8 * b2n q.busy + 16 * b2n q.held.isSome + 32 * b2n q.sfdpOk
        exec (.wdnGetPort r) s = .next (u.respond o cOk (le 1 p ++ le 1 (u.phaseOf p) ++ le 1 flags ++ le 1 0xFF ++ le 2 q.reviewNo ++ le 1 0 ++ zeros 1
          ++ le 4 0 ++ le 4 0 ++ le 2 (u.pinCounts p).1 ++ le 2 (u.pinCounts p).2.1 ++ le 2 (u.pinCounts p).2.2 ++ le 2 q.commits ++ le 8 q.phaseBaton)))
    ∧ (Runs 0x3006 r o s u → o.fits 8 [(1, 1), (6, 2)] → u16 o.payload 2 ≤ 255 → 1 ≤ u16 o.payload 4 → u16 o.payload 2 + u16 o.payload 4 ≤ 256 →
        (u.wport p).holdDone = true →
        let q := u.wport p
        exec (.wdnGetSfdp r) s = .next (u.respond o cOk (le 1 p ++ le 1 (wProto (u.portBody p)) ++ le 1 (b2n q.sfdpOk) ++ le 1 q.fault ++ sized 8 q.ident
          ++ zeros 4 ++ slice (sized 256 q.sfdp) (u16 o.payload 2) (u16 o.payload 4))))
    ∧ (Runs 0x3004 r o s u → o.fits 4 [(1, 3)] →
        exec (.wdnGetCounters r) s = .next (u.respond o cOk (le 4 (u.wdnWcnt p) ++ le 4 (u.wdnRcnt p) ++ le 4 (u.wdnPin p) ++ le 4 (u.wdnPhase p)))))
  ∧ ∀ (p : Nat) (s : State), p < 5 →
      ((s.wport p).retiring = true → (s.wport p).oldBound = false →
        exec (.retireEnd p) s = .next (s.modPort p fun q => { q with retiring := false, shadow := q.live, copying := some (s.now + 512) }))
      ∧ ((s.wport p).retiring = true → (s.wport p).oldBound = true → exec (.retireEnd p) s = .next s)
      ∧ (∀ e, (s.wport p).copying = some e → exec (.shadowCopyDone p) s = .next ((s.advanceTo e).modPort p fun q => { q with copying := none }))
      ∧ ((s.wport p).copying = none → exec (.shadowCopyDone p) s = .next s)

/-- A review answered before its timer's terminal edge resolves as answered; on that edge or later the expiry comes first: the review resolves DENY by expiry, the answer is logged
LATE_AT_EXPIRY and its command completes REFUSED_STATE 0x0005 (R430). One that names no open review is refused 0x0005 or 0x0004 (R421). -/
def Obligations.WardenReviews : Prop :=
  (∀ (r : Req) (o : Outstanding) (s u : State), Runs 0x3003 r o s u → o.fits 4 [] →
    let p := byteAt o.payload 0
    let n := u16 o.payload 2
    p ≤ 3 → byteAt o.payload 1 ≤ 1 → u.portDeclared p = true → u.inSession 0 = true → (byteAt o.payload 1 = 1 → u.redRefuses o = false) → u.unopposed (objReview p n :: if byteAt o.payload 1 = 1 then o.lockObjs else []) →
      (∀ v, (u.wport p).review = some v → (u.wport p).reviewNo = n →
        (v.deadline ≤ u.relayEdge →
          let d := u.denyReview p 0x070C v.deadline true
          ∃ rec' : Rec, rec'.late = true ∧ rec'.code = (if byteAt o.payload 1 = 1 then 0x070A else 0x070B)
            ∧ exec (.wdnReviewAnswer r) s = .next ((d.putRec rec').refuse o 5))
        ∧ (u.relayEdge < v.deadline → byteAt o.payload 1 = 1 →
            let w := (u.takesEffect o.port o.opcode [objReview p n]).modPort p fun q =>
              { q with review := none, allowed := some { v.cmd with edge := u.relayEdge }, approved := satInc 255 q.approved }
            exec (.wdnReviewAnswer r) s = .next ((w.wardenAt u.relayEdge p 0x070A v.cmd.opcode v.addr n).respond o cOk (le 8 (baton u.relayEdge 6))))
        ∧ (u.relayEdge < v.deadline → byteAt o.payload 1 = 0 →
            exec (.wdnReviewAnswer r) s = .next (((u.takesEffect o.port o.opcode [objReview p n]).denyReview p 0x070B u.relayEdge false).respond o cOk
              (le 8 (baton u.relayEdge 6)))))
      ∧ (∀ v, (u.wport p).review = some v → (u.wport p).reviewNo ≠ n → exec (.wdnReviewAnswer r) s = .next (u.refuse o 4))
      ∧ ((u.wport p).review = none →
          ((u.wport p).reviewNo = n → (u.wport p).reviewExpired = true → n ≠ 0 → exec (.wdnReviewAnswer r) s = .next (u.refuse o 5))
          ∧ ((u.wport p).reviewNo ≠ n ∨ (u.wport p).reviewExpired = false → exec (.wdnReviewAnswer r) s = .next (u.refuse o 4))))
  ∧ ∀ (p : Nat) (s : State), p < 4 →
      (∀ v, (s.wport p).review = some v → (s.wport p).held = none → ∃ t, exec (.reviewExpiry p) s = .next t ∧ (t.wport p).review = none
          ∧ (t.wport p).reviewExpired = true ∧ (t.wport p).expired = satInc 255 (s.wport p).expired)

/-! ## Chapter 12: mending and attesting -/

/-- A recovery: the next of the queue starts when Warden R is free; its outcome, or its limit, ends it, with its record, its platform settled or its ticket answered; RCV.MEND queues one
under a ticket; RCV.GET_POLICY and RCV.GET_STATUS read.
The updates: an ERASE of a golden window, and of the Keeper's, leaves 0xFF in it and every other byte of the recovery flash as it was; an INSTALL of the staged image answers a ticket,
holds the platforms and orders the restart. Each is refused while another job of Warden R runs.
The model's choices that it rests on: log entries 25 and 50. -/
def Obligations.RecoveriesAndUpdates : Prop :=
  ((∀ s : State,
     (s.wdn.queue = [] → exec .recoveryStart s = .next s)
     ∧ (s.wardenRBusy = true ∨ s.inSession 0 = false ∨ s.lockstep = true ∨ s.restarting = true → exec .recoveryStart s = .next s)
     ∧ (∀ r, nextRecovery s.wdn.queue = some r → r.policy ≠ 1 → r.ticket.isSome = true → s.wardenRBusy = false → s.log.store.writing = none →
         s.inSession 0 = true → s.domainOn (dWarden 4) = true → s.lockstep = false → s.restarting = false →
         let u := s.readDirectory.modWdn fun w => { w with queue := w.queue.erase r, running := some { r with start := s.readDirectory.now } }
         exec .recoveryStart s
           = .next (u.modRcv r.plat fun k => { outcome := 1, image := r.image, attempts := satInc 65535 k.attempts }))
     ∧ (s.wdn.running = none → exec .recoveryOutcome s = .next s ∧ exec .recoveryLimitExpiry s = .next s)
     ∧ (∀ r, s.wdn.running = some r →
         exec .recoveryLimitExpiry s = .next ((s.advanceTo (r.start + 2 ^ 38)).endRecovery r { outcome := 0x19 })
         ∧ (r.start + 2 ^ 38 ≤ s.now →
             exec .recoveryOutcome s = .next ((s.endRecovery r { outcome := 0x19 }).eventLate 2 0 0x0601 (r.image + 256 * r.plat)))
         ∧ (s.now < r.start + 2 ^ 38 → r.stopped = 0 → r.lost = false →
             exec .recoveryOutcome s = .next (match s.recoveryEnds r with
               | none => s
               | some (m, t) => t.endRecovery r m))
         ∧ (s.golden (iGolden (s.imageRec r.plat r.image)) = none → s.recoveryEnds r = some ({ outcome := 0x10 }, s))))
   ∧ ∀ (r : Req) (o : Outstanding) (s u : State),
       let p := byteAt o.payload 0
       let i := byteAt o.payload 1
       (Runs 0x8001 r o s u → o.fits 4 [(3, 1)] → p ≤ 3 → byteAt o.payload 2 = 1 → u.hasBoot p = true → i < u.imageCount p →
         iGolden (u.imageRec p i) ≠ 0xFF → u.portDeclared 4 = true → u.flc.closed = true → u.unopposed (objReset p :: o.lockObjs) →
         (u.redRefuses o = true → exec (.rcvMend r) s = .next (u.refuse o 0x40))
         ∧ (u.redRefuses o = false → (u.wport (u.bootPort p)).phase = 1 → u.imagesFinal p = true → u.heldLow p = true → u.wardenRBusy = false → u.wdn.queue = [] →
             (u.wdn.runners.any fun x => x.plat ≠ p) = false → u.boot.log.length < 255 → u.draining dCrypto = false →
             u.domainOn dCrypto = true →
             let v := ((u.takesEffect o.port o.opcode [objReset p]).ticketed o cDeferred []).2
             let rc : Recovery := { plat := p, image := i, policy := 2, edge := v.now, ticket := some u.paths.nextTicket }
             exec (.rcvMend r) s = .next ((v.modWdn fun w => { w with queue := w.queue ++ [rc] }).modRcv p fun x => { x with outcome := 2, image := i })))
       ∧ (Runs 0x8000 r o s u → o.fits 4 [(1, 3)] → p ≤ 3 → u.hasBoot p = true → u.imageCount p = 0 → u.wdn.dirValid = false →
           exec (.rcvGetPolicy r) s = .next (u.respond o cOk (le 1 p ++ le 1 0 ++ le 1 (u.bootPort p) ++ le 1 0xFF)))
       ∧ (Runs 0x8000 r o s u → o.fits 4 [(1, 3)] → p ≤ 3 → u.hasBoot p = false → exec (.rcvGetPolicy r) s = .next (u.refuse o 1))
       ∧ (Runs 0x8004 r o s u → o.fits 0 [] →
           exec (.rcvGetStatus r) s = .next (u.respond o cOk (le 4 u.rcvStat ++ le 4 (if u.wdn.dirValid then u.wdn.dirGen else 0)
             ++ (List.range 4).flatMap fun k => le 4 (u.rcvPlat k) ++ le 4 (u.mendTicket k)))))
  ∧ (∀ (r : Req) (o : Outstanding) (s u : State),
       let b := o.payload
       let ended (v : State) := (v.ticketed o cDeferred []).2.settleTicket v.paths.nextTicket
       (Runs 0x8002 r o s u → o.fits 20 [(0, 4), (8, 2), (11, 5)] → 16 ≤ byteAt b 10 → byteAt b 10 ≤ 28 → u.portDeclared 4 = true → u.flc.closed = true →
         (u.wardenRTaken = true → exec (.rcvUpdateGolden r) s = .next (u.refuse o 2))
         ∧ (u.wardenRTaken = false → u32 b 16 % 2 ^ byteAt b 10 = 0 → 0x200000 ≤ u32 b 16 → u32 b 16 + 2 ^ byteAt b 10 ≤ u.recoverySize →
             u.windowTaken (fun _ => true) (u32 b 16) (2 ^ byteAt b 10) = false → u.inSession 0 = true →
             let v := u.readDirectory
             (v.recoveryAllows 2 (u32 b 16) (2 ^ byteAt b 10) = false → exec (.rcvUpdateGolden r) s = .next (ended v cState (le 2 0x000B ++ zeros 2)))
             ∧ (v.recoveryAllows 2 (u32 b 16) (2 ^ byteAt b 10) = true →
                 exec (.rcvUpdateGolden r) s = .next (ended (v.setFlash 4 (mclear (v.flash 4) (u32 b 16) (2 ^ byteAt b 10))) cOk []))))
       ∧ (Runs 0x8003 r o s u → o.fits 12 [(0, 4), (8, 4)] → u.portDeclared 4 = true → u.flc.closed = true → u.wdn.running = none → u.wdn.queue = [] →
           u.wdn.runners = [] → u.wdn.install = none → u.inSession 0 = true →
           let v := u.readDirectory.modWdn fun w => { w with staged := none }
           (v.recoveryAllows 2 0x100000 0x100000 = false → exec (.rcvUpdateKeeper r) s = .next (ended v cState (le 2 0x000B ++ zeros 2)))
           ∧ (v.recoveryAllows 2 0x100000 0x100000 = true →
               exec (.rcvUpdateKeeper r) s = .next (ended (v.setFlash 4 (mclear (v.flash 4) 0x100000 0x100000)) cOk [])))
       ∧ (Runs 0x8003 r o s u → o.fits 60 [(0, 4), (9, 3)] → byteAt b 8 = 2 → u.portDeclared 4 = true → u.flc.closed = true → u.wdn.running = none →
           u.wdn.queue = [] → u.wdn.runners = [] → u.wdn.install = none →
           (u.wdn.staged = none → exec (.rcvUpdateKeeper r) s = .next (u.refuse o 8))
           ∧ (∀ ver, u.wdn.staged = some (ver, slice b 12 48) → u.inSession 0 = true → u.draining dCrypto = false → u.domainOn dCrypto = true →
               let v := (u.readDirectory.ticketed o cDeferred []).2
               exec (.rcvUpdateKeeper r) s = .next (v.modWdn fun w => { w with install := some u.readDirectory.paths.nextTicket }).restartBegins))
       ∧ ∀ (m : Memory) (a n x : Nat), mread 0xFF (mclear m a n) x 1 = if a ≤ x ∧ x < a + n then [0xFF] else mread 0xFF m x 1)

/-- Attestation: ATT.QUOTE signs the state as it stands with the Alias key over the nonce it was given, ATT.GET_LOG and ATT.GET_CERT deliver their data in bulk, and ATT.SPDM answers one request
with one response; FEATURES may switch the last off.
The model's choices that it rests on: log entry 17. -/
def Obligations.Attestation : Prop :=
  ∀ (r : Req) (o : Outstanding) (s u : State),
    (Runs 0x7000 r o s u → o.fits 32 [] → u.draining dCrypto = false → u.domainOn dCrypto = true →
      let signed := u.aliasSign (sha (ascii "TXI-QTE" ++ u.quoteBody o))
      exec (.attQuote r) s = .next (signed.2.respond o cOk (u.quoteBody o ++ signed.1)))
    ∧ (Runs 0x7000 r o s u → o.fits 32 [] → u.draining dCrypto = false → u.domainOn dCrypto = false → exec (.attQuote r) s = .next (u.refuse o 0x10))
    ∧ (Runs 0x7001 r o s u → o.fits 8 [(0, 4)] → exec (.attGetLog r) s = .next (u.bulkOut o u.measurementLog []))
    ∧ (Runs 0x7002 r o s u → o.fits 12 [(0, 4), (9, 3)] → byteAt o.payload 8 ≤ 4 →
        (byteAt o.payload 8 = 3 → u.flc.closed = false → exec (.attGetCert r) s = .next (u.refuse o 6))
        ∧ (byteAt o.payload 8 < 3 ∨ (byteAt o.payload 8 = 3 ∧ u.flc.closed = true) →
            exec (.attGetCert r) s = .next (u.bulkOut o (u.certificate (byteAt o.payload 8)) []))
        ∧ (byteAt o.payload 8 = 4 → exec (.attGetCert r) s = .next (u.bulkOut o u.spdmChain [])))
    ∧ (Runs 0x7003 r o s u →
        (u.featureOff 3 = true → exec (.attSpdm r) s = .next (u.refuse o 0xFE))
        ∧ (u.featureOff 3 = false →
            let key := o.port.index * 8 + o.session
            let a := (u.draw 32).2.spdmAnswer o.payload (u.draw 32).1 (tget {} u.wdn.spdm key)
            let v := (u.draw 32).2.modWdn fun w => { w with spdm := tset {} w.spdm key a.next }
            (a.signed = none → exec (.attSpdm r) s = .next (v.respond o cOk a.response))
            ∧ (∀ text context, a.signed = some (text, context) → u.draining dCrypto = false → u.domainOn dCrypto = true →
                let sig := v.aliasSign (spdmSigned text context)
                exec (.attSpdm r) s = .next (sig.2.respond o cOk (a.response ++ sig.1)))))
end

