-- ==== Sys2Proof/Laws/Store.lean ====
section
/-! SUPPORT. The laws of sparse tables and memories: read after write, and that every operation keeps the canonical form. -/

namespace Sys2Proof.Machine

theorem tget_tins {α : Type} (d : α) (m : Sparse α) (i j : Nat) (w : α) :
    tget d (tins m i w) j = if j = i then w else tget d m j := by
  induction m with
  | nil => by_cases h : i = j <;> simp [tins, tget, h, Ne.symm]
  | cons c m ih =>
    obtain ⟨k, v⟩ := c
    by_cases hj : j = i
    · subst hj
      by_cases h1 : j < k
      · simp [tins, h1, tget]
      · by_cases h2 : j = k
        · simp [tins, h2, tget]
        · simp [tins, h1, h2, tget, ih, Ne.symm h2]
    · by_cases h1 : i < k
      · simp [tins, h1, tget, hj, Ne.symm hj]
      · by_cases h2 : i = k
        · subst h2; simp [tins, tget, hj, Ne.symm hj]
        · simp [tins, h1, h2, tget, ih, hj]

theorem tget_tdel {α : Type} (d : α) (m : Sparse α) (i j : Nat) :
    tget d (tdel m i) j = if j = i then d else tget d m j := by
  induction m with
  | nil => simp [tdel, tget]
  | cons c m ih =>
    obtain ⟨k, v⟩ := c
    by_cases h : k = i <;> by_cases hj : j = i <;> by_cases hk : k = j <;> simp_all [tdel, tget]

/-- A read after a write: the key written reads the value written, and every other key reads as before. -/
theorem tget_tset {α : Type} [DecidableEq α] (d : α) (m : Sparse α) (i j : Nat) (w : α) :
    tget d (tset d m i w) j = if j = i then w else tget d m j := by
  unfold tset
  split
  · rename_i h; subst h; exact tget_tdel w m i j
  · exact tget_tins d m i j w

theorem twfFrom_mono {α : Type} [DecidableEq α] (d : α) (m : Sparse α) (a b : Nat) (hab : a ≤ b)
    (h : twfFrom d (some b) m = true) : twfFrom d (some a) m = true := by
  cases m with
  | nil => rfl
  | cons c m => simp [twfFrom] at h ⊢; exact ⟨⟨by omega, h.1.2⟩, h.2⟩

theorem twfFrom_none {α : Type} [DecidableEq α] (d : α) (m : Sparse α) (a : Nat)
    (h : twfFrom d (some a) m = true) : twfFrom d none m = true := by
  cases m with
  | nil => rfl
  | cons c m => simp [twfFrom] at h ⊢; exact ⟨h.1.2, h.2⟩

theorem twfFrom_tail {α : Type} [DecidableEq α] {d : α} {lo : Option Nat} {c : Nat × α} {m : Sparse α}
    (h : twfFrom d lo (c :: m) = true) : twfFrom d (some c.1) m = true := by
  simp [twfFrom] at h; exact h.2

theorem twfFrom_tdel {α : Type} [DecidableEq α] (d : α) (m : Sparse α) (i : Nat) (lo : Option Nat)
    (h : twfFrom d lo m = true) : twfFrom d lo (tdel m i) = true := by
  induction m generalizing lo with
  | nil => exact h
  | cons c m ih =>
    obtain ⟨k, v⟩ := c
    have ht := twfFrom_tail h
    unfold tdel
    split
    · have := ih (some k) ht
      cases lo with
      | none => exact twfFrom_none d _ k this
      | some l => simp [twfFrom] at h; exact twfFrom_mono d _ l k (by omega) this
    · simp only [twfFrom, Bool.and_eq_true] at h ⊢
      exact ⟨h.1, ih (some k) ht⟩

theorem twfFrom_tins {α : Type} [DecidableEq α] (d : α) (m : Sparse α) (i : Nat) (w : α) (lo : Option Nat) (hw : w ≠ d)
    (hlo : ∀ l, lo = some l → l < i) (h : twfFrom d lo m = true) : twfFrom d lo (tins m i w) = true := by
  induction m generalizing lo with
  | nil => cases lo <;> simp_all [tins, twfFrom]
  | cons c m ih =>
    obtain ⟨k, v⟩ := c
    have ht := twfFrom_tail h
    unfold tins
    split
    · cases lo <;> simp_all [twfFrom]
    · split
      · cases lo <;> simp_all [twfFrom]
      · simp only [twfFrom, Bool.and_eq_true] at h ⊢
        exact ⟨h.1, ih (some k) (by intro l hl; injection hl; omega) ht⟩

/-- A write keeps the canonical form. -/
theorem twf_tset {α : Type} [DecidableEq α] (d : α) (m : Sparse α) (i : Nat) (w : α) (h : twf d m = true) :
    twf d (tset d m i w) = true := by
  unfold tset twf at *
  split
  · exact twfFrom_tdel d m i none h
  · rename_i hw; exact twfFrom_tins d m i w none hw (by simp) h

/-- A write of a byte string keeps the canonical form. -/
theorem wf_mwrite (d : Byte) (m : Memory) (a : Nat) (bs : Bytes) (h : Memory.wf d m = true) : Memory.wf d (mwrite d m a bs) = true := by
  induction bs generalizing m a with
  | nil => exact h
  | cons b bs ih => exact ih _ _ (twf_tset d m a b h)

/-- What a written byte string reads as: its own bytes inside its range, and everything else as before. -/
theorem tget_mwrite (d : Byte) (m : Memory) (a : Nat) (bs : Bytes) (j : Nat) :
    tget d (mwrite d m a bs) j = if a ≤ j ∧ j < a + bs.length then bs.getD (j - a) 0 else tget d m j := by
  induction bs generalizing m a with
  | nil => rw [mwrite, if_neg (by simp)]
  | cons b bs ih =>
    simp only [mwrite, ih, tget_tset, List.length_cons]
    by_cases h0 : j = a
    · subst h0; simp
    · by_cases h1 : a + 1 ≤ j ∧ j < a + 1 + bs.length
      · rw [if_pos h1, if_pos (by omega)]
        obtain ⟨n, hn⟩ : ∃ n, j - a = n + 1 := ⟨j - a - 1, by omega⟩
        rw [hn, show j - (a + 1) = n by omega]; rfl
      · rw [if_neg h1, if_neg h0, if_neg (by omega)]

theorem twfFrom_filter {α : Type} [DecidableEq α] (d : α) (p : Nat × α → Bool) (m : Sparse α) (lo : Option Nat)
    (h : twfFrom d lo m = true) : twfFrom d lo (m.filter p) = true := by
  induction m generalizing lo with
  | nil => exact h
  | cons c m ih =>
    have ht := twfFrom_tail h
    simp only [List.filter_cons]
    split
    · simp only [twfFrom, Bool.and_eq_true] at h ⊢
      exact ⟨h.1, ih _ ht⟩
    · have := ih (some c.1) ht
      cases lo with
      | none => exact twfFrom_none d _ c.1 this
      | some l => simp [twfFrom] at h; exact twfFrom_mono d _ l c.1 (by omega) this

/-- A range cleared keeps the canonical form. -/
theorem wf_mclear (d : Byte) (m : Memory) (a n : Nat) (h : Memory.wf d m = true) : Memory.wf d (mclear m a n) = true :=
  twfFrom_filter d _ m none h

/-- The empty memory is in canonical form. -/
theorem wf_nil (d : Byte) : Memory.wf d [] = true := rfl

end Sys2Proof.Machine
end

