-- ==== Sys2Proof/Laws/Crypto.lean ====
section
/-! SUPPORT. What the shared cryptographic operations give whatever the uninterpreted primitives are: lengths, and that what is sealed
opens. -/

namespace Sys2Proof.Machine

@[simp] theorem sized_length (n : Nat) (b : Bytes) : (sized n b).length = n := by simp [sized, zeros]
@[simp] theorem fit_length (n : Nat) (f : Nat → Byte) : (fit n f).length = n := by simp [fit]
@[simp] theorem xorBytes_length (a b : Bytes) : (xorBytes a b).length = min a.length b.length := by simp [xorBytes]

theorem le_length (n v : Nat) : (le n v).length = n := by
  induction n generalizing v with
  | zero => rfl
  | succ n ih => simp [le, ih]

theorem be_length (n v : Nat) : (be n v).length = n := by simp [be, le_length]

@[simp] theorem hashOf_length (alg : Nat) (b : Bytes) : (hashOf alg b).length = hashLen alg := sized_length ..
@[simp] theorem sha_length (b : Bytes) : (sha b).length = 48 := sized_length ..
@[simp] theorem hmac_length (key b : Bytes) : (hmac key b).length = 48 := sized_length ..
@[simp] theorem aes_length (key b : Bytes) : (aes key b).length = 16 := sized_length ..
@[simp] theorem gcmTag_length (key iv aad ct : Bytes) : (gcmTag key iv aad ct).length = 16 := by simp [gcmTag, be_length]

@[simp] theorem counterBlocks_length (key : Bytes) (k v : Nat) : (counterBlocks key k v).length = 16 * k := by
  induction k generalizing v with
  | zero => rfl
  | succ k ih => simp [counterBlocks, ih]; omega

@[simp] theorem gcmStream_length (key iv : Bytes) (n : Nat) : (gcmStream key iv n).length = n := by
  simp [gcmStream, ceilDiv]; omega

/-- A generate request delivers the bytes asked for. -/
@[simp] theorem deliver_length (n : Nat) (c : Crypto) : (c.deliver n).1.length = n := by
  simp [Crypto.deliver, ceilDiv]; omega

/-- A string masked twice with one mask as long is itself. -/
theorem xorBytes_xorBytes (a m : Bytes) (h : a.length ≤ m.length) : xorBytes (xorBytes a m) m = a := by
  induction a generalizing m with
  | nil => simp [xorBytes]
  | cons x a ih =>
    cases m with
    | nil => simp at h
    | cons y m =>
      have := ih m (by simpa using h)
      simp only [xorBytes, List.zipWith_cons_cons] at this ⊢
      rw [this, BitVec.xor_assoc, BitVec.xor_self, BitVec.xor_zero]

/-- What GCM seals opens to the text that was sealed. -/
theorem gcmOpen_gcmSeal (key iv aad text : Bytes) :
    gcmOpen key iv aad (gcmSeal key iv aad text).1 (gcmSeal key iv aad text).2 = some text := by
  simp only [gcmSeal, gcmOpen, if_true, Option.some.injEq]
  have h : (xorBytes text (gcmStream key iv text.length)).length = text.length := by simp
  rw [h]
  exact xorBytes_xorBytes _ _ (by simp)

/-- Every key, IV, associated data and ciphertext has a tag that verifies and one that does not. -/
theorem gcm_tags (key iv aad ct : Bytes) :
    (∃ tag text, tag.length = 16 ∧ gcmOpen key iv aad ct tag = some text) ∧ ∃ tag, tag.length = 16 ∧ gcmOpen key iv aad ct tag = none := by
  constructor
  · exact ⟨_, _, gcmTag_length .., if_pos rfl⟩
  · by_cases h : zeros 16 = gcmTag key iv aad ct
    · refine ⟨List.replicate 16 1, rfl, if_neg ?_⟩
      rw [← h]; decide
    · exact ⟨zeros 16, rfl, if_neg h⟩

/-- A generate request leaves the slots alone. -/
@[simp] theorem generate_flc (n : Nat) (s : State) : (s.generate n).2.flc = s.flc := by
  unfold State.generate
  dsimp only
  split <;> rfl

/-- Filling a slot leaves every other alone. -/
theorem fillSlot_slot {m n : Nat} (h : n ≠ m) (attr port : Nat) (key : Bytes) (s : State) : (s.fillSlot m attr port key).slot n = s.slot n := by
  simp only [State.fillSlot, State.slot, State.draw, State.modFlc]
  rw [tget_tset, if_neg h]

end Sys2Proof.Machine
end

