-- ==== Sys2Proof/Laws/State.lean ====
section
/-! SUPPORT. One lemma per field and update of a component: what a component update changes, and that it changes nothing else. -/

namespace Sys2Proof.Machine

variable (s : State)

@[simp] theorem State.modClk_part (f : Clock → Clock) : (s.modClk f).part = s.part := rfl
@[simp] theorem State.modClk_clk (f : Clock → Clock) : (s.modClk f).clk = f s.clk := rfl
@[simp] theorem State.modClk_cores (f : Clock → Clock) : (s.modClk f).cores = s.cores := rfl
@[simp] theorem State.modClk_paths (f : Clock → Clock) : (s.modClk f).paths = s.paths := rfl
@[simp] theorem State.modClk_mb (f : Clock → Clock) : (s.modClk f).mb = s.mb := rfl
@[simp] theorem State.modClk_svc (f : Clock → Clock) : (s.modClk f).svc = s.svc := rfl
@[simp] theorem State.modClk_stw (f : Clock → Clock) : (s.modClk f).stw = s.stw := rfl
@[simp] theorem State.modClk_cus (f : Clock → Clock) : (s.modClk f).cus = s.cus := rfl
@[simp] theorem State.modClk_log (f : Clock → Clock) : (s.modClk f).log = s.log := rfl
@[simp] theorem State.modClk_pwr (f : Clock → Clock) : (s.modClk f).pwr = s.pwr := rfl
@[simp] theorem State.modClk_nose (f : Clock → Clock) : (s.modClk f).nose = s.nose := rfl
@[simp] theorem State.modClk_frm (f : Clock → Clock) : (s.modClk f).frm = s.frm := rfl
@[simp] theorem State.modClk_fus (f : Clock → Clock) : (s.modClk f).fus = s.fus := rfl
@[simp] theorem State.modClk_vlt (f : Clock → Clock) : (s.modClk f).vlt = s.vlt := rfl
@[simp] theorem State.modClk_flc (f : Clock → Clock) : (s.modClk f).flc = s.flc := rfl
@[simp] theorem State.modClk_cry (f : Clock → Clock) : (s.modClk f).cry = s.cry := rfl
@[simp] theorem State.modClk_boot (f : Clock → Clock) : (s.modClk f).boot = s.boot := rfl
@[simp] theorem State.modClk_wdn (f : Clock → Clock) : (s.modClk f).wdn = s.wdn := rfl
@[simp] theorem State.modClk_lanes (f : Clock → Clock) : (s.modClk f).lanes = s.lanes := rfl
@[simp] theorem State.modClk_pcr (f : Clock → Clock) : (s.modClk f).pcr = s.pcr := rfl
@[simp] theorem State.modClk_banks (f : Clock → Clock) : (s.modClk f).banks = s.banks := rfl
@[simp] theorem State.modClk_comps (f : Clock → Clock) : (s.modClk f).comps = s.comps := rfl
@[simp] theorem State.modClk_net (f : Clock → Clock) : (s.modClk f).net = s.net := rfl
@[simp] theorem State.modClk_links (f : Clock → Clock) : (s.modClk f).links = s.links := rfl
@[simp] theorem State.modClk_free (f : Clock → Clock) : (s.modClk f).free = s.free := rfl
@[simp] theorem State.modClk_random (f : Clock → Clock) : (s.modClk f).random = s.random := rfl
@[simp] theorem State.modClk_pending (f : Clock → Clock) : (s.modClk f).pending = s.pending := rfl

@[simp] theorem State.modCores_part (f : Cores → Cores) : (s.modCores f).part = s.part := rfl
@[simp] theorem State.modCores_clk (f : Cores → Cores) : (s.modCores f).clk = s.clk := rfl
@[simp] theorem State.modCores_cores (f : Cores → Cores) : (s.modCores f).cores = f s.cores := rfl
@[simp] theorem State.modCores_paths (f : Cores → Cores) : (s.modCores f).paths = s.paths := rfl
@[simp] theorem State.modCores_mb (f : Cores → Cores) : (s.modCores f).mb = s.mb := rfl
@[simp] theorem State.modCores_svc (f : Cores → Cores) : (s.modCores f).svc = s.svc := rfl
@[simp] theorem State.modCores_stw (f : Cores → Cores) : (s.modCores f).stw = s.stw := rfl
@[simp] theorem State.modCores_cus (f : Cores → Cores) : (s.modCores f).cus = s.cus := rfl
@[simp] theorem State.modCores_log (f : Cores → Cores) : (s.modCores f).log = s.log := rfl
@[simp] theorem State.modCores_pwr (f : Cores → Cores) : (s.modCores f).pwr = s.pwr := rfl
@[simp] theorem State.modCores_nose (f : Cores → Cores) : (s.modCores f).nose = s.nose := rfl
@[simp] theorem State.modCores_frm (f : Cores → Cores) : (s.modCores f).frm = s.frm := rfl
@[simp] theorem State.modCores_fus (f : Cores → Cores) : (s.modCores f).fus = s.fus := rfl
@[simp] theorem State.modCores_vlt (f : Cores → Cores) : (s.modCores f).vlt = s.vlt := rfl
@[simp] theorem State.modCores_flc (f : Cores → Cores) : (s.modCores f).flc = s.flc := rfl
@[simp] theorem State.modCores_cry (f : Cores → Cores) : (s.modCores f).cry = s.cry := rfl
@[simp] theorem State.modCores_boot (f : Cores → Cores) : (s.modCores f).boot = s.boot := rfl
@[simp] theorem State.modCores_wdn (f : Cores → Cores) : (s.modCores f).wdn = s.wdn := rfl
@[simp] theorem State.modCores_lanes (f : Cores → Cores) : (s.modCores f).lanes = s.lanes := rfl
@[simp] theorem State.modCores_pcr (f : Cores → Cores) : (s.modCores f).pcr = s.pcr := rfl
@[simp] theorem State.modCores_banks (f : Cores → Cores) : (s.modCores f).banks = s.banks := rfl
@[simp] theorem State.modCores_comps (f : Cores → Cores) : (s.modCores f).comps = s.comps := rfl
@[simp] theorem State.modCores_net (f : Cores → Cores) : (s.modCores f).net = s.net := rfl
@[simp] theorem State.modCores_links (f : Cores → Cores) : (s.modCores f).links = s.links := rfl
@[simp] theorem State.modCores_free (f : Cores → Cores) : (s.modCores f).free = s.free := rfl
@[simp] theorem State.modCores_random (f : Cores → Cores) : (s.modCores f).random = s.random := rfl
@[simp] theorem State.modCores_pending (f : Cores → Cores) : (s.modCores f).pending = s.pending := rfl

@[simp] theorem State.modPaths_part (f : Paths → Paths) : (s.modPaths f).part = s.part := rfl
@[simp] theorem State.modPaths_clk (f : Paths → Paths) : (s.modPaths f).clk = s.clk := rfl
@[simp] theorem State.modPaths_cores (f : Paths → Paths) : (s.modPaths f).cores = s.cores := rfl
@[simp] theorem State.modPaths_paths (f : Paths → Paths) : (s.modPaths f).paths = f s.paths := rfl
@[simp] theorem State.modPaths_mb (f : Paths → Paths) : (s.modPaths f).mb = s.mb := rfl
@[simp] theorem State.modPaths_svc (f : Paths → Paths) : (s.modPaths f).svc = s.svc := rfl
@[simp] theorem State.modPaths_stw (f : Paths → Paths) : (s.modPaths f).stw = s.stw := rfl
@[simp] theorem State.modPaths_cus (f : Paths → Paths) : (s.modPaths f).cus = s.cus := rfl
@[simp] theorem State.modPaths_log (f : Paths → Paths) : (s.modPaths f).log = s.log := rfl
@[simp] theorem State.modPaths_pwr (f : Paths → Paths) : (s.modPaths f).pwr = s.pwr := rfl
@[simp] theorem State.modPaths_nose (f : Paths → Paths) : (s.modPaths f).nose = s.nose := rfl
@[simp] theorem State.modPaths_frm (f : Paths → Paths) : (s.modPaths f).frm = s.frm := rfl
@[simp] theorem State.modPaths_fus (f : Paths → Paths) : (s.modPaths f).fus = s.fus := rfl
@[simp] theorem State.modPaths_vlt (f : Paths → Paths) : (s.modPaths f).vlt = s.vlt := rfl
@[simp] theorem State.modPaths_flc (f : Paths → Paths) : (s.modPaths f).flc = s.flc := rfl
@[simp] theorem State.modPaths_cry (f : Paths → Paths) : (s.modPaths f).cry = s.cry := rfl
@[simp] theorem State.modPaths_boot (f : Paths → Paths) : (s.modPaths f).boot = s.boot := rfl
@[simp] theorem State.modPaths_wdn (f : Paths → Paths) : (s.modPaths f).wdn = s.wdn := rfl
@[simp] theorem State.modPaths_lanes (f : Paths → Paths) : (s.modPaths f).lanes = s.lanes := rfl
@[simp] theorem State.modPaths_pcr (f : Paths → Paths) : (s.modPaths f).pcr = s.pcr := rfl
@[simp] theorem State.modPaths_banks (f : Paths → Paths) : (s.modPaths f).banks = s.banks := rfl
@[simp] theorem State.modPaths_comps (f : Paths → Paths) : (s.modPaths f).comps = s.comps := rfl
@[simp] theorem State.modPaths_net (f : Paths → Paths) : (s.modPaths f).net = s.net := rfl
@[simp] theorem State.modPaths_links (f : Paths → Paths) : (s.modPaths f).links = s.links := rfl
@[simp] theorem State.modPaths_free (f : Paths → Paths) : (s.modPaths f).free = s.free := rfl
@[simp] theorem State.modPaths_random (f : Paths → Paths) : (s.modPaths f).random = s.random := rfl
@[simp] theorem State.modPaths_pending (f : Paths → Paths) : (s.modPaths f).pending = s.pending := rfl

@[simp] theorem State.modMb_part (f : Mailbox → Mailbox) : (s.modMb f).part = s.part := rfl
@[simp] theorem State.modMb_clk (f : Mailbox → Mailbox) : (s.modMb f).clk = s.clk := rfl
@[simp] theorem State.modMb_cores (f : Mailbox → Mailbox) : (s.modMb f).cores = s.cores := rfl
@[simp] theorem State.modMb_paths (f : Mailbox → Mailbox) : (s.modMb f).paths = s.paths := rfl
@[simp] theorem State.modMb_mb (f : Mailbox → Mailbox) : (s.modMb f).mb = f s.mb := rfl
@[simp] theorem State.modMb_svc (f : Mailbox → Mailbox) : (s.modMb f).svc = s.svc := rfl
@[simp] theorem State.modMb_stw (f : Mailbox → Mailbox) : (s.modMb f).stw = s.stw := rfl
@[simp] theorem State.modMb_cus (f : Mailbox → Mailbox) : (s.modMb f).cus = s.cus := rfl
@[simp] theorem State.modMb_log (f : Mailbox → Mailbox) : (s.modMb f).log = s.log := rfl
@[simp] theorem State.modMb_pwr (f : Mailbox → Mailbox) : (s.modMb f).pwr = s.pwr := rfl
@[simp] theorem State.modMb_nose (f : Mailbox → Mailbox) : (s.modMb f).nose = s.nose := rfl
@[simp] theorem State.modMb_frm (f : Mailbox → Mailbox) : (s.modMb f).frm = s.frm := rfl
@[simp] theorem State.modMb_fus (f : Mailbox → Mailbox) : (s.modMb f).fus = s.fus := rfl
@[simp] theorem State.modMb_vlt (f : Mailbox → Mailbox) : (s.modMb f).vlt = s.vlt := rfl
@[simp] theorem State.modMb_flc (f : Mailbox → Mailbox) : (s.modMb f).flc = s.flc := rfl
@[simp] theorem State.modMb_cry (f : Mailbox → Mailbox) : (s.modMb f).cry = s.cry := rfl
@[simp] theorem State.modMb_boot (f : Mailbox → Mailbox) : (s.modMb f).boot = s.boot := rfl
@[simp] theorem State.modMb_wdn (f : Mailbox → Mailbox) : (s.modMb f).wdn = s.wdn := rfl
@[simp] theorem State.modMb_lanes (f : Mailbox → Mailbox) : (s.modMb f).lanes = s.lanes := rfl
@[simp] theorem State.modMb_pcr (f : Mailbox → Mailbox) : (s.modMb f).pcr = s.pcr := rfl
@[simp] theorem State.modMb_banks (f : Mailbox → Mailbox) : (s.modMb f).banks = s.banks := rfl
@[simp] theorem State.modMb_comps (f : Mailbox → Mailbox) : (s.modMb f).comps = s.comps := rfl
@[simp] theorem State.modMb_net (f : Mailbox → Mailbox) : (s.modMb f).net = s.net := rfl
@[simp] theorem State.modMb_links (f : Mailbox → Mailbox) : (s.modMb f).links = s.links := rfl
@[simp] theorem State.modMb_free (f : Mailbox → Mailbox) : (s.modMb f).free = s.free := rfl
@[simp] theorem State.modMb_random (f : Mailbox → Mailbox) : (s.modMb f).random = s.random := rfl
@[simp] theorem State.modMb_pending (f : Mailbox → Mailbox) : (s.modMb f).pending = s.pending := rfl

@[simp] theorem State.modSvc_part (f : Service → Service) : (s.modSvc f).part = s.part := rfl
@[simp] theorem State.modSvc_clk (f : Service → Service) : (s.modSvc f).clk = s.clk := rfl
@[simp] theorem State.modSvc_cores (f : Service → Service) : (s.modSvc f).cores = s.cores := rfl
@[simp] theorem State.modSvc_paths (f : Service → Service) : (s.modSvc f).paths = s.paths := rfl
@[simp] theorem State.modSvc_mb (f : Service → Service) : (s.modSvc f).mb = s.mb := rfl
@[simp] theorem State.modSvc_svc (f : Service → Service) : (s.modSvc f).svc = f s.svc := rfl
@[simp] theorem State.modSvc_stw (f : Service → Service) : (s.modSvc f).stw = s.stw := rfl
@[simp] theorem State.modSvc_cus (f : Service → Service) : (s.modSvc f).cus = s.cus := rfl
@[simp] theorem State.modSvc_log (f : Service → Service) : (s.modSvc f).log = s.log := rfl
@[simp] theorem State.modSvc_pwr (f : Service → Service) : (s.modSvc f).pwr = s.pwr := rfl
@[simp] theorem State.modSvc_nose (f : Service → Service) : (s.modSvc f).nose = s.nose := rfl
@[simp] theorem State.modSvc_frm (f : Service → Service) : (s.modSvc f).frm = s.frm := rfl
@[simp] theorem State.modSvc_fus (f : Service → Service) : (s.modSvc f).fus = s.fus := rfl
@[simp] theorem State.modSvc_vlt (f : Service → Service) : (s.modSvc f).vlt = s.vlt := rfl
@[simp] theorem State.modSvc_flc (f : Service → Service) : (s.modSvc f).flc = s.flc := rfl
@[simp] theorem State.modSvc_cry (f : Service → Service) : (s.modSvc f).cry = s.cry := rfl
@[simp] theorem State.modSvc_boot (f : Service → Service) : (s.modSvc f).boot = s.boot := rfl
@[simp] theorem State.modSvc_wdn (f : Service → Service) : (s.modSvc f).wdn = s.wdn := rfl
@[simp] theorem State.modSvc_lanes (f : Service → Service) : (s.modSvc f).lanes = s.lanes := rfl
@[simp] theorem State.modSvc_pcr (f : Service → Service) : (s.modSvc f).pcr = s.pcr := rfl
@[simp] theorem State.modSvc_banks (f : Service → Service) : (s.modSvc f).banks = s.banks := rfl
@[simp] theorem State.modSvc_comps (f : Service → Service) : (s.modSvc f).comps = s.comps := rfl
@[simp] theorem State.modSvc_net (f : Service → Service) : (s.modSvc f).net = s.net := rfl
@[simp] theorem State.modSvc_links (f : Service → Service) : (s.modSvc f).links = s.links := rfl
@[simp] theorem State.modSvc_free (f : Service → Service) : (s.modSvc f).free = s.free := rfl
@[simp] theorem State.modSvc_random (f : Service → Service) : (s.modSvc f).random = s.random := rfl
@[simp] theorem State.modSvc_pending (f : Service → Service) : (s.modSvc f).pending = s.pending := rfl

@[simp] theorem State.modStw_part (f : StewardPort → StewardPort) : (s.modStw f).part = s.part := rfl
@[simp] theorem State.modStw_clk (f : StewardPort → StewardPort) : (s.modStw f).clk = s.clk := rfl
@[simp] theorem State.modStw_cores (f : StewardPort → StewardPort) : (s.modStw f).cores = s.cores := rfl
@[simp] theorem State.modStw_paths (f : StewardPort → StewardPort) : (s.modStw f).paths = s.paths := rfl
@[simp] theorem State.modStw_mb (f : StewardPort → StewardPort) : (s.modStw f).mb = s.mb := rfl
@[simp] theorem State.modStw_svc (f : StewardPort → StewardPort) : (s.modStw f).svc = s.svc := rfl
@[simp] theorem State.modStw_stw (f : StewardPort → StewardPort) : (s.modStw f).stw = f s.stw := rfl
@[simp] theorem State.modStw_cus (f : StewardPort → StewardPort) : (s.modStw f).cus = s.cus := rfl
@[simp] theorem State.modStw_log (f : StewardPort → StewardPort) : (s.modStw f).log = s.log := rfl
@[simp] theorem State.modStw_pwr (f : StewardPort → StewardPort) : (s.modStw f).pwr = s.pwr := rfl
@[simp] theorem State.modStw_nose (f : StewardPort → StewardPort) : (s.modStw f).nose = s.nose := rfl
@[simp] theorem State.modStw_frm (f : StewardPort → StewardPort) : (s.modStw f).frm = s.frm := rfl
@[simp] theorem State.modStw_fus (f : StewardPort → StewardPort) : (s.modStw f).fus = s.fus := rfl
@[simp] theorem State.modStw_vlt (f : StewardPort → StewardPort) : (s.modStw f).vlt = s.vlt := rfl
@[simp] theorem State.modStw_flc (f : StewardPort → StewardPort) : (s.modStw f).flc = s.flc := rfl
@[simp] theorem State.modStw_cry (f : StewardPort → StewardPort) : (s.modStw f).cry = s.cry := rfl
@[simp] theorem State.modStw_boot (f : StewardPort → StewardPort) : (s.modStw f).boot = s.boot := rfl
@[simp] theorem State.modStw_wdn (f : StewardPort → StewardPort) : (s.modStw f).wdn = s.wdn := rfl
@[simp] theorem State.modStw_lanes (f : StewardPort → StewardPort) : (s.modStw f).lanes = s.lanes := rfl
@[simp] theorem State.modStw_pcr (f : StewardPort → StewardPort) : (s.modStw f).pcr = s.pcr := rfl
@[simp] theorem State.modStw_banks (f : StewardPort → StewardPort) : (s.modStw f).banks = s.banks := rfl
@[simp] theorem State.modStw_comps (f : StewardPort → StewardPort) : (s.modStw f).comps = s.comps := rfl
@[simp] theorem State.modStw_net (f : StewardPort → StewardPort) : (s.modStw f).net = s.net := rfl
@[simp] theorem State.modStw_links (f : StewardPort → StewardPort) : (s.modStw f).links = s.links := rfl
@[simp] theorem State.modStw_free (f : StewardPort → StewardPort) : (s.modStw f).free = s.free := rfl
@[simp] theorem State.modStw_random (f : StewardPort → StewardPort) : (s.modStw f).random = s.random := rfl
@[simp] theorem State.modStw_pending (f : StewardPort → StewardPort) : (s.modStw f).pending = s.pending := rfl

@[simp] theorem State.modCus_part (f : Custody → Custody) : (s.modCus f).part = s.part := rfl
@[simp] theorem State.modCus_clk (f : Custody → Custody) : (s.modCus f).clk = s.clk := rfl
@[simp] theorem State.modCus_cores (f : Custody → Custody) : (s.modCus f).cores = s.cores := rfl
@[simp] theorem State.modCus_paths (f : Custody → Custody) : (s.modCus f).paths = s.paths := rfl
@[simp] theorem State.modCus_mb (f : Custody → Custody) : (s.modCus f).mb = s.mb := rfl
@[simp] theorem State.modCus_svc (f : Custody → Custody) : (s.modCus f).svc = s.svc := rfl
@[simp] theorem State.modCus_stw (f : Custody → Custody) : (s.modCus f).stw = s.stw := rfl
@[simp] theorem State.modCus_cus (f : Custody → Custody) : (s.modCus f).cus = f s.cus := rfl
@[simp] theorem State.modCus_log (f : Custody → Custody) : (s.modCus f).log = s.log := rfl
@[simp] theorem State.modCus_pwr (f : Custody → Custody) : (s.modCus f).pwr = s.pwr := rfl
@[simp] theorem State.modCus_nose (f : Custody → Custody) : (s.modCus f).nose = s.nose := rfl
@[simp] theorem State.modCus_frm (f : Custody → Custody) : (s.modCus f).frm = s.frm := rfl
@[simp] theorem State.modCus_fus (f : Custody → Custody) : (s.modCus f).fus = s.fus := rfl
@[simp] theorem State.modCus_vlt (f : Custody → Custody) : (s.modCus f).vlt = s.vlt := rfl
@[simp] theorem State.modCus_flc (f : Custody → Custody) : (s.modCus f).flc = s.flc := rfl
@[simp] theorem State.modCus_cry (f : Custody → Custody) : (s.modCus f).cry = s.cry := rfl
@[simp] theorem State.modCus_boot (f : Custody → Custody) : (s.modCus f).boot = s.boot := rfl
@[simp] theorem State.modCus_wdn (f : Custody → Custody) : (s.modCus f).wdn = s.wdn := rfl
@[simp] theorem State.modCus_lanes (f : Custody → Custody) : (s.modCus f).lanes = s.lanes := rfl
@[simp] theorem State.modCus_pcr (f : Custody → Custody) : (s.modCus f).pcr = s.pcr := rfl
@[simp] theorem State.modCus_banks (f : Custody → Custody) : (s.modCus f).banks = s.banks := rfl
@[simp] theorem State.modCus_comps (f : Custody → Custody) : (s.modCus f).comps = s.comps := rfl
@[simp] theorem State.modCus_net (f : Custody → Custody) : (s.modCus f).net = s.net := rfl
@[simp] theorem State.modCus_links (f : Custody → Custody) : (s.modCus f).links = s.links := rfl
@[simp] theorem State.modCus_free (f : Custody → Custody) : (s.modCus f).free = s.free := rfl
@[simp] theorem State.modCus_random (f : Custody → Custody) : (s.modCus f).random = s.random := rfl
@[simp] theorem State.modCus_pending (f : Custody → Custody) : (s.modCus f).pending = s.pending := rfl

@[simp] theorem State.modLog_part (f : Sillage → Sillage) : (s.modLog f).part = s.part := rfl
@[simp] theorem State.modLog_clk (f : Sillage → Sillage) : (s.modLog f).clk = s.clk := rfl
@[simp] theorem State.modLog_cores (f : Sillage → Sillage) : (s.modLog f).cores = s.cores := rfl
@[simp] theorem State.modLog_paths (f : Sillage → Sillage) : (s.modLog f).paths = s.paths := rfl
@[simp] theorem State.modLog_mb (f : Sillage → Sillage) : (s.modLog f).mb = s.mb := rfl
@[simp] theorem State.modLog_svc (f : Sillage → Sillage) : (s.modLog f).svc = s.svc := rfl
@[simp] theorem State.modLog_stw (f : Sillage → Sillage) : (s.modLog f).stw = s.stw := rfl
@[simp] theorem State.modLog_cus (f : Sillage → Sillage) : (s.modLog f).cus = s.cus := rfl
@[simp] theorem State.modLog_log (f : Sillage → Sillage) : (s.modLog f).log = f s.log := rfl
@[simp] theorem State.modLog_pwr (f : Sillage → Sillage) : (s.modLog f).pwr = s.pwr := rfl
@[simp] theorem State.modLog_nose (f : Sillage → Sillage) : (s.modLog f).nose = s.nose := rfl
@[simp] theorem State.modLog_frm (f : Sillage → Sillage) : (s.modLog f).frm = s.frm := rfl
@[simp] theorem State.modLog_fus (f : Sillage → Sillage) : (s.modLog f).fus = s.fus := rfl
@[simp] theorem State.modLog_vlt (f : Sillage → Sillage) : (s.modLog f).vlt = s.vlt := rfl
@[simp] theorem State.modLog_flc (f : Sillage → Sillage) : (s.modLog f).flc = s.flc := rfl
@[simp] theorem State.modLog_cry (f : Sillage → Sillage) : (s.modLog f).cry = s.cry := rfl
@[simp] theorem State.modLog_boot (f : Sillage → Sillage) : (s.modLog f).boot = s.boot := rfl
@[simp] theorem State.modLog_wdn (f : Sillage → Sillage) : (s.modLog f).wdn = s.wdn := rfl
@[simp] theorem State.modLog_lanes (f : Sillage → Sillage) : (s.modLog f).lanes = s.lanes := rfl
@[simp] theorem State.modLog_pcr (f : Sillage → Sillage) : (s.modLog f).pcr = s.pcr := rfl
@[simp] theorem State.modLog_banks (f : Sillage → Sillage) : (s.modLog f).banks = s.banks := rfl
@[simp] theorem State.modLog_comps (f : Sillage → Sillage) : (s.modLog f).comps = s.comps := rfl
@[simp] theorem State.modLog_net (f : Sillage → Sillage) : (s.modLog f).net = s.net := rfl
@[simp] theorem State.modLog_links (f : Sillage → Sillage) : (s.modLog f).links = s.links := rfl
@[simp] theorem State.modLog_free (f : Sillage → Sillage) : (s.modLog f).free = s.free := rfl
@[simp] theorem State.modLog_random (f : Sillage → Sillage) : (s.modLog f).random = s.random := rfl
@[simp] theorem State.modLog_pending (f : Sillage → Sillage) : (s.modLog f).pending = s.pending := rfl

@[simp] theorem State.modPwr_part (f : Power → Power) : (s.modPwr f).part = s.part := rfl
@[simp] theorem State.modPwr_clk (f : Power → Power) : (s.modPwr f).clk = s.clk := rfl
@[simp] theorem State.modPwr_cores (f : Power → Power) : (s.modPwr f).cores = s.cores := rfl
@[simp] theorem State.modPwr_paths (f : Power → Power) : (s.modPwr f).paths = s.paths := rfl
@[simp] theorem State.modPwr_mb (f : Power → Power) : (s.modPwr f).mb = s.mb := rfl
@[simp] theorem State.modPwr_svc (f : Power → Power) : (s.modPwr f).svc = s.svc := rfl
@[simp] theorem State.modPwr_stw (f : Power → Power) : (s.modPwr f).stw = s.stw := rfl
@[simp] theorem State.modPwr_cus (f : Power → Power) : (s.modPwr f).cus = s.cus := rfl
@[simp] theorem State.modPwr_log (f : Power → Power) : (s.modPwr f).log = s.log := rfl
@[simp] theorem State.modPwr_pwr (f : Power → Power) : (s.modPwr f).pwr = f s.pwr := rfl
@[simp] theorem State.modPwr_nose (f : Power → Power) : (s.modPwr f).nose = s.nose := rfl
@[simp] theorem State.modPwr_frm (f : Power → Power) : (s.modPwr f).frm = s.frm := rfl
@[simp] theorem State.modPwr_fus (f : Power → Power) : (s.modPwr f).fus = s.fus := rfl
@[simp] theorem State.modPwr_vlt (f : Power → Power) : (s.modPwr f).vlt = s.vlt := rfl
@[simp] theorem State.modPwr_flc (f : Power → Power) : (s.modPwr f).flc = s.flc := rfl
@[simp] theorem State.modPwr_cry (f : Power → Power) : (s.modPwr f).cry = s.cry := rfl
@[simp] theorem State.modPwr_boot (f : Power → Power) : (s.modPwr f).boot = s.boot := rfl
@[simp] theorem State.modPwr_wdn (f : Power → Power) : (s.modPwr f).wdn = s.wdn := rfl
@[simp] theorem State.modPwr_lanes (f : Power → Power) : (s.modPwr f).lanes = s.lanes := rfl
@[simp] theorem State.modPwr_pcr (f : Power → Power) : (s.modPwr f).pcr = s.pcr := rfl
@[simp] theorem State.modPwr_banks (f : Power → Power) : (s.modPwr f).banks = s.banks := rfl
@[simp] theorem State.modPwr_comps (f : Power → Power) : (s.modPwr f).comps = s.comps := rfl
@[simp] theorem State.modPwr_net (f : Power → Power) : (s.modPwr f).net = s.net := rfl
@[simp] theorem State.modPwr_links (f : Power → Power) : (s.modPwr f).links = s.links := rfl
@[simp] theorem State.modPwr_free (f : Power → Power) : (s.modPwr f).free = s.free := rfl
@[simp] theorem State.modPwr_random (f : Power → Power) : (s.modPwr f).random = s.random := rfl
@[simp] theorem State.modPwr_pending (f : Power → Power) : (s.modPwr f).pending = s.pending := rfl

@[simp] theorem State.modNose_part (f : Nose → Nose) : (s.modNose f).part = s.part := rfl
@[simp] theorem State.modNose_clk (f : Nose → Nose) : (s.modNose f).clk = s.clk := rfl
@[simp] theorem State.modNose_cores (f : Nose → Nose) : (s.modNose f).cores = s.cores := rfl
@[simp] theorem State.modNose_paths (f : Nose → Nose) : (s.modNose f).paths = s.paths := rfl
@[simp] theorem State.modNose_mb (f : Nose → Nose) : (s.modNose f).mb = s.mb := rfl
@[simp] theorem State.modNose_svc (f : Nose → Nose) : (s.modNose f).svc = s.svc := rfl
@[simp] theorem State.modNose_stw (f : Nose → Nose) : (s.modNose f).stw = s.stw := rfl
@[simp] theorem State.modNose_cus (f : Nose → Nose) : (s.modNose f).cus = s.cus := rfl
@[simp] theorem State.modNose_log (f : Nose → Nose) : (s.modNose f).log = s.log := rfl
@[simp] theorem State.modNose_pwr (f : Nose → Nose) : (s.modNose f).pwr = s.pwr := rfl
@[simp] theorem State.modNose_nose (f : Nose → Nose) : (s.modNose f).nose = f s.nose := rfl
@[simp] theorem State.modNose_frm (f : Nose → Nose) : (s.modNose f).frm = s.frm := rfl
@[simp] theorem State.modNose_fus (f : Nose → Nose) : (s.modNose f).fus = s.fus := rfl
@[simp] theorem State.modNose_vlt (f : Nose → Nose) : (s.modNose f).vlt = s.vlt := rfl
@[simp] theorem State.modNose_flc (f : Nose → Nose) : (s.modNose f).flc = s.flc := rfl
@[simp] theorem State.modNose_cry (f : Nose → Nose) : (s.modNose f).cry = s.cry := rfl
@[simp] theorem State.modNose_boot (f : Nose → Nose) : (s.modNose f).boot = s.boot := rfl
@[simp] theorem State.modNose_wdn (f : Nose → Nose) : (s.modNose f).wdn = s.wdn := rfl
@[simp] theorem State.modNose_lanes (f : Nose → Nose) : (s.modNose f).lanes = s.lanes := rfl
@[simp] theorem State.modNose_pcr (f : Nose → Nose) : (s.modNose f).pcr = s.pcr := rfl
@[simp] theorem State.modNose_banks (f : Nose → Nose) : (s.modNose f).banks = s.banks := rfl
@[simp] theorem State.modNose_comps (f : Nose → Nose) : (s.modNose f).comps = s.comps := rfl
@[simp] theorem State.modNose_net (f : Nose → Nose) : (s.modNose f).net = s.net := rfl
@[simp] theorem State.modNose_links (f : Nose → Nose) : (s.modNose f).links = s.links := rfl
@[simp] theorem State.modNose_free (f : Nose → Nose) : (s.modNose f).free = s.free := rfl
@[simp] theorem State.modNose_random (f : Nose → Nose) : (s.modNose f).random = s.random := rfl
@[simp] theorem State.modNose_pending (f : Nose → Nose) : (s.modNose f).pending = s.pending := rfl

@[simp] theorem State.modFrm_part (f : FormulaState → FormulaState) : (s.modFrm f).part = s.part := rfl
@[simp] theorem State.modFrm_clk (f : FormulaState → FormulaState) : (s.modFrm f).clk = s.clk := rfl
@[simp] theorem State.modFrm_cores (f : FormulaState → FormulaState) : (s.modFrm f).cores = s.cores := rfl
@[simp] theorem State.modFrm_paths (f : FormulaState → FormulaState) : (s.modFrm f).paths = s.paths := rfl
@[simp] theorem State.modFrm_mb (f : FormulaState → FormulaState) : (s.modFrm f).mb = s.mb := rfl
@[simp] theorem State.modFrm_svc (f : FormulaState → FormulaState) : (s.modFrm f).svc = s.svc := rfl
@[simp] theorem State.modFrm_stw (f : FormulaState → FormulaState) : (s.modFrm f).stw = s.stw := rfl
@[simp] theorem State.modFrm_cus (f : FormulaState → FormulaState) : (s.modFrm f).cus = s.cus := rfl
@[simp] theorem State.modFrm_log (f : FormulaState → FormulaState) : (s.modFrm f).log = s.log := rfl
@[simp] theorem State.modFrm_pwr (f : FormulaState → FormulaState) : (s.modFrm f).pwr = s.pwr := rfl
@[simp] theorem State.modFrm_nose (f : FormulaState → FormulaState) : (s.modFrm f).nose = s.nose := rfl
@[simp] theorem State.modFrm_frm (f : FormulaState → FormulaState) : (s.modFrm f).frm = f s.frm := rfl
@[simp] theorem State.modFrm_fus (f : FormulaState → FormulaState) : (s.modFrm f).fus = s.fus := rfl
@[simp] theorem State.modFrm_vlt (f : FormulaState → FormulaState) : (s.modFrm f).vlt = s.vlt := rfl
@[simp] theorem State.modFrm_flc (f : FormulaState → FormulaState) : (s.modFrm f).flc = s.flc := rfl
@[simp] theorem State.modFrm_cry (f : FormulaState → FormulaState) : (s.modFrm f).cry = s.cry := rfl
@[simp] theorem State.modFrm_boot (f : FormulaState → FormulaState) : (s.modFrm f).boot = s.boot := rfl
@[simp] theorem State.modFrm_wdn (f : FormulaState → FormulaState) : (s.modFrm f).wdn = s.wdn := rfl
@[simp] theorem State.modFrm_lanes (f : FormulaState → FormulaState) : (s.modFrm f).lanes = s.lanes := rfl
@[simp] theorem State.modFrm_pcr (f : FormulaState → FormulaState) : (s.modFrm f).pcr = s.pcr := rfl
@[simp] theorem State.modFrm_banks (f : FormulaState → FormulaState) : (s.modFrm f).banks = s.banks := rfl
@[simp] theorem State.modFrm_comps (f : FormulaState → FormulaState) : (s.modFrm f).comps = s.comps := rfl
@[simp] theorem State.modFrm_net (f : FormulaState → FormulaState) : (s.modFrm f).net = s.net := rfl
@[simp] theorem State.modFrm_links (f : FormulaState → FormulaState) : (s.modFrm f).links = s.links := rfl
@[simp] theorem State.modFrm_free (f : FormulaState → FormulaState) : (s.modFrm f).free = s.free := rfl
@[simp] theorem State.modFrm_random (f : FormulaState → FormulaState) : (s.modFrm f).random = s.random := rfl
@[simp] theorem State.modFrm_pending (f : FormulaState → FormulaState) : (s.modFrm f).pending = s.pending := rfl

@[simp] theorem State.modFus_part (f : Fuses → Fuses) : (s.modFus f).part = s.part := rfl
@[simp] theorem State.modFus_clk (f : Fuses → Fuses) : (s.modFus f).clk = s.clk := rfl
@[simp] theorem State.modFus_cores (f : Fuses → Fuses) : (s.modFus f).cores = s.cores := rfl
@[simp] theorem State.modFus_paths (f : Fuses → Fuses) : (s.modFus f).paths = s.paths := rfl
@[simp] theorem State.modFus_mb (f : Fuses → Fuses) : (s.modFus f).mb = s.mb := rfl
@[simp] theorem State.modFus_svc (f : Fuses → Fuses) : (s.modFus f).svc = s.svc := rfl
@[simp] theorem State.modFus_stw (f : Fuses → Fuses) : (s.modFus f).stw = s.stw := rfl
@[simp] theorem State.modFus_cus (f : Fuses → Fuses) : (s.modFus f).cus = s.cus := rfl
@[simp] theorem State.modFus_log (f : Fuses → Fuses) : (s.modFus f).log = s.log := rfl
@[simp] theorem State.modFus_pwr (f : Fuses → Fuses) : (s.modFus f).pwr = s.pwr := rfl
@[simp] theorem State.modFus_nose (f : Fuses → Fuses) : (s.modFus f).nose = s.nose := rfl
@[simp] theorem State.modFus_frm (f : Fuses → Fuses) : (s.modFus f).frm = s.frm := rfl
@[simp] theorem State.modFus_fus (f : Fuses → Fuses) : (s.modFus f).fus = f s.fus := rfl
@[simp] theorem State.modFus_vlt (f : Fuses → Fuses) : (s.modFus f).vlt = s.vlt := rfl
@[simp] theorem State.modFus_flc (f : Fuses → Fuses) : (s.modFus f).flc = s.flc := rfl
@[simp] theorem State.modFus_cry (f : Fuses → Fuses) : (s.modFus f).cry = s.cry := rfl
@[simp] theorem State.modFus_boot (f : Fuses → Fuses) : (s.modFus f).boot = s.boot := rfl
@[simp] theorem State.modFus_wdn (f : Fuses → Fuses) : (s.modFus f).wdn = s.wdn := rfl
@[simp] theorem State.modFus_lanes (f : Fuses → Fuses) : (s.modFus f).lanes = s.lanes := rfl
@[simp] theorem State.modFus_pcr (f : Fuses → Fuses) : (s.modFus f).pcr = s.pcr := rfl
@[simp] theorem State.modFus_banks (f : Fuses → Fuses) : (s.modFus f).banks = s.banks := rfl
@[simp] theorem State.modFus_comps (f : Fuses → Fuses) : (s.modFus f).comps = s.comps := rfl
@[simp] theorem State.modFus_net (f : Fuses → Fuses) : (s.modFus f).net = s.net := rfl
@[simp] theorem State.modFus_links (f : Fuses → Fuses) : (s.modFus f).links = s.links := rfl
@[simp] theorem State.modFus_free (f : Fuses → Fuses) : (s.modFus f).free = s.free := rfl
@[simp] theorem State.modFus_random (f : Fuses → Fuses) : (s.modFus f).random = s.random := rfl
@[simp] theorem State.modFus_pending (f : Fuses → Fuses) : (s.modFus f).pending = s.pending := rfl

@[simp] theorem State.modVlt_part (f : Vault → Vault) : (s.modVlt f).part = s.part := rfl
@[simp] theorem State.modVlt_clk (f : Vault → Vault) : (s.modVlt f).clk = s.clk := rfl
@[simp] theorem State.modVlt_cores (f : Vault → Vault) : (s.modVlt f).cores = s.cores := rfl
@[simp] theorem State.modVlt_paths (f : Vault → Vault) : (s.modVlt f).paths = s.paths := rfl
@[simp] theorem State.modVlt_mb (f : Vault → Vault) : (s.modVlt f).mb = s.mb := rfl
@[simp] theorem State.modVlt_svc (f : Vault → Vault) : (s.modVlt f).svc = s.svc := rfl
@[simp] theorem State.modVlt_stw (f : Vault → Vault) : (s.modVlt f).stw = s.stw := rfl
@[simp] theorem State.modVlt_cus (f : Vault → Vault) : (s.modVlt f).cus = s.cus := rfl
@[simp] theorem State.modVlt_log (f : Vault → Vault) : (s.modVlt f).log = s.log := rfl
@[simp] theorem State.modVlt_pwr (f : Vault → Vault) : (s.modVlt f).pwr = s.pwr := rfl
@[simp] theorem State.modVlt_nose (f : Vault → Vault) : (s.modVlt f).nose = s.nose := rfl
@[simp] theorem State.modVlt_frm (f : Vault → Vault) : (s.modVlt f).frm = s.frm := rfl
@[simp] theorem State.modVlt_fus (f : Vault → Vault) : (s.modVlt f).fus = s.fus := rfl
@[simp] theorem State.modVlt_vlt (f : Vault → Vault) : (s.modVlt f).vlt = f s.vlt := rfl
@[simp] theorem State.modVlt_flc (f : Vault → Vault) : (s.modVlt f).flc = s.flc := rfl
@[simp] theorem State.modVlt_cry (f : Vault → Vault) : (s.modVlt f).cry = s.cry := rfl
@[simp] theorem State.modVlt_boot (f : Vault → Vault) : (s.modVlt f).boot = s.boot := rfl
@[simp] theorem State.modVlt_wdn (f : Vault → Vault) : (s.modVlt f).wdn = s.wdn := rfl
@[simp] theorem State.modVlt_lanes (f : Vault → Vault) : (s.modVlt f).lanes = s.lanes := rfl
@[simp] theorem State.modVlt_pcr (f : Vault → Vault) : (s.modVlt f).pcr = s.pcr := rfl
@[simp] theorem State.modVlt_banks (f : Vault → Vault) : (s.modVlt f).banks = s.banks := rfl
@[simp] theorem State.modVlt_comps (f : Vault → Vault) : (s.modVlt f).comps = s.comps := rfl
@[simp] theorem State.modVlt_net (f : Vault → Vault) : (s.modVlt f).net = s.net := rfl
@[simp] theorem State.modVlt_links (f : Vault → Vault) : (s.modVlt f).links = s.links := rfl
@[simp] theorem State.modVlt_free (f : Vault → Vault) : (s.modVlt f).free = s.free := rfl
@[simp] theorem State.modVlt_random (f : Vault → Vault) : (s.modVlt f).random = s.random := rfl
@[simp] theorem State.modVlt_pending (f : Vault → Vault) : (s.modVlt f).pending = s.pending := rfl

@[simp] theorem State.modFlc_part (f : Flacon → Flacon) : (s.modFlc f).part = s.part := rfl
@[simp] theorem State.modFlc_clk (f : Flacon → Flacon) : (s.modFlc f).clk = s.clk := rfl
@[simp] theorem State.modFlc_cores (f : Flacon → Flacon) : (s.modFlc f).cores = s.cores := rfl
@[simp] theorem State.modFlc_paths (f : Flacon → Flacon) : (s.modFlc f).paths = s.paths := rfl
@[simp] theorem State.modFlc_mb (f : Flacon → Flacon) : (s.modFlc f).mb = s.mb := rfl
@[simp] theorem State.modFlc_svc (f : Flacon → Flacon) : (s.modFlc f).svc = s.svc := rfl
@[simp] theorem State.modFlc_stw (f : Flacon → Flacon) : (s.modFlc f).stw = s.stw := rfl
@[simp] theorem State.modFlc_cus (f : Flacon → Flacon) : (s.modFlc f).cus = s.cus := rfl
@[simp] theorem State.modFlc_log (f : Flacon → Flacon) : (s.modFlc f).log = s.log := rfl
@[simp] theorem State.modFlc_pwr (f : Flacon → Flacon) : (s.modFlc f).pwr = s.pwr := rfl
@[simp] theorem State.modFlc_nose (f : Flacon → Flacon) : (s.modFlc f).nose = s.nose := rfl
@[simp] theorem State.modFlc_frm (f : Flacon → Flacon) : (s.modFlc f).frm = s.frm := rfl
@[simp] theorem State.modFlc_fus (f : Flacon → Flacon) : (s.modFlc f).fus = s.fus := rfl
@[simp] theorem State.modFlc_vlt (f : Flacon → Flacon) : (s.modFlc f).vlt = s.vlt := rfl
@[simp] theorem State.modFlc_flc (f : Flacon → Flacon) : (s.modFlc f).flc = f s.flc := rfl
@[simp] theorem State.modFlc_cry (f : Flacon → Flacon) : (s.modFlc f).cry = s.cry := rfl
@[simp] theorem State.modFlc_boot (f : Flacon → Flacon) : (s.modFlc f).boot = s.boot := rfl
@[simp] theorem State.modFlc_wdn (f : Flacon → Flacon) : (s.modFlc f).wdn = s.wdn := rfl
@[simp] theorem State.modFlc_lanes (f : Flacon → Flacon) : (s.modFlc f).lanes = s.lanes := rfl
@[simp] theorem State.modFlc_pcr (f : Flacon → Flacon) : (s.modFlc f).pcr = s.pcr := rfl
@[simp] theorem State.modFlc_banks (f : Flacon → Flacon) : (s.modFlc f).banks = s.banks := rfl
@[simp] theorem State.modFlc_comps (f : Flacon → Flacon) : (s.modFlc f).comps = s.comps := rfl
@[simp] theorem State.modFlc_net (f : Flacon → Flacon) : (s.modFlc f).net = s.net := rfl
@[simp] theorem State.modFlc_links (f : Flacon → Flacon) : (s.modFlc f).links = s.links := rfl
@[simp] theorem State.modFlc_free (f : Flacon → Flacon) : (s.modFlc f).free = s.free := rfl
@[simp] theorem State.modFlc_random (f : Flacon → Flacon) : (s.modFlc f).random = s.random := rfl
@[simp] theorem State.modFlc_pending (f : Flacon → Flacon) : (s.modFlc f).pending = s.pending := rfl

@[simp] theorem State.modBoot_part (f : Boot → Boot) : (s.modBoot f).part = s.part := rfl
@[simp] theorem State.modBoot_clk (f : Boot → Boot) : (s.modBoot f).clk = s.clk := rfl
@[simp] theorem State.modBoot_cores (f : Boot → Boot) : (s.modBoot f).cores = s.cores := rfl
@[simp] theorem State.modBoot_paths (f : Boot → Boot) : (s.modBoot f).paths = s.paths := rfl
@[simp] theorem State.modBoot_mb (f : Boot → Boot) : (s.modBoot f).mb = s.mb := rfl
@[simp] theorem State.modBoot_svc (f : Boot → Boot) : (s.modBoot f).svc = s.svc := rfl
@[simp] theorem State.modBoot_stw (f : Boot → Boot) : (s.modBoot f).stw = s.stw := rfl
@[simp] theorem State.modBoot_cus (f : Boot → Boot) : (s.modBoot f).cus = s.cus := rfl
@[simp] theorem State.modBoot_log (f : Boot → Boot) : (s.modBoot f).log = s.log := rfl
@[simp] theorem State.modBoot_pwr (f : Boot → Boot) : (s.modBoot f).pwr = s.pwr := rfl
@[simp] theorem State.modBoot_nose (f : Boot → Boot) : (s.modBoot f).nose = s.nose := rfl
@[simp] theorem State.modBoot_frm (f : Boot → Boot) : (s.modBoot f).frm = s.frm := rfl
@[simp] theorem State.modBoot_fus (f : Boot → Boot) : (s.modBoot f).fus = s.fus := rfl
@[simp] theorem State.modBoot_vlt (f : Boot → Boot) : (s.modBoot f).vlt = s.vlt := rfl
@[simp] theorem State.modBoot_flc (f : Boot → Boot) : (s.modBoot f).flc = s.flc := rfl
@[simp] theorem State.modBoot_cry (f : Boot → Boot) : (s.modBoot f).cry = s.cry := rfl
@[simp] theorem State.modBoot_boot (f : Boot → Boot) : (s.modBoot f).boot = f s.boot := rfl
@[simp] theorem State.modBoot_wdn (f : Boot → Boot) : (s.modBoot f).wdn = s.wdn := rfl
@[simp] theorem State.modBoot_lanes (f : Boot → Boot) : (s.modBoot f).lanes = s.lanes := rfl
@[simp] theorem State.modBoot_pcr (f : Boot → Boot) : (s.modBoot f).pcr = s.pcr := rfl
@[simp] theorem State.modBoot_banks (f : Boot → Boot) : (s.modBoot f).banks = s.banks := rfl
@[simp] theorem State.modBoot_comps (f : Boot → Boot) : (s.modBoot f).comps = s.comps := rfl
@[simp] theorem State.modBoot_net (f : Boot → Boot) : (s.modBoot f).net = s.net := rfl
@[simp] theorem State.modBoot_links (f : Boot → Boot) : (s.modBoot f).links = s.links := rfl
@[simp] theorem State.modBoot_free (f : Boot → Boot) : (s.modBoot f).free = s.free := rfl
@[simp] theorem State.modBoot_random (f : Boot → Boot) : (s.modBoot f).random = s.random := rfl
@[simp] theorem State.modBoot_pending (f : Boot → Boot) : (s.modBoot f).pending = s.pending := rfl

@[simp] theorem State.modWdn_part (f : Warden → Warden) : (s.modWdn f).part = s.part := rfl
@[simp] theorem State.modWdn_clk (f : Warden → Warden) : (s.modWdn f).clk = s.clk := rfl
@[simp] theorem State.modWdn_cores (f : Warden → Warden) : (s.modWdn f).cores = s.cores := rfl
@[simp] theorem State.modWdn_paths (f : Warden → Warden) : (s.modWdn f).paths = s.paths := rfl
@[simp] theorem State.modWdn_mb (f : Warden → Warden) : (s.modWdn f).mb = s.mb := rfl
@[simp] theorem State.modWdn_svc (f : Warden → Warden) : (s.modWdn f).svc = s.svc := rfl
@[simp] theorem State.modWdn_stw (f : Warden → Warden) : (s.modWdn f).stw = s.stw := rfl
@[simp] theorem State.modWdn_cus (f : Warden → Warden) : (s.modWdn f).cus = s.cus := rfl
@[simp] theorem State.modWdn_log (f : Warden → Warden) : (s.modWdn f).log = s.log := rfl
@[simp] theorem State.modWdn_pwr (f : Warden → Warden) : (s.modWdn f).pwr = s.pwr := rfl
@[simp] theorem State.modWdn_nose (f : Warden → Warden) : (s.modWdn f).nose = s.nose := rfl
@[simp] theorem State.modWdn_frm (f : Warden → Warden) : (s.modWdn f).frm = s.frm := rfl
@[simp] theorem State.modWdn_fus (f : Warden → Warden) : (s.modWdn f).fus = s.fus := rfl
@[simp] theorem State.modWdn_vlt (f : Warden → Warden) : (s.modWdn f).vlt = s.vlt := rfl
@[simp] theorem State.modWdn_flc (f : Warden → Warden) : (s.modWdn f).flc = s.flc := rfl
@[simp] theorem State.modWdn_cry (f : Warden → Warden) : (s.modWdn f).cry = s.cry := rfl
@[simp] theorem State.modWdn_boot (f : Warden → Warden) : (s.modWdn f).boot = s.boot := rfl
@[simp] theorem State.modWdn_wdn (f : Warden → Warden) : (s.modWdn f).wdn = f s.wdn := rfl
@[simp] theorem State.modWdn_lanes (f : Warden → Warden) : (s.modWdn f).lanes = s.lanes := rfl
@[simp] theorem State.modWdn_pcr (f : Warden → Warden) : (s.modWdn f).pcr = s.pcr := rfl
@[simp] theorem State.modWdn_banks (f : Warden → Warden) : (s.modWdn f).banks = s.banks := rfl
@[simp] theorem State.modWdn_comps (f : Warden → Warden) : (s.modWdn f).comps = s.comps := rfl
@[simp] theorem State.modWdn_net (f : Warden → Warden) : (s.modWdn f).net = s.net := rfl
@[simp] theorem State.modWdn_links (f : Warden → Warden) : (s.modWdn f).links = s.links := rfl
@[simp] theorem State.modWdn_free (f : Warden → Warden) : (s.modWdn f).free = s.free := rfl
@[simp] theorem State.modWdn_random (f : Warden → Warden) : (s.modWdn f).random = s.random := rfl
@[simp] theorem State.modWdn_pending (f : Warden → Warden) : (s.modWdn f).pending = s.pending := rfl

@[simp] theorem State.modCry_part (f : Crypto → Crypto) : (s.modCry f).part = s.part := rfl
@[simp] theorem State.modCry_clk (f : Crypto → Crypto) : (s.modCry f).clk = s.clk := rfl
@[simp] theorem State.modCry_cores (f : Crypto → Crypto) : (s.modCry f).cores = s.cores := rfl
@[simp] theorem State.modCry_paths (f : Crypto → Crypto) : (s.modCry f).paths = s.paths := rfl
@[simp] theorem State.modCry_mb (f : Crypto → Crypto) : (s.modCry f).mb = s.mb := rfl
@[simp] theorem State.modCry_svc (f : Crypto → Crypto) : (s.modCry f).svc = s.svc := rfl
@[simp] theorem State.modCry_stw (f : Crypto → Crypto) : (s.modCry f).stw = s.stw := rfl
@[simp] theorem State.modCry_cus (f : Crypto → Crypto) : (s.modCry f).cus = s.cus := rfl
@[simp] theorem State.modCry_log (f : Crypto → Crypto) : (s.modCry f).log = s.log := rfl
@[simp] theorem State.modCry_pwr (f : Crypto → Crypto) : (s.modCry f).pwr = s.pwr := rfl
@[simp] theorem State.modCry_nose (f : Crypto → Crypto) : (s.modCry f).nose = s.nose := rfl
@[simp] theorem State.modCry_frm (f : Crypto → Crypto) : (s.modCry f).frm = s.frm := rfl
@[simp] theorem State.modCry_fus (f : Crypto → Crypto) : (s.modCry f).fus = s.fus := rfl
@[simp] theorem State.modCry_vlt (f : Crypto → Crypto) : (s.modCry f).vlt = s.vlt := rfl
@[simp] theorem State.modCry_flc (f : Crypto → Crypto) : (s.modCry f).flc = s.flc := rfl
@[simp] theorem State.modCry_cry (f : Crypto → Crypto) : (s.modCry f).cry = f s.cry := rfl
@[simp] theorem State.modCry_boot (f : Crypto → Crypto) : (s.modCry f).boot = s.boot := rfl
@[simp] theorem State.modCry_wdn (f : Crypto → Crypto) : (s.modCry f).wdn = s.wdn := rfl
@[simp] theorem State.modCry_lanes (f : Crypto → Crypto) : (s.modCry f).lanes = s.lanes := rfl
@[simp] theorem State.modCry_pcr (f : Crypto → Crypto) : (s.modCry f).pcr = s.pcr := rfl
@[simp] theorem State.modCry_banks (f : Crypto → Crypto) : (s.modCry f).banks = s.banks := rfl
@[simp] theorem State.modCry_comps (f : Crypto → Crypto) : (s.modCry f).comps = s.comps := rfl
@[simp] theorem State.modCry_net (f : Crypto → Crypto) : (s.modCry f).net = s.net := rfl
@[simp] theorem State.modCry_links (f : Crypto → Crypto) : (s.modCry f).links = s.links := rfl
@[simp] theorem State.modCry_free (f : Crypto → Crypto) : (s.modCry f).free = s.free := rfl
@[simp] theorem State.modCry_random (f : Crypto → Crypto) : (s.modCry f).random = s.random := rfl
@[simp] theorem State.modCry_pending (f : Crypto → Crypto) : (s.modCry f).pending = s.pending := rfl

end Sys2Proof.Machine
end

