-- ==== Sys2Proof/Laws/Ops.lean ====
section
/-! SUPPORT. What the shared operations do: time, answers, outstanding commands, the run of a command row, the photo finish. -/

namespace Sys2Proof.Machine

/-! ## Time -/

/-- The count never goes back and holds at its largest value. -/
theorem advanceTo_now (t : Nat) (s : State) : (s.advanceTo t).now = max s.now (min maxCycle t) := rfl

/-- An edge that has come already changes nothing. -/
theorem advanceTo_le {t : Nat} {s : State} (h : t ≤ s.now) : s.advanceTo t = s := by
  have : max s.clk.now (min maxCycle t) = s.clk.now := by
    have : t ≤ s.clk.now := h
    omega
  simp [State.advanceTo, State.modClk, this]

/-- An edge still to come is the present one. -/
theorem advanceTo_gt {t : Nat} {s : State} (h : s.now ≤ t) (hm : t ≤ maxCycle) : (s.advanceTo t).now = t := by
  rw [advanceTo_now]; omega

/-- An edge of the block moves the count alone. -/
theorem tick_running {s : State} (h : s.clk.running = true) : s.tick = s.advanceTo (s.now + 1) := by simp [State.tick, h]
theorem tick_stopped {s : State} (h : s.clk.running = false) : s.tick = s := by simp [State.tick, h]

/-! ## Outstanding commands -/

theorem isFor_self (o : Outstanding) : o.isFor o.port o.session o.tag = true := by simp [Outstanding.isFor]

/-- What is found under a port, session and TAG bears them. -/
theorem findOut_isFor {p : Port} {n tag : Nat} {o : Outstanding} {s : State} (h : s.findOut p n tag = some o) :
    o.port = p ∧ o.session = n ∧ o.tag = tag := by
  have := List.find?_some h
  simpa [Outstanding.isFor] using this

/-- A command rewritten in place is dropped as it was. -/
theorem dropOut_setOut (o o' : Outstanding) (s : State) (hp : o'.port = o.port) (hn : o'.session = o.session) (ht : o'.tag = o.tag) :
    (s.setOut o').dropOut o = s.dropOut o := by
  have key : ∀ l : List Outstanding,
      (l.map fun x => if x.isFor o'.port o'.session o'.tag then o' else x).filter (fun x => !x.isFor o.port o.session o.tag)
        = l.filter fun x => !x.isFor o.port o.session o.tag := by
    intro l
    induction l with
    | nil => rfl
    | cons a l ih =>
      by_cases h : a.isFor o'.port o'.session o'.tag = true
      · have ha : a.isFor o.port o.session o.tag = true := by rw [← hp, ← hn, ← ht]; exact h
        have ho : o'.isFor o.port o.session o.tag = true := by rw [← hp, ← hn, ← ht]; exact isFor_self o'
        simp [h, ha, ho, ih]
      · simp only [List.map_cons, h, List.filter_cons, ih]; rfl
  simp only [State.setOut, State.dropOut, State.modPaths, key]

/-- The record of an order's end does not depend on how far its owner had come. -/
theorem logDone_setOut (late : Bool) (o o' : Outstanding) (code : Nat) (payload : Bytes) (s : State) :
    (s.setOut o').logDone late o code payload = (s.logDone late o code payload).setOut o' := by
  unfold State.logDone
  split
  · rfl
  · unfold State.putRec
    split
    · rename_i h; rw [if_pos (show (!s.recording) = true from h)]
    · rename_i h; rw [if_neg (show ¬(!s.recording) = true from h)]; rfl

/-- Once the response is placed, how far the owner had come no longer shows. -/
theorem respond_setOut (o o' : Outstanding) (code : Nat) (payload : Bytes) (s : State) (hp : o'.port = o.port) (hn : o'.session = o.session)
    (ht : o'.tag = o.tag) : (s.setOut o').respond o code payload = s.respond o code payload := by
  unfold State.respond
  rw [logDone_setOut]
  unfold State.place
  rw [dropOut_setOut o o' _ hp hn ht]

/-! ## A command row -/

/-- A command whose owner has its turn is begun, and its owner acts on it. -/
theorem command_runs {op : Nat} {r : Req} {o : Outstanding} {s u : State} (h : Runs op r o s u) (owner : Outstanding → State → State) :
    s.command op r owner = owner o u := by
  have ht : s.take op r = (u, some o) := by
    have hf := h.found
    have ho := h.opcode
    have hb := h.begun
    rw [h.turn]
    cases o
    simp only at hb ho
    subst hb ho
    simp [State.take, hf]
  have hd : ¬ o.deadline ≤ u.now := by
    have := h.inTime
    rw [h.turn]
    show ¬ o.deadline ≤ s.now
    omega
  have hr : u.deviceRefusal op = none := by rw [h.turn]; exact h.free
  simp only [State.command, ht, hd, if_false, hr]

/-- A well-formed payload lets the owner go on. -/
theorem wellFormed_fits {o : Outstanding} {len : Nat} {zs : List (Nat × Nat)} (h : o.fits len zs) (body : State → State) (s : State) :
    s.wellFormed o len zs body = body s := by
  have h' : payloadFault o.payload len zs = none := h
  simp [State.wellFormed, h']

/-- A payload of the right form whose fields hold listed values lets the owner go on. -/
theorem formedBy_fits {o : Outstanding} {len : Nat} {fields : List (Bool × Nat)} {zs : List (Nat × Nat)} (h : o.fits len zs)
    (hf : ∀ x ∈ fields, x.1 = false) (body : State → State) (s : State) : s.formedBy o len fields zs body = body s := by
  have h' : payloadFault o.payload len zs = none := h
  have hl : o.payload.length = len := by
    by_cases hl : o.payload.length = len
    · exact hl
    · simp [payloadFault, hl] at h'
  have hz : zs.filterMap (fun z => firstNonZero o.payload z.1 z.2) = [] := by
    simp only [payloadFault, hl, ne_eq, not_true_eq_false, if_false, List.findSome?_eq_none_iff] at h'
    simpa [List.filterMap_eq_nil_iff] using fun a b => h' (a, b)
  have hfs : fields.filterMap (fun x => if x.1 then some x.2 else none) = [] := by
    simp only [List.filterMap_eq_nil_iff]
    intro x hx
    simp [hf x hx]
  simp [State.formedBy, formFault, hl, hz, hfs]

/-- An order that none of the same edge opposes runs. -/
theorem order_unopposed {objects : List (Nat × Nat)} {s : State} (h : s.unopposed objects) (o : Outstanding) (body : State → State) :
    s.order o objects body = body s := by
  have h' : s.winner objects = none := h
  simp [State.order, h']

/-- An order that one of the same edge opposes is superseded by it. -/
theorem order_opposed {objects : List (Nat × Nat)} {s : State} {w : EdgeOrder} (h : s.winner objects = some w) (o : Outstanding)
    (body : State → State) :
    s.order o objects body = s.respond o cSuperseded (le 1 w.port.index ++ zeros 1 ++ le 2 w.opcode) := by
  simp [State.order, h]

/-- Checks that all hold let the owner go on. -/
theorem checks_pass {cs : List (Bool × Nat)} (h : firstDetail cs = none) (o : Outstanding) (body : State → State) (s : State) :
    s.checks o cs body = body s := by
  simp [State.checks, h]

/-- The first check that fails refuses the command with its detail. -/
theorem checks_fail {cs : List (Bool × Nat)} {d : Nat} (h : firstDetail cs = some d) (o : Outstanding) (body : State → State) (s : State) :
    s.checks o cs body = s.refuse o d := by
  simp [State.checks, h]

end Sys2Proof.Machine
end

