-- ==== Sys2Proof/Laws/Frames.lean ====
section
/-! SUPPORT. What the shared operations leave alone: one lemma for what each touches, and one per field it does not. -/

namespace Sys2Proof.Machine

@[simp] theorem putRec_part (r : Rec) (s : State) : (s.putRec r).part = s.part := by unfold State.putRec; split <;> rfl
@[simp] theorem putRec_clk (r : Rec) (s : State) : (s.putRec r).clk = s.clk := by unfold State.putRec; split <;> rfl
@[simp] theorem putRec_cores (r : Rec) (s : State) : (s.putRec r).cores = s.cores := by unfold State.putRec; split <;> rfl
@[simp] theorem putRec_paths (r : Rec) (s : State) : (s.putRec r).paths = s.paths := by unfold State.putRec; split <;> rfl
@[simp] theorem putRec_mb (r : Rec) (s : State) : (s.putRec r).mb = s.mb := by unfold State.putRec; split <;> rfl
@[simp] theorem putRec_svc (r : Rec) (s : State) : (s.putRec r).svc = s.svc := by unfold State.putRec; split <;> rfl
@[simp] theorem putRec_stw (r : Rec) (s : State) : (s.putRec r).stw = s.stw := by unfold State.putRec; split <;> rfl
@[simp] theorem putRec_cus (r : Rec) (s : State) : (s.putRec r).cus = s.cus := by unfold State.putRec; split <;> rfl
@[simp] theorem putRec_pwr (r : Rec) (s : State) : (s.putRec r).pwr = s.pwr := by unfold State.putRec; split <;> rfl
@[simp] theorem putRec_nose (r : Rec) (s : State) : (s.putRec r).nose = s.nose := by unfold State.putRec; split <;> rfl
@[simp] theorem putRec_frm (r : Rec) (s : State) : (s.putRec r).frm = s.frm := by unfold State.putRec; split <;> rfl
@[simp] theorem putRec_fus (r : Rec) (s : State) : (s.putRec r).fus = s.fus := by unfold State.putRec; split <;> rfl
@[simp] theorem putRec_vlt (r : Rec) (s : State) : (s.putRec r).vlt = s.vlt := by unfold State.putRec; split <;> rfl
@[simp] theorem putRec_flc (r : Rec) (s : State) : (s.putRec r).flc = s.flc := by unfold State.putRec; split <;> rfl
@[simp] theorem putRec_cry (r : Rec) (s : State) : (s.putRec r).cry = s.cry := by unfold State.putRec; split <;> rfl
@[simp] theorem putRec_boot (r : Rec) (s : State) : (s.putRec r).boot = s.boot := by unfold State.putRec; split <;> rfl
@[simp] theorem putRec_wdn (r : Rec) (s : State) : (s.putRec r).wdn = s.wdn := by unfold State.putRec; split <;> rfl
@[simp] theorem putRec_lanes (r : Rec) (s : State) : (s.putRec r).lanes = s.lanes := by unfold State.putRec; split <;> rfl
@[simp] theorem putRec_pcr (r : Rec) (s : State) : (s.putRec r).pcr = s.pcr := by unfold State.putRec; split <;> rfl
@[simp] theorem putRec_banks (r : Rec) (s : State) : (s.putRec r).banks = s.banks := by unfold State.putRec; split <;> rfl
@[simp] theorem putRec_comps (r : Rec) (s : State) : (s.putRec r).comps = s.comps := by unfold State.putRec; split <;> rfl
@[simp] theorem putRec_net (r : Rec) (s : State) : (s.putRec r).net = s.net := by unfold State.putRec; split <;> rfl
@[simp] theorem putRec_links (r : Rec) (s : State) : (s.putRec r).links = s.links := by unfold State.putRec; split <;> rfl
@[simp] theorem putRec_free (r : Rec) (s : State) : (s.putRec r).free = s.free := by unfold State.putRec; split <;> rfl
@[simp] theorem putRec_random (r : Rec) (s : State) : (s.putRec r).random = s.random := by unfold State.putRec; split <;> rfl
@[simp] theorem putRec_pending (r : Rec) (s : State) : (s.putRec r).pending = s.pending := by unfold State.putRec; split <;> rfl
theorem putRec_frame (r : Rec) (s : State) :
    s.putRec r = { s with log := (s.putRec r).log } := by
  apply State.ext <;> simp

@[simp] theorem logAt_part (t a b c d e f : Nat) (s : State) : (s.logAt t a b c d e f).part = s.part := putRec_part _ _
@[simp] theorem logAt_clk (t a b c d e f : Nat) (s : State) : (s.logAt t a b c d e f).clk = s.clk := putRec_clk _ _
@[simp] theorem logAt_cores (t a b c d e f : Nat) (s : State) : (s.logAt t a b c d e f).cores = s.cores := putRec_cores _ _
@[simp] theorem logAt_paths (t a b c d e f : Nat) (s : State) : (s.logAt t a b c d e f).paths = s.paths := putRec_paths _ _
@[simp] theorem logAt_mb (t a b c d e f : Nat) (s : State) : (s.logAt t a b c d e f).mb = s.mb := putRec_mb _ _
@[simp] theorem logAt_svc (t a b c d e f : Nat) (s : State) : (s.logAt t a b c d e f).svc = s.svc := putRec_svc _ _
@[simp] theorem logAt_stw (t a b c d e f : Nat) (s : State) : (s.logAt t a b c d e f).stw = s.stw := putRec_stw _ _
@[simp] theorem logAt_cus (t a b c d e f : Nat) (s : State) : (s.logAt t a b c d e f).cus = s.cus := putRec_cus _ _
@[simp] theorem logAt_pwr (t a b c d e f : Nat) (s : State) : (s.logAt t a b c d e f).pwr = s.pwr := putRec_pwr _ _
@[simp] theorem logAt_nose (t a b c d e f : Nat) (s : State) : (s.logAt t a b c d e f).nose = s.nose := putRec_nose _ _
@[simp] theorem logAt_frm (t a b c d e f : Nat) (s : State) : (s.logAt t a b c d e f).frm = s.frm := putRec_frm _ _
@[simp] theorem logAt_fus (t a b c d e f : Nat) (s : State) : (s.logAt t a b c d e f).fus = s.fus := putRec_fus _ _
@[simp] theorem logAt_vlt (t a b c d e f : Nat) (s : State) : (s.logAt t a b c d e f).vlt = s.vlt := putRec_vlt _ _
@[simp] theorem logAt_flc (t a b c d e f : Nat) (s : State) : (s.logAt t a b c d e f).flc = s.flc := putRec_flc _ _
@[simp] theorem logAt_cry (t a b c d e f : Nat) (s : State) : (s.logAt t a b c d e f).cry = s.cry := putRec_cry _ _
@[simp] theorem logAt_boot (t a b c d e f : Nat) (s : State) : (s.logAt t a b c d e f).boot = s.boot := putRec_boot _ _
@[simp] theorem logAt_wdn (t a b c d e f : Nat) (s : State) : (s.logAt t a b c d e f).wdn = s.wdn := putRec_wdn _ _
@[simp] theorem logAt_lanes (t a b c d e f : Nat) (s : State) : (s.logAt t a b c d e f).lanes = s.lanes := putRec_lanes _ _
@[simp] theorem logAt_pcr (t a b c d e f : Nat) (s : State) : (s.logAt t a b c d e f).pcr = s.pcr := putRec_pcr _ _
@[simp] theorem logAt_banks (t a b c d e f : Nat) (s : State) : (s.logAt t a b c d e f).banks = s.banks := putRec_banks _ _
@[simp] theorem logAt_comps (t a b c d e f : Nat) (s : State) : (s.logAt t a b c d e f).comps = s.comps := putRec_comps _ _
@[simp] theorem logAt_net (t a b c d e f : Nat) (s : State) : (s.logAt t a b c d e f).net = s.net := putRec_net _ _
@[simp] theorem logAt_links (t a b c d e f : Nat) (s : State) : (s.logAt t a b c d e f).links = s.links := putRec_links _ _
@[simp] theorem logAt_free (t a b c d e f : Nat) (s : State) : (s.logAt t a b c d e f).free = s.free := putRec_free _ _
@[simp] theorem logAt_random (t a b c d e f : Nat) (s : State) : (s.logAt t a b c d e f).random = s.random := putRec_random _ _
@[simp] theorem logAt_pending (t a b c d e f : Nat) (s : State) : (s.logAt t a b c d e f).pending = s.pending := putRec_pending _ _
theorem logAt_frame (t a b c d e f : Nat) (s : State) :
    s.logAt t a b c d e f = { s with log := (s.logAt t a b c d e f).log } := by
  apply State.ext <;> simp

@[simp] theorem event_part (a b c d e f : Nat) (s : State) : (s.event a b c d e f).part = s.part := putRec_part _ _
@[simp] theorem event_clk (a b c d e f : Nat) (s : State) : (s.event a b c d e f).clk = s.clk := putRec_clk _ _
@[simp] theorem event_cores (a b c d e f : Nat) (s : State) : (s.event a b c d e f).cores = s.cores := putRec_cores _ _
@[simp] theorem event_paths (a b c d e f : Nat) (s : State) : (s.event a b c d e f).paths = s.paths := putRec_paths _ _
@[simp] theorem event_mb (a b c d e f : Nat) (s : State) : (s.event a b c d e f).mb = s.mb := putRec_mb _ _
@[simp] theorem event_svc (a b c d e f : Nat) (s : State) : (s.event a b c d e f).svc = s.svc := putRec_svc _ _
@[simp] theorem event_stw (a b c d e f : Nat) (s : State) : (s.event a b c d e f).stw = s.stw := putRec_stw _ _
@[simp] theorem event_cus (a b c d e f : Nat) (s : State) : (s.event a b c d e f).cus = s.cus := putRec_cus _ _
@[simp] theorem event_pwr (a b c d e f : Nat) (s : State) : (s.event a b c d e f).pwr = s.pwr := putRec_pwr _ _
@[simp] theorem event_nose (a b c d e f : Nat) (s : State) : (s.event a b c d e f).nose = s.nose := putRec_nose _ _
@[simp] theorem event_frm (a b c d e f : Nat) (s : State) : (s.event a b c d e f).frm = s.frm := putRec_frm _ _
@[simp] theorem event_fus (a b c d e f : Nat) (s : State) : (s.event a b c d e f).fus = s.fus := putRec_fus _ _
@[simp] theorem event_vlt (a b c d e f : Nat) (s : State) : (s.event a b c d e f).vlt = s.vlt := putRec_vlt _ _
@[simp] theorem event_flc (a b c d e f : Nat) (s : State) : (s.event a b c d e f).flc = s.flc := putRec_flc _ _
@[simp] theorem event_cry (a b c d e f : Nat) (s : State) : (s.event a b c d e f).cry = s.cry := putRec_cry _ _
@[simp] theorem event_boot (a b c d e f : Nat) (s : State) : (s.event a b c d e f).boot = s.boot := putRec_boot _ _
@[simp] theorem event_wdn (a b c d e f : Nat) (s : State) : (s.event a b c d e f).wdn = s.wdn := putRec_wdn _ _
@[simp] theorem event_lanes (a b c d e f : Nat) (s : State) : (s.event a b c d e f).lanes = s.lanes := putRec_lanes _ _
@[simp] theorem event_pcr (a b c d e f : Nat) (s : State) : (s.event a b c d e f).pcr = s.pcr := putRec_pcr _ _
@[simp] theorem event_banks (a b c d e f : Nat) (s : State) : (s.event a b c d e f).banks = s.banks := putRec_banks _ _
@[simp] theorem event_comps (a b c d e f : Nat) (s : State) : (s.event a b c d e f).comps = s.comps := putRec_comps _ _
@[simp] theorem event_net (a b c d e f : Nat) (s : State) : (s.event a b c d e f).net = s.net := putRec_net _ _
@[simp] theorem event_links (a b c d e f : Nat) (s : State) : (s.event a b c d e f).links = s.links := putRec_links _ _
@[simp] theorem event_free (a b c d e f : Nat) (s : State) : (s.event a b c d e f).free = s.free := putRec_free _ _
@[simp] theorem event_random (a b c d e f : Nat) (s : State) : (s.event a b c d e f).random = s.random := putRec_random _ _
@[simp] theorem event_pending (a b c d e f : Nat) (s : State) : (s.event a b c d e f).pending = s.pending := putRec_pending _ _
theorem event_frame (a b c d e f : Nat) (s : State) :
    s.event a b c d e f = { s with log := (s.event a b c d e f).log } := by
  apply State.ext <;> simp

@[simp] theorem eventLate_part (a b c d e f : Nat) (s : State) : (s.eventLate a b c d e f).part = s.part := putRec_part _ _
@[simp] theorem eventLate_clk (a b c d e f : Nat) (s : State) : (s.eventLate a b c d e f).clk = s.clk := putRec_clk _ _
@[simp] theorem eventLate_cores (a b c d e f : Nat) (s : State) : (s.eventLate a b c d e f).cores = s.cores := putRec_cores _ _
@[simp] theorem eventLate_paths (a b c d e f : Nat) (s : State) : (s.eventLate a b c d e f).paths = s.paths := putRec_paths _ _
@[simp] theorem eventLate_mb (a b c d e f : Nat) (s : State) : (s.eventLate a b c d e f).mb = s.mb := putRec_mb _ _
@[simp] theorem eventLate_svc (a b c d e f : Nat) (s : State) : (s.eventLate a b c d e f).svc = s.svc := putRec_svc _ _
@[simp] theorem eventLate_stw (a b c d e f : Nat) (s : State) : (s.eventLate a b c d e f).stw = s.stw := putRec_stw _ _
@[simp] theorem eventLate_cus (a b c d e f : Nat) (s : State) : (s.eventLate a b c d e f).cus = s.cus := putRec_cus _ _
@[simp] theorem eventLate_pwr (a b c d e f : Nat) (s : State) : (s.eventLate a b c d e f).pwr = s.pwr := putRec_pwr _ _
@[simp] theorem eventLate_nose (a b c d e f : Nat) (s : State) : (s.eventLate a b c d e f).nose = s.nose := putRec_nose _ _
@[simp] theorem eventLate_frm (a b c d e f : Nat) (s : State) : (s.eventLate a b c d e f).frm = s.frm := putRec_frm _ _
@[simp] theorem eventLate_fus (a b c d e f : Nat) (s : State) : (s.eventLate a b c d e f).fus = s.fus := putRec_fus _ _
@[simp] theorem eventLate_vlt (a b c d e f : Nat) (s : State) : (s.eventLate a b c d e f).vlt = s.vlt := putRec_vlt _ _
@[simp] theorem eventLate_flc (a b c d e f : Nat) (s : State) : (s.eventLate a b c d e f).flc = s.flc := putRec_flc _ _
@[simp] theorem eventLate_cry (a b c d e f : Nat) (s : State) : (s.eventLate a b c d e f).cry = s.cry := putRec_cry _ _
@[simp] theorem eventLate_boot (a b c d e f : Nat) (s : State) : (s.eventLate a b c d e f).boot = s.boot := putRec_boot _ _
@[simp] theorem eventLate_wdn (a b c d e f : Nat) (s : State) : (s.eventLate a b c d e f).wdn = s.wdn := putRec_wdn _ _
@[simp] theorem eventLate_lanes (a b c d e f : Nat) (s : State) : (s.eventLate a b c d e f).lanes = s.lanes := putRec_lanes _ _
@[simp] theorem eventLate_pcr (a b c d e f : Nat) (s : State) : (s.eventLate a b c d e f).pcr = s.pcr := putRec_pcr _ _
@[simp] theorem eventLate_banks (a b c d e f : Nat) (s : State) : (s.eventLate a b c d e f).banks = s.banks := putRec_banks _ _
@[simp] theorem eventLate_comps (a b c d e f : Nat) (s : State) : (s.eventLate a b c d e f).comps = s.comps := putRec_comps _ _
@[simp] theorem eventLate_net (a b c d e f : Nat) (s : State) : (s.eventLate a b c d e f).net = s.net := putRec_net _ _
@[simp] theorem eventLate_links (a b c d e f : Nat) (s : State) : (s.eventLate a b c d e f).links = s.links := putRec_links _ _
@[simp] theorem eventLate_free (a b c d e f : Nat) (s : State) : (s.eventLate a b c d e f).free = s.free := putRec_free _ _
@[simp] theorem eventLate_random (a b c d e f : Nat) (s : State) : (s.eventLate a b c d e f).random = s.random := putRec_random _ _
@[simp] theorem eventLate_pending (a b c d e f : Nat) (s : State) : (s.eventLate a b c d e f).pending = s.pending := putRec_pending _ _
theorem eventLate_frame (a b c d e f : Nat) (s : State) :
    s.eventLate a b c d e f = { s with log := (s.eventLate a b c d e f).log } := by
  apply State.ext <;> simp

@[simp] theorem discardAnswer_part (p : Port) (n : Nat) (f : Frame) (s : State) : (s.discardAnswer p n f).part = s.part := putRec_part _ _
@[simp] theorem discardAnswer_clk (p : Port) (n : Nat) (f : Frame) (s : State) : (s.discardAnswer p n f).clk = s.clk := putRec_clk _ _
@[simp] theorem discardAnswer_cores (p : Port) (n : Nat) (f : Frame) (s : State) : (s.discardAnswer p n f).cores = s.cores := putRec_cores _ _
@[simp] theorem discardAnswer_paths (p : Port) (n : Nat) (f : Frame) (s : State) : (s.discardAnswer p n f).paths = s.paths := putRec_paths _ _
@[simp] theorem discardAnswer_mb (p : Port) (n : Nat) (f : Frame) (s : State) : (s.discardAnswer p n f).mb = s.mb := putRec_mb _ _
@[simp] theorem discardAnswer_svc (p : Port) (n : Nat) (f : Frame) (s : State) : (s.discardAnswer p n f).svc = s.svc := putRec_svc _ _
@[simp] theorem discardAnswer_stw (p : Port) (n : Nat) (f : Frame) (s : State) : (s.discardAnswer p n f).stw = s.stw := putRec_stw _ _
@[simp] theorem discardAnswer_cus (p : Port) (n : Nat) (f : Frame) (s : State) : (s.discardAnswer p n f).cus = s.cus := putRec_cus _ _
@[simp] theorem discardAnswer_pwr (p : Port) (n : Nat) (f : Frame) (s : State) : (s.discardAnswer p n f).pwr = s.pwr := putRec_pwr _ _
@[simp] theorem discardAnswer_nose (p : Port) (n : Nat) (f : Frame) (s : State) : (s.discardAnswer p n f).nose = s.nose := putRec_nose _ _
@[simp] theorem discardAnswer_frm (p : Port) (n : Nat) (f : Frame) (s : State) : (s.discardAnswer p n f).frm = s.frm := putRec_frm _ _
@[simp] theorem discardAnswer_fus (p : Port) (n : Nat) (f : Frame) (s : State) : (s.discardAnswer p n f).fus = s.fus := putRec_fus _ _
@[simp] theorem discardAnswer_vlt (p : Port) (n : Nat) (f : Frame) (s : State) : (s.discardAnswer p n f).vlt = s.vlt := putRec_vlt _ _
@[simp] theorem discardAnswer_flc (p : Port) (n : Nat) (f : Frame) (s : State) : (s.discardAnswer p n f).flc = s.flc := putRec_flc _ _
@[simp] theorem discardAnswer_cry (p : Port) (n : Nat) (f : Frame) (s : State) : (s.discardAnswer p n f).cry = s.cry := putRec_cry _ _
@[simp] theorem discardAnswer_boot (p : Port) (n : Nat) (f : Frame) (s : State) : (s.discardAnswer p n f).boot = s.boot := putRec_boot _ _
@[simp] theorem discardAnswer_wdn (p : Port) (n : Nat) (f : Frame) (s : State) : (s.discardAnswer p n f).wdn = s.wdn := putRec_wdn _ _
@[simp] theorem discardAnswer_lanes (p : Port) (n : Nat) (f : Frame) (s : State) : (s.discardAnswer p n f).lanes = s.lanes := putRec_lanes _ _
@[simp] theorem discardAnswer_pcr (p : Port) (n : Nat) (f : Frame) (s : State) : (s.discardAnswer p n f).pcr = s.pcr := putRec_pcr _ _
@[simp] theorem discardAnswer_banks (p : Port) (n : Nat) (f : Frame) (s : State) : (s.discardAnswer p n f).banks = s.banks := putRec_banks _ _
@[simp] theorem discardAnswer_comps (p : Port) (n : Nat) (f : Frame) (s : State) : (s.discardAnswer p n f).comps = s.comps := putRec_comps _ _
@[simp] theorem discardAnswer_net (p : Port) (n : Nat) (f : Frame) (s : State) : (s.discardAnswer p n f).net = s.net := putRec_net _ _
@[simp] theorem discardAnswer_links (p : Port) (n : Nat) (f : Frame) (s : State) : (s.discardAnswer p n f).links = s.links := putRec_links _ _
@[simp] theorem discardAnswer_free (p : Port) (n : Nat) (f : Frame) (s : State) : (s.discardAnswer p n f).free = s.free := putRec_free _ _
@[simp] theorem discardAnswer_random (p : Port) (n : Nat) (f : Frame) (s : State) : (s.discardAnswer p n f).random = s.random := putRec_random _ _
@[simp] theorem discardAnswer_pending (p : Port) (n : Nat) (f : Frame) (s : State) : (s.discardAnswer p n f).pending = s.pending := putRec_pending _ _
theorem discardAnswer_frame (p : Port) (n : Nat) (f : Frame) (s : State) :
    s.discardAnswer p n f = { s with log := (s.discardAnswer p n f).log } := by
  apply State.ext <;> simp

@[simp] theorem answer_part (p : Port) (n : Nat) (f : Frame) (s : State) : (s.answer p n f).part = s.part := by
  unfold State.answer; (repeat' split) <;> first | rfl | simp
@[simp] theorem answer_clk (p : Port) (n : Nat) (f : Frame) (s : State) : (s.answer p n f).clk = s.clk := by
  unfold State.answer; (repeat' split) <;> first | rfl | simp
@[simp] theorem answer_cores (p : Port) (n : Nat) (f : Frame) (s : State) : (s.answer p n f).cores = s.cores := by
  unfold State.answer; (repeat' split) <;> first | rfl | simp
@[simp] theorem answer_paths (p : Port) (n : Nat) (f : Frame) (s : State) : (s.answer p n f).paths = s.paths := by
  unfold State.answer; (repeat' split) <;> first | rfl | simp
@[simp] theorem answer_pwr (p : Port) (n : Nat) (f : Frame) (s : State) : (s.answer p n f).pwr = s.pwr := by
  unfold State.answer; (repeat' split) <;> first | rfl | simp
@[simp] theorem answer_nose (p : Port) (n : Nat) (f : Frame) (s : State) : (s.answer p n f).nose = s.nose := by
  unfold State.answer; (repeat' split) <;> first | rfl | simp
@[simp] theorem answer_frm (p : Port) (n : Nat) (f : Frame) (s : State) : (s.answer p n f).frm = s.frm := by
  unfold State.answer; (repeat' split) <;> first | rfl | simp
@[simp] theorem answer_fus (p : Port) (n : Nat) (f : Frame) (s : State) : (s.answer p n f).fus = s.fus := by
  unfold State.answer; (repeat' split) <;> first | rfl | simp
@[simp] theorem answer_vlt (p : Port) (n : Nat) (f : Frame) (s : State) : (s.answer p n f).vlt = s.vlt := by
  unfold State.answer; (repeat' split) <;> first | rfl | simp
@[simp] theorem answer_flc (p : Port) (n : Nat) (f : Frame) (s : State) : (s.answer p n f).flc = s.flc := by
  unfold State.answer; (repeat' split) <;> first | rfl | simp
@[simp] theorem answer_cry (p : Port) (n : Nat) (f : Frame) (s : State) : (s.answer p n f).cry = s.cry := by
  unfold State.answer; (repeat' split) <;> first | rfl | simp
@[simp] theorem answer_boot (p : Port) (n : Nat) (f : Frame) (s : State) : (s.answer p n f).boot = s.boot := by
  unfold State.answer; (repeat' split) <;> first | rfl | simp
@[simp] theorem answer_wdn (p : Port) (n : Nat) (f : Frame) (s : State) : (s.answer p n f).wdn = s.wdn := by
  unfold State.answer; (repeat' split) <;> first | rfl | simp
@[simp] theorem answer_lanes (p : Port) (n : Nat) (f : Frame) (s : State) : (s.answer p n f).lanes = s.lanes := by
  unfold State.answer; (repeat' split) <;> first | rfl | simp
@[simp] theorem answer_pcr (p : Port) (n : Nat) (f : Frame) (s : State) : (s.answer p n f).pcr = s.pcr := by
  unfold State.answer; (repeat' split) <;> first | rfl | simp
@[simp] theorem answer_banks (p : Port) (n : Nat) (f : Frame) (s : State) : (s.answer p n f).banks = s.banks := by
  unfold State.answer; (repeat' split) <;> first | rfl | simp
@[simp] theorem answer_comps (p : Port) (n : Nat) (f : Frame) (s : State) : (s.answer p n f).comps = s.comps := by
  unfold State.answer; (repeat' split) <;> first | rfl | simp
@[simp] theorem answer_net (p : Port) (n : Nat) (f : Frame) (s : State) : (s.answer p n f).net = s.net := by
  unfold State.answer; (repeat' split) <;> first | rfl | simp
@[simp] theorem answer_links (p : Port) (n : Nat) (f : Frame) (s : State) : (s.answer p n f).links = s.links := by
  unfold State.answer; (repeat' split) <;> first | rfl | simp
@[simp] theorem answer_free (p : Port) (n : Nat) (f : Frame) (s : State) : (s.answer p n f).free = s.free := by
  unfold State.answer; (repeat' split) <;> first | rfl | simp
@[simp] theorem answer_random (p : Port) (n : Nat) (f : Frame) (s : State) : (s.answer p n f).random = s.random := by
  unfold State.answer; (repeat' split) <;> first | rfl | simp
@[simp] theorem answer_pending (p : Port) (n : Nat) (f : Frame) (s : State) : (s.answer p n f).pending = s.pending := by
  unfold State.answer; (repeat' split) <;> first | rfl | simp
theorem answer_frame (p : Port) (n : Nat) (f : Frame) (s : State) :
    s.answer p n f = { s with mb := (s.answer p n f).mb, svc := (s.answer p n f).svc, stw := (s.answer p n f).stw, cus := (s.answer p n f).cus, log := (s.answer p n f).log } := by
  apply State.ext <;> simp

@[simp] theorem notice_part (p : Port) (n : Nat) (f : Frame) (s : State) : (s.notice p n f).part = s.part := by
  unfold State.notice; (repeat' split) <;> first | rfl | simp
@[simp] theorem notice_clk (p : Port) (n : Nat) (f : Frame) (s : State) : (s.notice p n f).clk = s.clk := by
  unfold State.notice; (repeat' split) <;> first | rfl | simp
@[simp] theorem notice_cores (p : Port) (n : Nat) (f : Frame) (s : State) : (s.notice p n f).cores = s.cores := by
  unfold State.notice; (repeat' split) <;> first | rfl | simp
@[simp] theorem notice_paths (p : Port) (n : Nat) (f : Frame) (s : State) : (s.notice p n f).paths = s.paths := by
  unfold State.notice; (repeat' split) <;> first | rfl | simp
@[simp] theorem notice_pwr (p : Port) (n : Nat) (f : Frame) (s : State) : (s.notice p n f).pwr = s.pwr := by
  unfold State.notice; (repeat' split) <;> first | rfl | simp
@[simp] theorem notice_nose (p : Port) (n : Nat) (f : Frame) (s : State) : (s.notice p n f).nose = s.nose := by
  unfold State.notice; (repeat' split) <;> first | rfl | simp
@[simp] theorem notice_frm (p : Port) (n : Nat) (f : Frame) (s : State) : (s.notice p n f).frm = s.frm := by
  unfold State.notice; (repeat' split) <;> first | rfl | simp
@[simp] theorem notice_fus (p : Port) (n : Nat) (f : Frame) (s : State) : (s.notice p n f).fus = s.fus := by
  unfold State.notice; (repeat' split) <;> first | rfl | simp
@[simp] theorem notice_vlt (p : Port) (n : Nat) (f : Frame) (s : State) : (s.notice p n f).vlt = s.vlt := by
  unfold State.notice; (repeat' split) <;> first | rfl | simp
@[simp] theorem notice_flc (p : Port) (n : Nat) (f : Frame) (s : State) : (s.notice p n f).flc = s.flc := by
  unfold State.notice; (repeat' split) <;> first | rfl | simp
@[simp] theorem notice_cry (p : Port) (n : Nat) (f : Frame) (s : State) : (s.notice p n f).cry = s.cry := by
  unfold State.notice; (repeat' split) <;> first | rfl | simp
@[simp] theorem notice_boot (p : Port) (n : Nat) (f : Frame) (s : State) : (s.notice p n f).boot = s.boot := by
  unfold State.notice; (repeat' split) <;> first | rfl | simp
@[simp] theorem notice_wdn (p : Port) (n : Nat) (f : Frame) (s : State) : (s.notice p n f).wdn = s.wdn := by
  unfold State.notice; (repeat' split) <;> first | rfl | simp
@[simp] theorem notice_lanes (p : Port) (n : Nat) (f : Frame) (s : State) : (s.notice p n f).lanes = s.lanes := by
  unfold State.notice; (repeat' split) <;> first | rfl | simp
@[simp] theorem notice_pcr (p : Port) (n : Nat) (f : Frame) (s : State) : (s.notice p n f).pcr = s.pcr := by
  unfold State.notice; (repeat' split) <;> first | rfl | simp
@[simp] theorem notice_banks (p : Port) (n : Nat) (f : Frame) (s : State) : (s.notice p n f).banks = s.banks := by
  unfold State.notice; (repeat' split) <;> first | rfl | simp
@[simp] theorem notice_comps (p : Port) (n : Nat) (f : Frame) (s : State) : (s.notice p n f).comps = s.comps := by
  unfold State.notice; (repeat' split) <;> first | rfl | simp
@[simp] theorem notice_net (p : Port) (n : Nat) (f : Frame) (s : State) : (s.notice p n f).net = s.net := by
  unfold State.notice; (repeat' split) <;> first | rfl | simp
@[simp] theorem notice_links (p : Port) (n : Nat) (f : Frame) (s : State) : (s.notice p n f).links = s.links := by
  unfold State.notice; (repeat' split) <;> first | rfl | simp
@[simp] theorem notice_free (p : Port) (n : Nat) (f : Frame) (s : State) : (s.notice p n f).free = s.free := by
  unfold State.notice; (repeat' split) <;> first | rfl | simp
@[simp] theorem notice_random (p : Port) (n : Nat) (f : Frame) (s : State) : (s.notice p n f).random = s.random := by
  unfold State.notice; (repeat' split) <;> first | rfl | simp
@[simp] theorem notice_pending (p : Port) (n : Nat) (f : Frame) (s : State) : (s.notice p n f).pending = s.pending := by
  unfold State.notice; (repeat' split) <;> first | rfl | simp
theorem notice_frame (p : Port) (n : Nat) (f : Frame) (s : State) :
    s.notice p n f = { s with mb := (s.notice p n f).mb, svc := (s.notice p n f).svc, stw := (s.notice p n f).stw, cus := (s.notice p n f).cus, log := (s.notice p n f).log } := by
  apply State.ext <;> simp

@[simp] theorem dropOut_part (o : Outstanding) (s : State) : (s.dropOut o).part = s.part := rfl
@[simp] theorem dropOut_clk (o : Outstanding) (s : State) : (s.dropOut o).clk = s.clk := rfl
@[simp] theorem dropOut_cores (o : Outstanding) (s : State) : (s.dropOut o).cores = s.cores := rfl
@[simp] theorem dropOut_mb (o : Outstanding) (s : State) : (s.dropOut o).mb = s.mb := rfl
@[simp] theorem dropOut_svc (o : Outstanding) (s : State) : (s.dropOut o).svc = s.svc := rfl
@[simp] theorem dropOut_stw (o : Outstanding) (s : State) : (s.dropOut o).stw = s.stw := rfl
@[simp] theorem dropOut_cus (o : Outstanding) (s : State) : (s.dropOut o).cus = s.cus := rfl
@[simp] theorem dropOut_log (o : Outstanding) (s : State) : (s.dropOut o).log = s.log := rfl
@[simp] theorem dropOut_pwr (o : Outstanding) (s : State) : (s.dropOut o).pwr = s.pwr := rfl
@[simp] theorem dropOut_nose (o : Outstanding) (s : State) : (s.dropOut o).nose = s.nose := rfl
@[simp] theorem dropOut_frm (o : Outstanding) (s : State) : (s.dropOut o).frm = s.frm := rfl
@[simp] theorem dropOut_fus (o : Outstanding) (s : State) : (s.dropOut o).fus = s.fus := rfl
@[simp] theorem dropOut_vlt (o : Outstanding) (s : State) : (s.dropOut o).vlt = s.vlt := rfl
@[simp] theorem dropOut_flc (o : Outstanding) (s : State) : (s.dropOut o).flc = s.flc := rfl
@[simp] theorem dropOut_cry (o : Outstanding) (s : State) : (s.dropOut o).cry = s.cry := rfl
@[simp] theorem dropOut_boot (o : Outstanding) (s : State) : (s.dropOut o).boot = s.boot := rfl
@[simp] theorem dropOut_wdn (o : Outstanding) (s : State) : (s.dropOut o).wdn = s.wdn := rfl
@[simp] theorem dropOut_lanes (o : Outstanding) (s : State) : (s.dropOut o).lanes = s.lanes := rfl
@[simp] theorem dropOut_pcr (o : Outstanding) (s : State) : (s.dropOut o).pcr = s.pcr := rfl
@[simp] theorem dropOut_banks (o : Outstanding) (s : State) : (s.dropOut o).banks = s.banks := rfl
@[simp] theorem dropOut_comps (o : Outstanding) (s : State) : (s.dropOut o).comps = s.comps := rfl
@[simp] theorem dropOut_net (o : Outstanding) (s : State) : (s.dropOut o).net = s.net := rfl
@[simp] theorem dropOut_links (o : Outstanding) (s : State) : (s.dropOut o).links = s.links := rfl
@[simp] theorem dropOut_free (o : Outstanding) (s : State) : (s.dropOut o).free = s.free := rfl
@[simp] theorem dropOut_random (o : Outstanding) (s : State) : (s.dropOut o).random = s.random := rfl
@[simp] theorem dropOut_pending (o : Outstanding) (s : State) : (s.dropOut o).pending = s.pending := rfl
theorem dropOut_frame (o : Outstanding) (s : State) :
    s.dropOut o = { s with paths := (s.dropOut o).paths } := by
  apply State.ext <;> simp

@[simp] theorem logDone_part (late : Bool) (o : Outstanding) (c : Nat) (b : Bytes) (s : State) : (s.logDone late o c b).part = s.part := by
  unfold State.logDone; (repeat' split) <;> first | rfl | simp
@[simp] theorem logDone_clk (late : Bool) (o : Outstanding) (c : Nat) (b : Bytes) (s : State) : (s.logDone late o c b).clk = s.clk := by
  unfold State.logDone; (repeat' split) <;> first | rfl | simp
@[simp] theorem logDone_cores (late : Bool) (o : Outstanding) (c : Nat) (b : Bytes) (s : State) : (s.logDone late o c b).cores = s.cores := by
  unfold State.logDone; (repeat' split) <;> first | rfl | simp
@[simp] theorem logDone_paths (late : Bool) (o : Outstanding) (c : Nat) (b : Bytes) (s : State) : (s.logDone late o c b).paths = s.paths := by
  unfold State.logDone; (repeat' split) <;> first | rfl | simp
@[simp] theorem logDone_mb (late : Bool) (o : Outstanding) (c : Nat) (b : Bytes) (s : State) : (s.logDone late o c b).mb = s.mb := by
  unfold State.logDone; (repeat' split) <;> first | rfl | simp
@[simp] theorem logDone_svc (late : Bool) (o : Outstanding) (c : Nat) (b : Bytes) (s : State) : (s.logDone late o c b).svc = s.svc := by
  unfold State.logDone; (repeat' split) <;> first | rfl | simp
@[simp] theorem logDone_stw (late : Bool) (o : Outstanding) (c : Nat) (b : Bytes) (s : State) : (s.logDone late o c b).stw = s.stw := by
  unfold State.logDone; (repeat' split) <;> first | rfl | simp
@[simp] theorem logDone_cus (late : Bool) (o : Outstanding) (c : Nat) (b : Bytes) (s : State) : (s.logDone late o c b).cus = s.cus := by
  unfold State.logDone; (repeat' split) <;> first | rfl | simp
@[simp] theorem logDone_pwr (late : Bool) (o : Outstanding) (c : Nat) (b : Bytes) (s : State) : (s.logDone late o c b).pwr = s.pwr := by
  unfold State.logDone; (repeat' split) <;> first | rfl | simp
@[simp] theorem logDone_nose (late : Bool) (o : Outstanding) (c : Nat) (b : Bytes) (s : State) : (s.logDone late o c b).nose = s.nose := by
  unfold State.logDone; (repeat' split) <;> first | rfl | simp
@[simp] theorem logDone_frm (late : Bool) (o : Outstanding) (c : Nat) (b : Bytes) (s : State) : (s.logDone late o c b).frm = s.frm := by
  unfold State.logDone; (repeat' split) <;> first | rfl | simp
@[simp] theorem logDone_fus (late : Bool) (o : Outstanding) (c : Nat) (b : Bytes) (s : State) : (s.logDone late o c b).fus = s.fus := by
  unfold State.logDone; (repeat' split) <;> first | rfl | simp
@[simp] theorem logDone_vlt (late : Bool) (o : Outstanding) (c : Nat) (b : Bytes) (s : State) : (s.logDone late o c b).vlt = s.vlt := by
  unfold State.logDone; (repeat' split) <;> first | rfl | simp
@[simp] theorem logDone_flc (late : Bool) (o : Outstanding) (c : Nat) (b : Bytes) (s : State) : (s.logDone late o c b).flc = s.flc := by
  unfold State.logDone; (repeat' split) <;> first | rfl | simp
@[simp] theorem logDone_cry (late : Bool) (o : Outstanding) (c : Nat) (b : Bytes) (s : State) : (s.logDone late o c b).cry = s.cry := by
  unfold State.logDone; (repeat' split) <;> first | rfl | simp
@[simp] theorem logDone_boot (late : Bool) (o : Outstanding) (c : Nat) (b : Bytes) (s : State) : (s.logDone late o c b).boot = s.boot := by
  unfold State.logDone; (repeat' split) <;> first | rfl | simp
@[simp] theorem logDone_wdn (late : Bool) (o : Outstanding) (c : Nat) (b : Bytes) (s : State) : (s.logDone late o c b).wdn = s.wdn := by
  unfold State.logDone; (repeat' split) <;> first | rfl | simp
@[simp] theorem logDone_lanes (late : Bool) (o : Outstanding) (c : Nat) (b : Bytes) (s : State) : (s.logDone late o c b).lanes = s.lanes := by
  unfold State.logDone; (repeat' split) <;> first | rfl | simp
@[simp] theorem logDone_pcr (late : Bool) (o : Outstanding) (c : Nat) (b : Bytes) (s : State) : (s.logDone late o c b).pcr = s.pcr := by
  unfold State.logDone; (repeat' split) <;> first | rfl | simp
@[simp] theorem logDone_banks (late : Bool) (o : Outstanding) (c : Nat) (b : Bytes) (s : State) : (s.logDone late o c b).banks = s.banks := by
  unfold State.logDone; (repeat' split) <;> first | rfl | simp
@[simp] theorem logDone_comps (late : Bool) (o : Outstanding) (c : Nat) (b : Bytes) (s : State) : (s.logDone late o c b).comps = s.comps := by
  unfold State.logDone; (repeat' split) <;> first | rfl | simp
@[simp] theorem logDone_net (late : Bool) (o : Outstanding) (c : Nat) (b : Bytes) (s : State) : (s.logDone late o c b).net = s.net := by
  unfold State.logDone; (repeat' split) <;> first | rfl | simp
@[simp] theorem logDone_links (late : Bool) (o : Outstanding) (c : Nat) (b : Bytes) (s : State) : (s.logDone late o c b).links = s.links := by
  unfold State.logDone; (repeat' split) <;> first | rfl | simp
@[simp] theorem logDone_free (late : Bool) (o : Outstanding) (c : Nat) (b : Bytes) (s : State) : (s.logDone late o c b).free = s.free := by
  unfold State.logDone; (repeat' split) <;> first | rfl | simp
@[simp] theorem logDone_random (late : Bool) (o : Outstanding) (c : Nat) (b : Bytes) (s : State) : (s.logDone late o c b).random = s.random := by
  unfold State.logDone; (repeat' split) <;> first | rfl | simp
@[simp] theorem logDone_pending (late : Bool) (o : Outstanding) (c : Nat) (b : Bytes) (s : State) : (s.logDone late o c b).pending = s.pending := by
  unfold State.logDone; (repeat' split) <;> first | rfl | simp
theorem logDone_frame (late : Bool) (o : Outstanding) (c : Nat) (b : Bytes) (s : State) :
    s.logDone late o c b = { s with log := (s.logDone late o c b).log } := by
  apply State.ext <;> simp

@[simp] theorem place_part (o : Outstanding) (c : Nat) (b : Bytes) (s : State) : (s.place o c b).part = s.part := by
  unfold State.place; (repeat' split) <;> first | rfl | simp
@[simp] theorem place_clk (o : Outstanding) (c : Nat) (b : Bytes) (s : State) : (s.place o c b).clk = s.clk := by
  unfold State.place; (repeat' split) <;> first | rfl | simp
@[simp] theorem place_cores (o : Outstanding) (c : Nat) (b : Bytes) (s : State) : (s.place o c b).cores = s.cores := by
  unfold State.place; (repeat' split) <;> first | rfl | simp
@[simp] theorem place_pwr (o : Outstanding) (c : Nat) (b : Bytes) (s : State) : (s.place o c b).pwr = s.pwr := by
  unfold State.place; (repeat' split) <;> first | rfl | simp
@[simp] theorem place_nose (o : Outstanding) (c : Nat) (b : Bytes) (s : State) : (s.place o c b).nose = s.nose := by
  unfold State.place; (repeat' split) <;> first | rfl | simp
@[simp] theorem place_frm (o : Outstanding) (c : Nat) (b : Bytes) (s : State) : (s.place o c b).frm = s.frm := by
  unfold State.place; (repeat' split) <;> first | rfl | simp
@[simp] theorem place_fus (o : Outstanding) (c : Nat) (b : Bytes) (s : State) : (s.place o c b).fus = s.fus := by
  unfold State.place; (repeat' split) <;> first | rfl | simp
@[simp] theorem place_vlt (o : Outstanding) (c : Nat) (b : Bytes) (s : State) : (s.place o c b).vlt = s.vlt := by
  unfold State.place; (repeat' split) <;> first | rfl | simp
@[simp] theorem place_flc (o : Outstanding) (c : Nat) (b : Bytes) (s : State) : (s.place o c b).flc = s.flc := by
  unfold State.place; (repeat' split) <;> first | rfl | simp
@[simp] theorem place_cry (o : Outstanding) (c : Nat) (b : Bytes) (s : State) : (s.place o c b).cry = s.cry := by
  unfold State.place; (repeat' split) <;> first | rfl | simp
@[simp] theorem place_boot (o : Outstanding) (c : Nat) (b : Bytes) (s : State) : (s.place o c b).boot = s.boot := by
  unfold State.place; (repeat' split) <;> first | rfl | simp
@[simp] theorem place_wdn (o : Outstanding) (c : Nat) (b : Bytes) (s : State) : (s.place o c b).wdn = s.wdn := by
  unfold State.place; (repeat' split) <;> first | rfl | simp
@[simp] theorem place_lanes (o : Outstanding) (c : Nat) (b : Bytes) (s : State) : (s.place o c b).lanes = s.lanes := by
  unfold State.place; (repeat' split) <;> first | rfl | simp
@[simp] theorem place_pcr (o : Outstanding) (c : Nat) (b : Bytes) (s : State) : (s.place o c b).pcr = s.pcr := by
  unfold State.place; (repeat' split) <;> first | rfl | simp
@[simp] theorem place_banks (o : Outstanding) (c : Nat) (b : Bytes) (s : State) : (s.place o c b).banks = s.banks := by
  unfold State.place; (repeat' split) <;> first | rfl | simp
@[simp] theorem place_comps (o : Outstanding) (c : Nat) (b : Bytes) (s : State) : (s.place o c b).comps = s.comps := by
  unfold State.place; (repeat' split) <;> first | rfl | simp
@[simp] theorem place_net (o : Outstanding) (c : Nat) (b : Bytes) (s : State) : (s.place o c b).net = s.net := by
  unfold State.place; (repeat' split) <;> first | rfl | simp
@[simp] theorem place_links (o : Outstanding) (c : Nat) (b : Bytes) (s : State) : (s.place o c b).links = s.links := by
  unfold State.place; (repeat' split) <;> first | rfl | simp
@[simp] theorem place_free (o : Outstanding) (c : Nat) (b : Bytes) (s : State) : (s.place o c b).free = s.free := by
  unfold State.place; (repeat' split) <;> first | rfl | simp
@[simp] theorem place_random (o : Outstanding) (c : Nat) (b : Bytes) (s : State) : (s.place o c b).random = s.random := by
  unfold State.place; (repeat' split) <;> first | rfl | simp
@[simp] theorem place_pending (o : Outstanding) (c : Nat) (b : Bytes) (s : State) : (s.place o c b).pending = s.pending := by
  unfold State.place; (repeat' split) <;> first | rfl | simp
theorem place_frame (o : Outstanding) (c : Nat) (b : Bytes) (s : State) :
    s.place o c b = { s with paths := (s.place o c b).paths, mb := (s.place o c b).mb, svc := (s.place o c b).svc, stw := (s.place o c b).stw, cus := (s.place o c b).cus, log := (s.place o c b).log } := by
  apply State.ext <;> simp

@[simp] theorem respond_part (o : Outstanding) (c : Nat) (b : Bytes) (s : State) : (s.respond o c b).part = s.part := (place_part _ _ _ _).trans (logDone_part _ _ _ _ _)
@[simp] theorem respond_clk (o : Outstanding) (c : Nat) (b : Bytes) (s : State) : (s.respond o c b).clk = s.clk := (place_clk _ _ _ _).trans (logDone_clk _ _ _ _ _)
@[simp] theorem respond_cores (o : Outstanding) (c : Nat) (b : Bytes) (s : State) : (s.respond o c b).cores = s.cores := (place_cores _ _ _ _).trans (logDone_cores _ _ _ _ _)
@[simp] theorem respond_pwr (o : Outstanding) (c : Nat) (b : Bytes) (s : State) : (s.respond o c b).pwr = s.pwr := (place_pwr _ _ _ _).trans (logDone_pwr _ _ _ _ _)
@[simp] theorem respond_nose (o : Outstanding) (c : Nat) (b : Bytes) (s : State) : (s.respond o c b).nose = s.nose := (place_nose _ _ _ _).trans (logDone_nose _ _ _ _ _)
@[simp] theorem respond_frm (o : Outstanding) (c : Nat) (b : Bytes) (s : State) : (s.respond o c b).frm = s.frm := (place_frm _ _ _ _).trans (logDone_frm _ _ _ _ _)
@[simp] theorem respond_fus (o : Outstanding) (c : Nat) (b : Bytes) (s : State) : (s.respond o c b).fus = s.fus := (place_fus _ _ _ _).trans (logDone_fus _ _ _ _ _)
@[simp] theorem respond_vlt (o : Outstanding) (c : Nat) (b : Bytes) (s : State) : (s.respond o c b).vlt = s.vlt := (place_vlt _ _ _ _).trans (logDone_vlt _ _ _ _ _)
@[simp] theorem respond_flc (o : Outstanding) (c : Nat) (b : Bytes) (s : State) : (s.respond o c b).flc = s.flc := (place_flc _ _ _ _).trans (logDone_flc _ _ _ _ _)
@[simp] theorem respond_cry (o : Outstanding) (c : Nat) (b : Bytes) (s : State) : (s.respond o c b).cry = s.cry := (place_cry _ _ _ _).trans (logDone_cry _ _ _ _ _)
@[simp] theorem respond_boot (o : Outstanding) (c : Nat) (b : Bytes) (s : State) : (s.respond o c b).boot = s.boot := (place_boot _ _ _ _).trans (logDone_boot _ _ _ _ _)
@[simp] theorem respond_wdn (o : Outstanding) (c : Nat) (b : Bytes) (s : State) : (s.respond o c b).wdn = s.wdn := (place_wdn _ _ _ _).trans (logDone_wdn _ _ _ _ _)
@[simp] theorem respond_lanes (o : Outstanding) (c : Nat) (b : Bytes) (s : State) : (s.respond o c b).lanes = s.lanes := (place_lanes _ _ _ _).trans (logDone_lanes _ _ _ _ _)
@[simp] theorem respond_pcr (o : Outstanding) (c : Nat) (b : Bytes) (s : State) : (s.respond o c b).pcr = s.pcr := (place_pcr _ _ _ _).trans (logDone_pcr _ _ _ _ _)
@[simp] theorem respond_banks (o : Outstanding) (c : Nat) (b : Bytes) (s : State) : (s.respond o c b).banks = s.banks := (place_banks _ _ _ _).trans (logDone_banks _ _ _ _ _)
@[simp] theorem respond_comps (o : Outstanding) (c : Nat) (b : Bytes) (s : State) : (s.respond o c b).comps = s.comps := (place_comps _ _ _ _).trans (logDone_comps _ _ _ _ _)
@[simp] theorem respond_net (o : Outstanding) (c : Nat) (b : Bytes) (s : State) : (s.respond o c b).net = s.net := (place_net _ _ _ _).trans (logDone_net _ _ _ _ _)
@[simp] theorem respond_links (o : Outstanding) (c : Nat) (b : Bytes) (s : State) : (s.respond o c b).links = s.links := (place_links _ _ _ _).trans (logDone_links _ _ _ _ _)
@[simp] theorem respond_free (o : Outstanding) (c : Nat) (b : Bytes) (s : State) : (s.respond o c b).free = s.free := (place_free _ _ _ _).trans (logDone_free _ _ _ _ _)
@[simp] theorem respond_random (o : Outstanding) (c : Nat) (b : Bytes) (s : State) : (s.respond o c b).random = s.random := (place_random _ _ _ _).trans (logDone_random _ _ _ _ _)
@[simp] theorem respond_pending (o : Outstanding) (c : Nat) (b : Bytes) (s : State) : (s.respond o c b).pending = s.pending := (place_pending _ _ _ _).trans (logDone_pending _ _ _ _ _)
theorem respond_frame (o : Outstanding) (c : Nat) (b : Bytes) (s : State) :
    s.respond o c b = { s with paths := (s.respond o c b).paths, mb := (s.respond o c b).mb, svc := (s.respond o c b).svc, stw := (s.respond o c b).stw, cus := (s.respond o c b).cus, log := (s.respond o c b).log } := by
  apply State.ext <;> simp

@[simp] theorem done_part (o : Outstanding) (b : Bytes) (s : State) : (s.done o b).part = s.part := respond_part _ _ _ _
@[simp] theorem done_clk (o : Outstanding) (b : Bytes) (s : State) : (s.done o b).clk = s.clk := respond_clk _ _ _ _
@[simp] theorem done_cores (o : Outstanding) (b : Bytes) (s : State) : (s.done o b).cores = s.cores := respond_cores _ _ _ _
@[simp] theorem done_pwr (o : Outstanding) (b : Bytes) (s : State) : (s.done o b).pwr = s.pwr := respond_pwr _ _ _ _
@[simp] theorem done_nose (o : Outstanding) (b : Bytes) (s : State) : (s.done o b).nose = s.nose := respond_nose _ _ _ _
@[simp] theorem done_frm (o : Outstanding) (b : Bytes) (s : State) : (s.done o b).frm = s.frm := respond_frm _ _ _ _
@[simp] theorem done_fus (o : Outstanding) (b : Bytes) (s : State) : (s.done o b).fus = s.fus := respond_fus _ _ _ _
@[simp] theorem done_vlt (o : Outstanding) (b : Bytes) (s : State) : (s.done o b).vlt = s.vlt := respond_vlt _ _ _ _
@[simp] theorem done_flc (o : Outstanding) (b : Bytes) (s : State) : (s.done o b).flc = s.flc := respond_flc _ _ _ _
@[simp] theorem done_cry (o : Outstanding) (b : Bytes) (s : State) : (s.done o b).cry = s.cry := respond_cry _ _ _ _
@[simp] theorem done_boot (o : Outstanding) (b : Bytes) (s : State) : (s.done o b).boot = s.boot := respond_boot _ _ _ _
@[simp] theorem done_wdn (o : Outstanding) (b : Bytes) (s : State) : (s.done o b).wdn = s.wdn := respond_wdn _ _ _ _
@[simp] theorem done_lanes (o : Outstanding) (b : Bytes) (s : State) : (s.done o b).lanes = s.lanes := respond_lanes _ _ _ _
@[simp] theorem done_pcr (o : Outstanding) (b : Bytes) (s : State) : (s.done o b).pcr = s.pcr := respond_pcr _ _ _ _
@[simp] theorem done_banks (o : Outstanding) (b : Bytes) (s : State) : (s.done o b).banks = s.banks := respond_banks _ _ _ _
@[simp] theorem done_comps (o : Outstanding) (b : Bytes) (s : State) : (s.done o b).comps = s.comps := respond_comps _ _ _ _
@[simp] theorem done_net (o : Outstanding) (b : Bytes) (s : State) : (s.done o b).net = s.net := respond_net _ _ _ _
@[simp] theorem done_links (o : Outstanding) (b : Bytes) (s : State) : (s.done o b).links = s.links := respond_links _ _ _ _
@[simp] theorem done_free (o : Outstanding) (b : Bytes) (s : State) : (s.done o b).free = s.free := respond_free _ _ _ _
@[simp] theorem done_random (o : Outstanding) (b : Bytes) (s : State) : (s.done o b).random = s.random := respond_random _ _ _ _
@[simp] theorem done_pending (o : Outstanding) (b : Bytes) (s : State) : (s.done o b).pending = s.pending := respond_pending _ _ _ _
theorem done_frame (o : Outstanding) (b : Bytes) (s : State) :
    s.done o b = { s with paths := (s.done o b).paths, mb := (s.done o b).mb, svc := (s.done o b).svc, stw := (s.done o b).stw, cus := (s.done o b).cus, log := (s.done o b).log } := by
  apply State.ext <;> simp

@[simp] theorem refuse_part (o : Outstanding) (d : Nat) (s : State) : (s.refuse o d).part = s.part := respond_part _ _ _ _
@[simp] theorem refuse_clk (o : Outstanding) (d : Nat) (s : State) : (s.refuse o d).clk = s.clk := respond_clk _ _ _ _
@[simp] theorem refuse_cores (o : Outstanding) (d : Nat) (s : State) : (s.refuse o d).cores = s.cores := respond_cores _ _ _ _
@[simp] theorem refuse_pwr (o : Outstanding) (d : Nat) (s : State) : (s.refuse o d).pwr = s.pwr := respond_pwr _ _ _ _
@[simp] theorem refuse_nose (o : Outstanding) (d : Nat) (s : State) : (s.refuse o d).nose = s.nose := respond_nose _ _ _ _
@[simp] theorem refuse_frm (o : Outstanding) (d : Nat) (s : State) : (s.refuse o d).frm = s.frm := respond_frm _ _ _ _
@[simp] theorem refuse_fus (o : Outstanding) (d : Nat) (s : State) : (s.refuse o d).fus = s.fus := respond_fus _ _ _ _
@[simp] theorem refuse_vlt (o : Outstanding) (d : Nat) (s : State) : (s.refuse o d).vlt = s.vlt := respond_vlt _ _ _ _
@[simp] theorem refuse_flc (o : Outstanding) (d : Nat) (s : State) : (s.refuse o d).flc = s.flc := respond_flc _ _ _ _
@[simp] theorem refuse_cry (o : Outstanding) (d : Nat) (s : State) : (s.refuse o d).cry = s.cry := respond_cry _ _ _ _
@[simp] theorem refuse_boot (o : Outstanding) (d : Nat) (s : State) : (s.refuse o d).boot = s.boot := respond_boot _ _ _ _
@[simp] theorem refuse_wdn (o : Outstanding) (d : Nat) (s : State) : (s.refuse o d).wdn = s.wdn := respond_wdn _ _ _ _
@[simp] theorem refuse_lanes (o : Outstanding) (d : Nat) (s : State) : (s.refuse o d).lanes = s.lanes := respond_lanes _ _ _ _
@[simp] theorem refuse_pcr (o : Outstanding) (d : Nat) (s : State) : (s.refuse o d).pcr = s.pcr := respond_pcr _ _ _ _
@[simp] theorem refuse_banks (o : Outstanding) (d : Nat) (s : State) : (s.refuse o d).banks = s.banks := respond_banks _ _ _ _
@[simp] theorem refuse_comps (o : Outstanding) (d : Nat) (s : State) : (s.refuse o d).comps = s.comps := respond_comps _ _ _ _
@[simp] theorem refuse_net (o : Outstanding) (d : Nat) (s : State) : (s.refuse o d).net = s.net := respond_net _ _ _ _
@[simp] theorem refuse_links (o : Outstanding) (d : Nat) (s : State) : (s.refuse o d).links = s.links := respond_links _ _ _ _
@[simp] theorem refuse_free (o : Outstanding) (d : Nat) (s : State) : (s.refuse o d).free = s.free := respond_free _ _ _ _
@[simp] theorem refuse_random (o : Outstanding) (d : Nat) (s : State) : (s.refuse o d).random = s.random := respond_random _ _ _ _
@[simp] theorem refuse_pending (o : Outstanding) (d : Nat) (s : State) : (s.refuse o d).pending = s.pending := respond_pending _ _ _ _
theorem refuse_frame (o : Outstanding) (d : Nat) (s : State) :
    s.refuse o d = { s with paths := (s.refuse o d).paths, mb := (s.refuse o d).mb, svc := (s.refuse o d).svc, stw := (s.refuse o d).stw, cus := (s.refuse o d).cus, log := (s.refuse o d).log } := by
  apply State.ext <;> simp

@[simp] theorem malformed_part (o : Outstanding) (d : Nat) (s : State) : (s.malformed o d).part = s.part := respond_part _ _ _ _
@[simp] theorem malformed_clk (o : Outstanding) (d : Nat) (s : State) : (s.malformed o d).clk = s.clk := respond_clk _ _ _ _
@[simp] theorem malformed_cores (o : Outstanding) (d : Nat) (s : State) : (s.malformed o d).cores = s.cores := respond_cores _ _ _ _
@[simp] theorem malformed_pwr (o : Outstanding) (d : Nat) (s : State) : (s.malformed o d).pwr = s.pwr := respond_pwr _ _ _ _
@[simp] theorem malformed_nose (o : Outstanding) (d : Nat) (s : State) : (s.malformed o d).nose = s.nose := respond_nose _ _ _ _
@[simp] theorem malformed_frm (o : Outstanding) (d : Nat) (s : State) : (s.malformed o d).frm = s.frm := respond_frm _ _ _ _
@[simp] theorem malformed_fus (o : Outstanding) (d : Nat) (s : State) : (s.malformed o d).fus = s.fus := respond_fus _ _ _ _
@[simp] theorem malformed_vlt (o : Outstanding) (d : Nat) (s : State) : (s.malformed o d).vlt = s.vlt := respond_vlt _ _ _ _
@[simp] theorem malformed_flc (o : Outstanding) (d : Nat) (s : State) : (s.malformed o d).flc = s.flc := respond_flc _ _ _ _
@[simp] theorem malformed_cry (o : Outstanding) (d : Nat) (s : State) : (s.malformed o d).cry = s.cry := respond_cry _ _ _ _
@[simp] theorem malformed_boot (o : Outstanding) (d : Nat) (s : State) : (s.malformed o d).boot = s.boot := respond_boot _ _ _ _
@[simp] theorem malformed_wdn (o : Outstanding) (d : Nat) (s : State) : (s.malformed o d).wdn = s.wdn := respond_wdn _ _ _ _
@[simp] theorem malformed_lanes (o : Outstanding) (d : Nat) (s : State) : (s.malformed o d).lanes = s.lanes := respond_lanes _ _ _ _
@[simp] theorem malformed_pcr (o : Outstanding) (d : Nat) (s : State) : (s.malformed o d).pcr = s.pcr := respond_pcr _ _ _ _
@[simp] theorem malformed_banks (o : Outstanding) (d : Nat) (s : State) : (s.malformed o d).banks = s.banks := respond_banks _ _ _ _
@[simp] theorem malformed_comps (o : Outstanding) (d : Nat) (s : State) : (s.malformed o d).comps = s.comps := respond_comps _ _ _ _
@[simp] theorem malformed_net (o : Outstanding) (d : Nat) (s : State) : (s.malformed o d).net = s.net := respond_net _ _ _ _
@[simp] theorem malformed_links (o : Outstanding) (d : Nat) (s : State) : (s.malformed o d).links = s.links := respond_links _ _ _ _
@[simp] theorem malformed_free (o : Outstanding) (d : Nat) (s : State) : (s.malformed o d).free = s.free := respond_free _ _ _ _
@[simp] theorem malformed_random (o : Outstanding) (d : Nat) (s : State) : (s.malformed o d).random = s.random := respond_random _ _ _ _
@[simp] theorem malformed_pending (o : Outstanding) (d : Nat) (s : State) : (s.malformed o d).pending = s.pending := respond_pending _ _ _ _
theorem malformed_frame (o : Outstanding) (d : Nat) (s : State) :
    s.malformed o d = { s with paths := (s.malformed o d).paths, mb := (s.malformed o d).mb, svc := (s.malformed o d).svc, stw := (s.malformed o d).stw, cus := (s.malformed o d).cus, log := (s.malformed o d).log } := by
  apply State.ext <;> simp

@[simp] theorem expire_part (o : Outstanding) (s : State) : (s.expire o).part = s.part := respond_part _ _ _ _
@[simp] theorem expire_clk (o : Outstanding) (s : State) : (s.expire o).clk = s.clk := respond_clk _ _ _ _
@[simp] theorem expire_cores (o : Outstanding) (s : State) : (s.expire o).cores = s.cores := respond_cores _ _ _ _
@[simp] theorem expire_pwr (o : Outstanding) (s : State) : (s.expire o).pwr = s.pwr := respond_pwr _ _ _ _
@[simp] theorem expire_nose (o : Outstanding) (s : State) : (s.expire o).nose = s.nose := respond_nose _ _ _ _
@[simp] theorem expire_frm (o : Outstanding) (s : State) : (s.expire o).frm = s.frm := respond_frm _ _ _ _
@[simp] theorem expire_fus (o : Outstanding) (s : State) : (s.expire o).fus = s.fus := respond_fus _ _ _ _
@[simp] theorem expire_vlt (o : Outstanding) (s : State) : (s.expire o).vlt = s.vlt := respond_vlt _ _ _ _
@[simp] theorem expire_flc (o : Outstanding) (s : State) : (s.expire o).flc = s.flc := respond_flc _ _ _ _
@[simp] theorem expire_cry (o : Outstanding) (s : State) : (s.expire o).cry = s.cry := respond_cry _ _ _ _
@[simp] theorem expire_boot (o : Outstanding) (s : State) : (s.expire o).boot = s.boot := respond_boot _ _ _ _
@[simp] theorem expire_wdn (o : Outstanding) (s : State) : (s.expire o).wdn = s.wdn := respond_wdn _ _ _ _
@[simp] theorem expire_lanes (o : Outstanding) (s : State) : (s.expire o).lanes = s.lanes := respond_lanes _ _ _ _
@[simp] theorem expire_pcr (o : Outstanding) (s : State) : (s.expire o).pcr = s.pcr := respond_pcr _ _ _ _
@[simp] theorem expire_banks (o : Outstanding) (s : State) : (s.expire o).banks = s.banks := respond_banks _ _ _ _
@[simp] theorem expire_comps (o : Outstanding) (s : State) : (s.expire o).comps = s.comps := respond_comps _ _ _ _
@[simp] theorem expire_net (o : Outstanding) (s : State) : (s.expire o).net = s.net := respond_net _ _ _ _
@[simp] theorem expire_links (o : Outstanding) (s : State) : (s.expire o).links = s.links := respond_links _ _ _ _
@[simp] theorem expire_free (o : Outstanding) (s : State) : (s.expire o).free = s.free := respond_free _ _ _ _
@[simp] theorem expire_random (o : Outstanding) (s : State) : (s.expire o).random = s.random := respond_random _ _ _ _
@[simp] theorem expire_pending (o : Outstanding) (s : State) : (s.expire o).pending = s.pending := respond_pending _ _ _ _
theorem expire_frame (o : Outstanding) (s : State) :
    s.expire o = { s with paths := (s.expire o).paths, mb := (s.expire o).mb, svc := (s.expire o).svc, stw := (s.expire o).stw, cus := (s.expire o).cus, log := (s.expire o).log } := by
  apply State.ext <;> simp

@[simp] theorem busyDrain_part (o : Outstanding) (k : Nat) (s : State) : (s.busyDrain o k).part = s.part := respond_part _ _ _ _
@[simp] theorem busyDrain_clk (o : Outstanding) (k : Nat) (s : State) : (s.busyDrain o k).clk = s.clk := respond_clk _ _ _ _
@[simp] theorem busyDrain_cores (o : Outstanding) (k : Nat) (s : State) : (s.busyDrain o k).cores = s.cores := respond_cores _ _ _ _
@[simp] theorem busyDrain_pwr (o : Outstanding) (k : Nat) (s : State) : (s.busyDrain o k).pwr = s.pwr := respond_pwr _ _ _ _
@[simp] theorem busyDrain_nose (o : Outstanding) (k : Nat) (s : State) : (s.busyDrain o k).nose = s.nose := respond_nose _ _ _ _
@[simp] theorem busyDrain_frm (o : Outstanding) (k : Nat) (s : State) : (s.busyDrain o k).frm = s.frm := respond_frm _ _ _ _
@[simp] theorem busyDrain_fus (o : Outstanding) (k : Nat) (s : State) : (s.busyDrain o k).fus = s.fus := respond_fus _ _ _ _
@[simp] theorem busyDrain_vlt (o : Outstanding) (k : Nat) (s : State) : (s.busyDrain o k).vlt = s.vlt := respond_vlt _ _ _ _
@[simp] theorem busyDrain_flc (o : Outstanding) (k : Nat) (s : State) : (s.busyDrain o k).flc = s.flc := respond_flc _ _ _ _
@[simp] theorem busyDrain_cry (o : Outstanding) (k : Nat) (s : State) : (s.busyDrain o k).cry = s.cry := respond_cry _ _ _ _
@[simp] theorem busyDrain_boot (o : Outstanding) (k : Nat) (s : State) : (s.busyDrain o k).boot = s.boot := respond_boot _ _ _ _
@[simp] theorem busyDrain_wdn (o : Outstanding) (k : Nat) (s : State) : (s.busyDrain o k).wdn = s.wdn := respond_wdn _ _ _ _
@[simp] theorem busyDrain_lanes (o : Outstanding) (k : Nat) (s : State) : (s.busyDrain o k).lanes = s.lanes := respond_lanes _ _ _ _
@[simp] theorem busyDrain_pcr (o : Outstanding) (k : Nat) (s : State) : (s.busyDrain o k).pcr = s.pcr := respond_pcr _ _ _ _
@[simp] theorem busyDrain_banks (o : Outstanding) (k : Nat) (s : State) : (s.busyDrain o k).banks = s.banks := respond_banks _ _ _ _
@[simp] theorem busyDrain_comps (o : Outstanding) (k : Nat) (s : State) : (s.busyDrain o k).comps = s.comps := respond_comps _ _ _ _
@[simp] theorem busyDrain_net (o : Outstanding) (k : Nat) (s : State) : (s.busyDrain o k).net = s.net := respond_net _ _ _ _
@[simp] theorem busyDrain_links (o : Outstanding) (k : Nat) (s : State) : (s.busyDrain o k).links = s.links := respond_links _ _ _ _
@[simp] theorem busyDrain_free (o : Outstanding) (k : Nat) (s : State) : (s.busyDrain o k).free = s.free := respond_free _ _ _ _
@[simp] theorem busyDrain_random (o : Outstanding) (k : Nat) (s : State) : (s.busyDrain o k).random = s.random := respond_random _ _ _ _
@[simp] theorem busyDrain_pending (o : Outstanding) (k : Nat) (s : State) : (s.busyDrain o k).pending = s.pending := respond_pending _ _ _ _
theorem busyDrain_frame (o : Outstanding) (k : Nat) (s : State) :
    s.busyDrain o k = { s with paths := (s.busyDrain o k).paths, mb := (s.busyDrain o k).mb, svc := (s.busyDrain o k).svc, stw := (s.busyDrain o k).stw, cus := (s.busyDrain o k).cus, log := (s.busyDrain o k).log } := by
  apply State.ext <;> simp

@[simp] theorem refuseLate_part (o : Outstanding) (d : Nat) (s : State) : (s.refuseLate o d).part = s.part := (place_part _ _ _ _).trans (logDone_part _ _ _ _ _)
@[simp] theorem refuseLate_clk (o : Outstanding) (d : Nat) (s : State) : (s.refuseLate o d).clk = s.clk := (place_clk _ _ _ _).trans (logDone_clk _ _ _ _ _)
@[simp] theorem refuseLate_cores (o : Outstanding) (d : Nat) (s : State) : (s.refuseLate o d).cores = s.cores := (place_cores _ _ _ _).trans (logDone_cores _ _ _ _ _)
@[simp] theorem refuseLate_pwr (o : Outstanding) (d : Nat) (s : State) : (s.refuseLate o d).pwr = s.pwr := (place_pwr _ _ _ _).trans (logDone_pwr _ _ _ _ _)
@[simp] theorem refuseLate_nose (o : Outstanding) (d : Nat) (s : State) : (s.refuseLate o d).nose = s.nose := (place_nose _ _ _ _).trans (logDone_nose _ _ _ _ _)
@[simp] theorem refuseLate_frm (o : Outstanding) (d : Nat) (s : State) : (s.refuseLate o d).frm = s.frm := (place_frm _ _ _ _).trans (logDone_frm _ _ _ _ _)
@[simp] theorem refuseLate_fus (o : Outstanding) (d : Nat) (s : State) : (s.refuseLate o d).fus = s.fus := (place_fus _ _ _ _).trans (logDone_fus _ _ _ _ _)
@[simp] theorem refuseLate_vlt (o : Outstanding) (d : Nat) (s : State) : (s.refuseLate o d).vlt = s.vlt := (place_vlt _ _ _ _).trans (logDone_vlt _ _ _ _ _)
@[simp] theorem refuseLate_flc (o : Outstanding) (d : Nat) (s : State) : (s.refuseLate o d).flc = s.flc := (place_flc _ _ _ _).trans (logDone_flc _ _ _ _ _)
@[simp] theorem refuseLate_cry (o : Outstanding) (d : Nat) (s : State) : (s.refuseLate o d).cry = s.cry := (place_cry _ _ _ _).trans (logDone_cry _ _ _ _ _)
@[simp] theorem refuseLate_boot (o : Outstanding) (d : Nat) (s : State) : (s.refuseLate o d).boot = s.boot := (place_boot _ _ _ _).trans (logDone_boot _ _ _ _ _)
@[simp] theorem refuseLate_wdn (o : Outstanding) (d : Nat) (s : State) : (s.refuseLate o d).wdn = s.wdn := (place_wdn _ _ _ _).trans (logDone_wdn _ _ _ _ _)
@[simp] theorem refuseLate_lanes (o : Outstanding) (d : Nat) (s : State) : (s.refuseLate o d).lanes = s.lanes := (place_lanes _ _ _ _).trans (logDone_lanes _ _ _ _ _)
@[simp] theorem refuseLate_pcr (o : Outstanding) (d : Nat) (s : State) : (s.refuseLate o d).pcr = s.pcr := (place_pcr _ _ _ _).trans (logDone_pcr _ _ _ _ _)
@[simp] theorem refuseLate_banks (o : Outstanding) (d : Nat) (s : State) : (s.refuseLate o d).banks = s.banks := (place_banks _ _ _ _).trans (logDone_banks _ _ _ _ _)
@[simp] theorem refuseLate_comps (o : Outstanding) (d : Nat) (s : State) : (s.refuseLate o d).comps = s.comps := (place_comps _ _ _ _).trans (logDone_comps _ _ _ _ _)
@[simp] theorem refuseLate_net (o : Outstanding) (d : Nat) (s : State) : (s.refuseLate o d).net = s.net := (place_net _ _ _ _).trans (logDone_net _ _ _ _ _)
@[simp] theorem refuseLate_links (o : Outstanding) (d : Nat) (s : State) : (s.refuseLate o d).links = s.links := (place_links _ _ _ _).trans (logDone_links _ _ _ _ _)
@[simp] theorem refuseLate_free (o : Outstanding) (d : Nat) (s : State) : (s.refuseLate o d).free = s.free := (place_free _ _ _ _).trans (logDone_free _ _ _ _ _)
@[simp] theorem refuseLate_random (o : Outstanding) (d : Nat) (s : State) : (s.refuseLate o d).random = s.random := (place_random _ _ _ _).trans (logDone_random _ _ _ _ _)
@[simp] theorem refuseLate_pending (o : Outstanding) (d : Nat) (s : State) : (s.refuseLate o d).pending = s.pending := (place_pending _ _ _ _).trans (logDone_pending _ _ _ _ _)
theorem refuseLate_frame (o : Outstanding) (d : Nat) (s : State) :
    s.refuseLate o d = { s with paths := (s.refuseLate o d).paths, mb := (s.refuseLate o d).mb, svc := (s.refuseLate o d).svc, stw := (s.refuseLate o d).stw, cus := (s.refuseLate o d).cus, log := (s.refuseLate o d).log } := by
  apply State.ext <;> simp

@[simp] theorem expireLate_part (o : Outstanding) (s : State) : (s.expireLate o).part = s.part := (place_part _ _ _ _).trans (logDone_part _ _ _ _ _)
@[simp] theorem expireLate_clk (o : Outstanding) (s : State) : (s.expireLate o).clk = s.clk := (place_clk _ _ _ _).trans (logDone_clk _ _ _ _ _)
@[simp] theorem expireLate_cores (o : Outstanding) (s : State) : (s.expireLate o).cores = s.cores := (place_cores _ _ _ _).trans (logDone_cores _ _ _ _ _)
@[simp] theorem expireLate_pwr (o : Outstanding) (s : State) : (s.expireLate o).pwr = s.pwr := (place_pwr _ _ _ _).trans (logDone_pwr _ _ _ _ _)
@[simp] theorem expireLate_nose (o : Outstanding) (s : State) : (s.expireLate o).nose = s.nose := (place_nose _ _ _ _).trans (logDone_nose _ _ _ _ _)
@[simp] theorem expireLate_frm (o : Outstanding) (s : State) : (s.expireLate o).frm = s.frm := (place_frm _ _ _ _).trans (logDone_frm _ _ _ _ _)
@[simp] theorem expireLate_fus (o : Outstanding) (s : State) : (s.expireLate o).fus = s.fus := (place_fus _ _ _ _).trans (logDone_fus _ _ _ _ _)
@[simp] theorem expireLate_vlt (o : Outstanding) (s : State) : (s.expireLate o).vlt = s.vlt := (place_vlt _ _ _ _).trans (logDone_vlt _ _ _ _ _)
@[simp] theorem expireLate_flc (o : Outstanding) (s : State) : (s.expireLate o).flc = s.flc := (place_flc _ _ _ _).trans (logDone_flc _ _ _ _ _)
@[simp] theorem expireLate_cry (o : Outstanding) (s : State) : (s.expireLate o).cry = s.cry := (place_cry _ _ _ _).trans (logDone_cry _ _ _ _ _)
@[simp] theorem expireLate_boot (o : Outstanding) (s : State) : (s.expireLate o).boot = s.boot := (place_boot _ _ _ _).trans (logDone_boot _ _ _ _ _)
@[simp] theorem expireLate_wdn (o : Outstanding) (s : State) : (s.expireLate o).wdn = s.wdn := (place_wdn _ _ _ _).trans (logDone_wdn _ _ _ _ _)
@[simp] theorem expireLate_lanes (o : Outstanding) (s : State) : (s.expireLate o).lanes = s.lanes := (place_lanes _ _ _ _).trans (logDone_lanes _ _ _ _ _)
@[simp] theorem expireLate_pcr (o : Outstanding) (s : State) : (s.expireLate o).pcr = s.pcr := (place_pcr _ _ _ _).trans (logDone_pcr _ _ _ _ _)
@[simp] theorem expireLate_banks (o : Outstanding) (s : State) : (s.expireLate o).banks = s.banks := (place_banks _ _ _ _).trans (logDone_banks _ _ _ _ _)
@[simp] theorem expireLate_comps (o : Outstanding) (s : State) : (s.expireLate o).comps = s.comps := (place_comps _ _ _ _).trans (logDone_comps _ _ _ _ _)
@[simp] theorem expireLate_net (o : Outstanding) (s : State) : (s.expireLate o).net = s.net := (place_net _ _ _ _).trans (logDone_net _ _ _ _ _)
@[simp] theorem expireLate_links (o : Outstanding) (s : State) : (s.expireLate o).links = s.links := (place_links _ _ _ _).trans (logDone_links _ _ _ _ _)
@[simp] theorem expireLate_free (o : Outstanding) (s : State) : (s.expireLate o).free = s.free := (place_free _ _ _ _).trans (logDone_free _ _ _ _ _)
@[simp] theorem expireLate_random (o : Outstanding) (s : State) : (s.expireLate o).random = s.random := (place_random _ _ _ _).trans (logDone_random _ _ _ _ _)
@[simp] theorem expireLate_pending (o : Outstanding) (s : State) : (s.expireLate o).pending = s.pending := (place_pending _ _ _ _).trans (logDone_pending _ _ _ _ _)
theorem expireLate_frame (o : Outstanding) (s : State) :
    s.expireLate o = { s with paths := (s.expireLate o).paths, mb := (s.expireLate o).mb, svc := (s.expireLate o).svc, stw := (s.expireLate o).stw, cus := (s.expireLate o).cus, log := (s.expireLate o).log } := by
  apply State.ext <;> simp

@[simp] theorem settleTicket_part (n c : Nat) (b : Bytes) (s : State) : (s.settleTicket n c b).part = s.part := by
  unfold State.settleTicket; (repeat' split) <;> first | rfl | simp
@[simp] theorem settleTicket_clk (n c : Nat) (b : Bytes) (s : State) : (s.settleTicket n c b).clk = s.clk := by
  unfold State.settleTicket; (repeat' split) <;> first | rfl | simp
@[simp] theorem settleTicket_cores (n c : Nat) (b : Bytes) (s : State) : (s.settleTicket n c b).cores = s.cores := by
  unfold State.settleTicket; (repeat' split) <;> first | rfl | simp
@[simp] theorem settleTicket_pwr (n c : Nat) (b : Bytes) (s : State) : (s.settleTicket n c b).pwr = s.pwr := by
  unfold State.settleTicket; (repeat' split) <;> first | rfl | simp
@[simp] theorem settleTicket_nose (n c : Nat) (b : Bytes) (s : State) : (s.settleTicket n c b).nose = s.nose := by
  unfold State.settleTicket; (repeat' split) <;> first | rfl | simp
@[simp] theorem settleTicket_frm (n c : Nat) (b : Bytes) (s : State) : (s.settleTicket n c b).frm = s.frm := by
  unfold State.settleTicket; (repeat' split) <;> first | rfl | simp
@[simp] theorem settleTicket_fus (n c : Nat) (b : Bytes) (s : State) : (s.settleTicket n c b).fus = s.fus := by
  unfold State.settleTicket; (repeat' split) <;> first | rfl | simp
@[simp] theorem settleTicket_vlt (n c : Nat) (b : Bytes) (s : State) : (s.settleTicket n c b).vlt = s.vlt := by
  unfold State.settleTicket; (repeat' split) <;> first | rfl | simp
@[simp] theorem settleTicket_flc (n c : Nat) (b : Bytes) (s : State) : (s.settleTicket n c b).flc = s.flc := by
  unfold State.settleTicket; (repeat' split) <;> first | rfl | simp
@[simp] theorem settleTicket_cry (n c : Nat) (b : Bytes) (s : State) : (s.settleTicket n c b).cry = s.cry := by
  unfold State.settleTicket; (repeat' split) <;> first | rfl | simp
@[simp] theorem settleTicket_boot (n c : Nat) (b : Bytes) (s : State) : (s.settleTicket n c b).boot = s.boot := by
  unfold State.settleTicket; (repeat' split) <;> first | rfl | simp
@[simp] theorem settleTicket_wdn (n c : Nat) (b : Bytes) (s : State) : (s.settleTicket n c b).wdn = s.wdn := by
  unfold State.settleTicket; (repeat' split) <;> first | rfl | simp
@[simp] theorem settleTicket_lanes (n c : Nat) (b : Bytes) (s : State) : (s.settleTicket n c b).lanes = s.lanes := by
  unfold State.settleTicket; (repeat' split) <;> first | rfl | simp
@[simp] theorem settleTicket_pcr (n c : Nat) (b : Bytes) (s : State) : (s.settleTicket n c b).pcr = s.pcr := by
  unfold State.settleTicket; (repeat' split) <;> first | rfl | simp
@[simp] theorem settleTicket_banks (n c : Nat) (b : Bytes) (s : State) : (s.settleTicket n c b).banks = s.banks := by
  unfold State.settleTicket; (repeat' split) <;> first | rfl | simp
@[simp] theorem settleTicket_comps (n c : Nat) (b : Bytes) (s : State) : (s.settleTicket n c b).comps = s.comps := by
  unfold State.settleTicket; (repeat' split) <;> first | rfl | simp
@[simp] theorem settleTicket_net (n c : Nat) (b : Bytes) (s : State) : (s.settleTicket n c b).net = s.net := by
  unfold State.settleTicket; (repeat' split) <;> first | rfl | simp
@[simp] theorem settleTicket_links (n c : Nat) (b : Bytes) (s : State) : (s.settleTicket n c b).links = s.links := by
  unfold State.settleTicket; (repeat' split) <;> first | rfl | simp
@[simp] theorem settleTicket_free (n c : Nat) (b : Bytes) (s : State) : (s.settleTicket n c b).free = s.free := by
  unfold State.settleTicket; (repeat' split) <;> first | rfl | simp
@[simp] theorem settleTicket_random (n c : Nat) (b : Bytes) (s : State) : (s.settleTicket n c b).random = s.random := by
  unfold State.settleTicket; (repeat' split) <;> first | rfl | simp
@[simp] theorem settleTicket_pending (n c : Nat) (b : Bytes) (s : State) : (s.settleTicket n c b).pending = s.pending := by
  unfold State.settleTicket; (repeat' split) <;> first | rfl | simp
theorem settleTicket_frame (n c : Nat) (b : Bytes) (s : State) :
    s.settleTicket n c b = { s with paths := (s.settleTicket n c b).paths, mb := (s.settleTicket n c b).mb, svc := (s.settleTicket n c b).svc, stw := (s.settleTicket n c b).stw, cus := (s.settleTicket n c b).cus, log := (s.settleTicket n c b).log } := by
  apply State.ext <;> simp

@[simp] theorem setOut_part (o : Outstanding) (s : State) : (s.setOut o).part = s.part := rfl
@[simp] theorem setOut_clk (o : Outstanding) (s : State) : (s.setOut o).clk = s.clk := rfl
@[simp] theorem setOut_cores (o : Outstanding) (s : State) : (s.setOut o).cores = s.cores := rfl
@[simp] theorem setOut_mb (o : Outstanding) (s : State) : (s.setOut o).mb = s.mb := rfl
@[simp] theorem setOut_svc (o : Outstanding) (s : State) : (s.setOut o).svc = s.svc := rfl
@[simp] theorem setOut_stw (o : Outstanding) (s : State) : (s.setOut o).stw = s.stw := rfl
@[simp] theorem setOut_cus (o : Outstanding) (s : State) : (s.setOut o).cus = s.cus := rfl
@[simp] theorem setOut_log (o : Outstanding) (s : State) : (s.setOut o).log = s.log := rfl
@[simp] theorem setOut_pwr (o : Outstanding) (s : State) : (s.setOut o).pwr = s.pwr := rfl
@[simp] theorem setOut_nose (o : Outstanding) (s : State) : (s.setOut o).nose = s.nose := rfl
@[simp] theorem setOut_frm (o : Outstanding) (s : State) : (s.setOut o).frm = s.frm := rfl
@[simp] theorem setOut_fus (o : Outstanding) (s : State) : (s.setOut o).fus = s.fus := rfl
@[simp] theorem setOut_vlt (o : Outstanding) (s : State) : (s.setOut o).vlt = s.vlt := rfl
@[simp] theorem setOut_flc (o : Outstanding) (s : State) : (s.setOut o).flc = s.flc := rfl
@[simp] theorem setOut_cry (o : Outstanding) (s : State) : (s.setOut o).cry = s.cry := rfl
@[simp] theorem setOut_boot (o : Outstanding) (s : State) : (s.setOut o).boot = s.boot := rfl
@[simp] theorem setOut_wdn (o : Outstanding) (s : State) : (s.setOut o).wdn = s.wdn := rfl
@[simp] theorem setOut_lanes (o : Outstanding) (s : State) : (s.setOut o).lanes = s.lanes := rfl
@[simp] theorem setOut_pcr (o : Outstanding) (s : State) : (s.setOut o).pcr = s.pcr := rfl
@[simp] theorem setOut_banks (o : Outstanding) (s : State) : (s.setOut o).banks = s.banks := rfl
@[simp] theorem setOut_comps (o : Outstanding) (s : State) : (s.setOut o).comps = s.comps := rfl
@[simp] theorem setOut_net (o : Outstanding) (s : State) : (s.setOut o).net = s.net := rfl
@[simp] theorem setOut_links (o : Outstanding) (s : State) : (s.setOut o).links = s.links := rfl
@[simp] theorem setOut_free (o : Outstanding) (s : State) : (s.setOut o).free = s.free := rfl
@[simp] theorem setOut_random (o : Outstanding) (s : State) : (s.setOut o).random = s.random := rfl
@[simp] theorem setOut_pending (o : Outstanding) (s : State) : (s.setOut o).pending = s.pending := rfl
theorem setOut_frame (o : Outstanding) (s : State) :
    s.setOut o = { s with paths := (s.setOut o).paths } := by
  apply State.ext <;> simp

@[simp] theorem closeBulk_part (p : Port) (n : Nat) (i : Bool) (s : State) : (s.closeBulk p n i).part = s.part := rfl
@[simp] theorem closeBulk_clk (p : Port) (n : Nat) (i : Bool) (s : State) : (s.closeBulk p n i).clk = s.clk := rfl
@[simp] theorem closeBulk_cores (p : Port) (n : Nat) (i : Bool) (s : State) : (s.closeBulk p n i).cores = s.cores := rfl
@[simp] theorem closeBulk_mb (p : Port) (n : Nat) (i : Bool) (s : State) : (s.closeBulk p n i).mb = s.mb := rfl
@[simp] theorem closeBulk_svc (p : Port) (n : Nat) (i : Bool) (s : State) : (s.closeBulk p n i).svc = s.svc := rfl
@[simp] theorem closeBulk_stw (p : Port) (n : Nat) (i : Bool) (s : State) : (s.closeBulk p n i).stw = s.stw := rfl
@[simp] theorem closeBulk_cus (p : Port) (n : Nat) (i : Bool) (s : State) : (s.closeBulk p n i).cus = s.cus := rfl
@[simp] theorem closeBulk_log (p : Port) (n : Nat) (i : Bool) (s : State) : (s.closeBulk p n i).log = s.log := rfl
@[simp] theorem closeBulk_pwr (p : Port) (n : Nat) (i : Bool) (s : State) : (s.closeBulk p n i).pwr = s.pwr := rfl
@[simp] theorem closeBulk_nose (p : Port) (n : Nat) (i : Bool) (s : State) : (s.closeBulk p n i).nose = s.nose := rfl
@[simp] theorem closeBulk_frm (p : Port) (n : Nat) (i : Bool) (s : State) : (s.closeBulk p n i).frm = s.frm := rfl
@[simp] theorem closeBulk_fus (p : Port) (n : Nat) (i : Bool) (s : State) : (s.closeBulk p n i).fus = s.fus := rfl
@[simp] theorem closeBulk_vlt (p : Port) (n : Nat) (i : Bool) (s : State) : (s.closeBulk p n i).vlt = s.vlt := rfl
@[simp] theorem closeBulk_flc (p : Port) (n : Nat) (i : Bool) (s : State) : (s.closeBulk p n i).flc = s.flc := rfl
@[simp] theorem closeBulk_cry (p : Port) (n : Nat) (i : Bool) (s : State) : (s.closeBulk p n i).cry = s.cry := rfl
@[simp] theorem closeBulk_boot (p : Port) (n : Nat) (i : Bool) (s : State) : (s.closeBulk p n i).boot = s.boot := rfl
@[simp] theorem closeBulk_wdn (p : Port) (n : Nat) (i : Bool) (s : State) : (s.closeBulk p n i).wdn = s.wdn := rfl
@[simp] theorem closeBulk_lanes (p : Port) (n : Nat) (i : Bool) (s : State) : (s.closeBulk p n i).lanes = s.lanes := rfl
@[simp] theorem closeBulk_pcr (p : Port) (n : Nat) (i : Bool) (s : State) : (s.closeBulk p n i).pcr = s.pcr := rfl
@[simp] theorem closeBulk_banks (p : Port) (n : Nat) (i : Bool) (s : State) : (s.closeBulk p n i).banks = s.banks := rfl
@[simp] theorem closeBulk_comps (p : Port) (n : Nat) (i : Bool) (s : State) : (s.closeBulk p n i).comps = s.comps := rfl
@[simp] theorem closeBulk_net (p : Port) (n : Nat) (i : Bool) (s : State) : (s.closeBulk p n i).net = s.net := rfl
@[simp] theorem closeBulk_links (p : Port) (n : Nat) (i : Bool) (s : State) : (s.closeBulk p n i).links = s.links := rfl
@[simp] theorem closeBulk_free (p : Port) (n : Nat) (i : Bool) (s : State) : (s.closeBulk p n i).free = s.free := rfl
@[simp] theorem closeBulk_random (p : Port) (n : Nat) (i : Bool) (s : State) : (s.closeBulk p n i).random = s.random := rfl
@[simp] theorem closeBulk_pending (p : Port) (n : Nat) (i : Bool) (s : State) : (s.closeBulk p n i).pending = s.pending := rfl
theorem closeBulk_frame (p : Port) (n : Nat) (i : Bool) (s : State) :
    s.closeBulk p n i = { s with paths := (s.closeBulk p n i).paths } := by
  apply State.ext <;> simp

@[simp] theorem takesEffect_part (p : Port) (op : Nat) (x : List (Nat × Nat)) (s : State) : (s.takesEffect p op x).part = s.part := rfl
@[simp] theorem takesEffect_clk (p : Port) (op : Nat) (x : List (Nat × Nat)) (s : State) : (s.takesEffect p op x).clk = s.clk := rfl
@[simp] theorem takesEffect_cores (p : Port) (op : Nat) (x : List (Nat × Nat)) (s : State) : (s.takesEffect p op x).cores = s.cores := rfl
@[simp] theorem takesEffect_mb (p : Port) (op : Nat) (x : List (Nat × Nat)) (s : State) : (s.takesEffect p op x).mb = s.mb := rfl
@[simp] theorem takesEffect_svc (p : Port) (op : Nat) (x : List (Nat × Nat)) (s : State) : (s.takesEffect p op x).svc = s.svc := rfl
@[simp] theorem takesEffect_stw (p : Port) (op : Nat) (x : List (Nat × Nat)) (s : State) : (s.takesEffect p op x).stw = s.stw := rfl
@[simp] theorem takesEffect_cus (p : Port) (op : Nat) (x : List (Nat × Nat)) (s : State) : (s.takesEffect p op x).cus = s.cus := rfl
@[simp] theorem takesEffect_log (p : Port) (op : Nat) (x : List (Nat × Nat)) (s : State) : (s.takesEffect p op x).log = s.log := rfl
@[simp] theorem takesEffect_pwr (p : Port) (op : Nat) (x : List (Nat × Nat)) (s : State) : (s.takesEffect p op x).pwr = s.pwr := rfl
@[simp] theorem takesEffect_nose (p : Port) (op : Nat) (x : List (Nat × Nat)) (s : State) : (s.takesEffect p op x).nose = s.nose := rfl
@[simp] theorem takesEffect_frm (p : Port) (op : Nat) (x : List (Nat × Nat)) (s : State) : (s.takesEffect p op x).frm = s.frm := rfl
@[simp] theorem takesEffect_fus (p : Port) (op : Nat) (x : List (Nat × Nat)) (s : State) : (s.takesEffect p op x).fus = s.fus := rfl
@[simp] theorem takesEffect_vlt (p : Port) (op : Nat) (x : List (Nat × Nat)) (s : State) : (s.takesEffect p op x).vlt = s.vlt := rfl
@[simp] theorem takesEffect_flc (p : Port) (op : Nat) (x : List (Nat × Nat)) (s : State) : (s.takesEffect p op x).flc = s.flc := rfl
@[simp] theorem takesEffect_cry (p : Port) (op : Nat) (x : List (Nat × Nat)) (s : State) : (s.takesEffect p op x).cry = s.cry := rfl
@[simp] theorem takesEffect_boot (p : Port) (op : Nat) (x : List (Nat × Nat)) (s : State) : (s.takesEffect p op x).boot = s.boot := rfl
@[simp] theorem takesEffect_wdn (p : Port) (op : Nat) (x : List (Nat × Nat)) (s : State) : (s.takesEffect p op x).wdn = s.wdn := rfl
@[simp] theorem takesEffect_lanes (p : Port) (op : Nat) (x : List (Nat × Nat)) (s : State) : (s.takesEffect p op x).lanes = s.lanes := rfl
@[simp] theorem takesEffect_pcr (p : Port) (op : Nat) (x : List (Nat × Nat)) (s : State) : (s.takesEffect p op x).pcr = s.pcr := rfl
@[simp] theorem takesEffect_banks (p : Port) (op : Nat) (x : List (Nat × Nat)) (s : State) : (s.takesEffect p op x).banks = s.banks := rfl
@[simp] theorem takesEffect_comps (p : Port) (op : Nat) (x : List (Nat × Nat)) (s : State) : (s.takesEffect p op x).comps = s.comps := rfl
@[simp] theorem takesEffect_net (p : Port) (op : Nat) (x : List (Nat × Nat)) (s : State) : (s.takesEffect p op x).net = s.net := rfl
@[simp] theorem takesEffect_links (p : Port) (op : Nat) (x : List (Nat × Nat)) (s : State) : (s.takesEffect p op x).links = s.links := rfl
@[simp] theorem takesEffect_free (p : Port) (op : Nat) (x : List (Nat × Nat)) (s : State) : (s.takesEffect p op x).free = s.free := rfl
@[simp] theorem takesEffect_random (p : Port) (op : Nat) (x : List (Nat × Nat)) (s : State) : (s.takesEffect p op x).random = s.random := rfl
@[simp] theorem takesEffect_pending (p : Port) (op : Nat) (x : List (Nat × Nat)) (s : State) : (s.takesEffect p op x).pending = s.pending := rfl
theorem takesEffect_frame (p : Port) (op : Nat) (x : List (Nat × Nat)) (s : State) :
    s.takesEffect p op x = { s with paths := (s.takesEffect p op x).paths } := by
  apply State.ext <;> simp

@[simp] theorem advanceTo_part (t : Nat) (s : State) : (s.advanceTo t).part = s.part := rfl
@[simp] theorem advanceTo_cores (t : Nat) (s : State) : (s.advanceTo t).cores = s.cores := rfl
@[simp] theorem advanceTo_paths (t : Nat) (s : State) : (s.advanceTo t).paths = s.paths := rfl
@[simp] theorem advanceTo_mb (t : Nat) (s : State) : (s.advanceTo t).mb = s.mb := rfl
@[simp] theorem advanceTo_svc (t : Nat) (s : State) : (s.advanceTo t).svc = s.svc := rfl
@[simp] theorem advanceTo_stw (t : Nat) (s : State) : (s.advanceTo t).stw = s.stw := rfl
@[simp] theorem advanceTo_cus (t : Nat) (s : State) : (s.advanceTo t).cus = s.cus := rfl
@[simp] theorem advanceTo_log (t : Nat) (s : State) : (s.advanceTo t).log = s.log := rfl
@[simp] theorem advanceTo_pwr (t : Nat) (s : State) : (s.advanceTo t).pwr = s.pwr := rfl
@[simp] theorem advanceTo_nose (t : Nat) (s : State) : (s.advanceTo t).nose = s.nose := rfl
@[simp] theorem advanceTo_frm (t : Nat) (s : State) : (s.advanceTo t).frm = s.frm := rfl
@[simp] theorem advanceTo_fus (t : Nat) (s : State) : (s.advanceTo t).fus = s.fus := rfl
@[simp] theorem advanceTo_vlt (t : Nat) (s : State) : (s.advanceTo t).vlt = s.vlt := rfl
@[simp] theorem advanceTo_flc (t : Nat) (s : State) : (s.advanceTo t).flc = s.flc := rfl
@[simp] theorem advanceTo_cry (t : Nat) (s : State) : (s.advanceTo t).cry = s.cry := rfl
@[simp] theorem advanceTo_boot (t : Nat) (s : State) : (s.advanceTo t).boot = s.boot := rfl
@[simp] theorem advanceTo_wdn (t : Nat) (s : State) : (s.advanceTo t).wdn = s.wdn := rfl
@[simp] theorem advanceTo_lanes (t : Nat) (s : State) : (s.advanceTo t).lanes = s.lanes := rfl
@[simp] theorem advanceTo_pcr (t : Nat) (s : State) : (s.advanceTo t).pcr = s.pcr := rfl
@[simp] theorem advanceTo_banks (t : Nat) (s : State) : (s.advanceTo t).banks = s.banks := rfl
@[simp] theorem advanceTo_comps (t : Nat) (s : State) : (s.advanceTo t).comps = s.comps := rfl
@[simp] theorem advanceTo_net (t : Nat) (s : State) : (s.advanceTo t).net = s.net := rfl
@[simp] theorem advanceTo_links (t : Nat) (s : State) : (s.advanceTo t).links = s.links := rfl
@[simp] theorem advanceTo_free (t : Nat) (s : State) : (s.advanceTo t).free = s.free := rfl
@[simp] theorem advanceTo_random (t : Nat) (s : State) : (s.advanceTo t).random = s.random := rfl
@[simp] theorem advanceTo_pending (t : Nat) (s : State) : (s.advanceTo t).pending = s.pending := rfl
theorem advanceTo_frame (t : Nat) (s : State) :
    s.advanceTo t = { s with clk := (s.advanceTo t).clk } := by
  apply State.ext <;> simp

@[simp] theorem atTick_part (t : Nat) (s : State) : (s.atTick t).part = s.part := rfl
@[simp] theorem atTick_cores (t : Nat) (s : State) : (s.atTick t).cores = s.cores := rfl
@[simp] theorem atTick_paths (t : Nat) (s : State) : (s.atTick t).paths = s.paths := rfl
@[simp] theorem atTick_mb (t : Nat) (s : State) : (s.atTick t).mb = s.mb := rfl
@[simp] theorem atTick_svc (t : Nat) (s : State) : (s.atTick t).svc = s.svc := rfl
@[simp] theorem atTick_stw (t : Nat) (s : State) : (s.atTick t).stw = s.stw := rfl
@[simp] theorem atTick_cus (t : Nat) (s : State) : (s.atTick t).cus = s.cus := rfl
@[simp] theorem atTick_log (t : Nat) (s : State) : (s.atTick t).log = s.log := rfl
@[simp] theorem atTick_pwr (t : Nat) (s : State) : (s.atTick t).pwr = s.pwr := rfl
@[simp] theorem atTick_nose (t : Nat) (s : State) : (s.atTick t).nose = s.nose := rfl
@[simp] theorem atTick_frm (t : Nat) (s : State) : (s.atTick t).frm = s.frm := rfl
@[simp] theorem atTick_fus (t : Nat) (s : State) : (s.atTick t).fus = s.fus := rfl
@[simp] theorem atTick_vlt (t : Nat) (s : State) : (s.atTick t).vlt = s.vlt := rfl
@[simp] theorem atTick_flc (t : Nat) (s : State) : (s.atTick t).flc = s.flc := rfl
@[simp] theorem atTick_cry (t : Nat) (s : State) : (s.atTick t).cry = s.cry := rfl
@[simp] theorem atTick_boot (t : Nat) (s : State) : (s.atTick t).boot = s.boot := rfl
@[simp] theorem atTick_wdn (t : Nat) (s : State) : (s.atTick t).wdn = s.wdn := rfl
@[simp] theorem atTick_lanes (t : Nat) (s : State) : (s.atTick t).lanes = s.lanes := rfl
@[simp] theorem atTick_pcr (t : Nat) (s : State) : (s.atTick t).pcr = s.pcr := rfl
@[simp] theorem atTick_banks (t : Nat) (s : State) : (s.atTick t).banks = s.banks := rfl
@[simp] theorem atTick_comps (t : Nat) (s : State) : (s.atTick t).comps = s.comps := rfl
@[simp] theorem atTick_net (t : Nat) (s : State) : (s.atTick t).net = s.net := rfl
@[simp] theorem atTick_links (t : Nat) (s : State) : (s.atTick t).links = s.links := rfl
@[simp] theorem atTick_free (t : Nat) (s : State) : (s.atTick t).free = s.free := rfl
@[simp] theorem atTick_random (t : Nat) (s : State) : (s.atTick t).random = s.random := rfl
@[simp] theorem atTick_pending (t : Nat) (s : State) : (s.atTick t).pending = s.pending := rfl
theorem atTick_frame (t : Nat) (s : State) :
    s.atTick t = { s with clk := (s.atTick t).clk } := by
  apply State.ext <;> simp

@[simp] theorem newTicket_part (o : Outstanding) (s : State) : (s.newTicket o).2.part = s.part := rfl
@[simp] theorem newTicket_clk (o : Outstanding) (s : State) : (s.newTicket o).2.clk = s.clk := rfl
@[simp] theorem newTicket_cores (o : Outstanding) (s : State) : (s.newTicket o).2.cores = s.cores := rfl
@[simp] theorem newTicket_mb (o : Outstanding) (s : State) : (s.newTicket o).2.mb = s.mb := rfl
@[simp] theorem newTicket_svc (o : Outstanding) (s : State) : (s.newTicket o).2.svc = s.svc := rfl
@[simp] theorem newTicket_stw (o : Outstanding) (s : State) : (s.newTicket o).2.stw = s.stw := rfl
@[simp] theorem newTicket_cus (o : Outstanding) (s : State) : (s.newTicket o).2.cus = s.cus := rfl
@[simp] theorem newTicket_log (o : Outstanding) (s : State) : (s.newTicket o).2.log = s.log := rfl
@[simp] theorem newTicket_pwr (o : Outstanding) (s : State) : (s.newTicket o).2.pwr = s.pwr := rfl
@[simp] theorem newTicket_nose (o : Outstanding) (s : State) : (s.newTicket o).2.nose = s.nose := rfl
@[simp] theorem newTicket_frm (o : Outstanding) (s : State) : (s.newTicket o).2.frm = s.frm := rfl
@[simp] theorem newTicket_fus (o : Outstanding) (s : State) : (s.newTicket o).2.fus = s.fus := rfl
@[simp] theorem newTicket_vlt (o : Outstanding) (s : State) : (s.newTicket o).2.vlt = s.vlt := rfl
@[simp] theorem newTicket_flc (o : Outstanding) (s : State) : (s.newTicket o).2.flc = s.flc := rfl
@[simp] theorem newTicket_cry (o : Outstanding) (s : State) : (s.newTicket o).2.cry = s.cry := rfl
@[simp] theorem newTicket_boot (o : Outstanding) (s : State) : (s.newTicket o).2.boot = s.boot := rfl
@[simp] theorem newTicket_wdn (o : Outstanding) (s : State) : (s.newTicket o).2.wdn = s.wdn := rfl
@[simp] theorem newTicket_lanes (o : Outstanding) (s : State) : (s.newTicket o).2.lanes = s.lanes := rfl
@[simp] theorem newTicket_pcr (o : Outstanding) (s : State) : (s.newTicket o).2.pcr = s.pcr := rfl
@[simp] theorem newTicket_banks (o : Outstanding) (s : State) : (s.newTicket o).2.banks = s.banks := rfl
@[simp] theorem newTicket_comps (o : Outstanding) (s : State) : (s.newTicket o).2.comps = s.comps := rfl
@[simp] theorem newTicket_net (o : Outstanding) (s : State) : (s.newTicket o).2.net = s.net := rfl
@[simp] theorem newTicket_links (o : Outstanding) (s : State) : (s.newTicket o).2.links = s.links := rfl
@[simp] theorem newTicket_free (o : Outstanding) (s : State) : (s.newTicket o).2.free = s.free := rfl
@[simp] theorem newTicket_random (o : Outstanding) (s : State) : (s.newTicket o).2.random = s.random := rfl
@[simp] theorem newTicket_pending (o : Outstanding) (s : State) : (s.newTicket o).2.pending = s.pending := rfl

@[simp] theorem ticketed_part (o : Outstanding) (c : Nat) (b : Bytes) (s : State) : (s.ticketed o c b).2.part = s.part :=
  respond_part o c _ _
@[simp] theorem ticketed_clk (o : Outstanding) (c : Nat) (b : Bytes) (s : State) : (s.ticketed o c b).2.clk = s.clk :=
  respond_clk o c _ _
@[simp] theorem ticketed_cores (o : Outstanding) (c : Nat) (b : Bytes) (s : State) : (s.ticketed o c b).2.cores = s.cores :=
  respond_cores o c _ _
@[simp] theorem ticketed_pwr (o : Outstanding) (c : Nat) (b : Bytes) (s : State) : (s.ticketed o c b).2.pwr = s.pwr :=
  respond_pwr o c _ _
@[simp] theorem ticketed_nose (o : Outstanding) (c : Nat) (b : Bytes) (s : State) : (s.ticketed o c b).2.nose = s.nose :=
  respond_nose o c _ _
@[simp] theorem ticketed_frm (o : Outstanding) (c : Nat) (b : Bytes) (s : State) : (s.ticketed o c b).2.frm = s.frm :=
  respond_frm o c _ _
@[simp] theorem ticketed_fus (o : Outstanding) (c : Nat) (b : Bytes) (s : State) : (s.ticketed o c b).2.fus = s.fus :=
  respond_fus o c _ _
@[simp] theorem ticketed_vlt (o : Outstanding) (c : Nat) (b : Bytes) (s : State) : (s.ticketed o c b).2.vlt = s.vlt :=
  respond_vlt o c _ _
@[simp] theorem ticketed_flc (o : Outstanding) (c : Nat) (b : Bytes) (s : State) : (s.ticketed o c b).2.flc = s.flc :=
  respond_flc o c _ _
@[simp] theorem ticketed_cry (o : Outstanding) (c : Nat) (b : Bytes) (s : State) : (s.ticketed o c b).2.cry = s.cry :=
  respond_cry o c _ _
@[simp] theorem ticketed_boot (o : Outstanding) (c : Nat) (b : Bytes) (s : State) : (s.ticketed o c b).2.boot = s.boot :=
  respond_boot o c _ _
@[simp] theorem ticketed_wdn (o : Outstanding) (c : Nat) (b : Bytes) (s : State) : (s.ticketed o c b).2.wdn = s.wdn :=
  respond_wdn o c _ _
@[simp] theorem ticketed_lanes (o : Outstanding) (c : Nat) (b : Bytes) (s : State) : (s.ticketed o c b).2.lanes = s.lanes :=
  respond_lanes o c _ _
@[simp] theorem ticketed_pcr (o : Outstanding) (c : Nat) (b : Bytes) (s : State) : (s.ticketed o c b).2.pcr = s.pcr :=
  respond_pcr o c _ _
@[simp] theorem ticketed_banks (o : Outstanding) (c : Nat) (b : Bytes) (s : State) : (s.ticketed o c b).2.banks = s.banks :=
  respond_banks o c _ _
@[simp] theorem ticketed_comps (o : Outstanding) (c : Nat) (b : Bytes) (s : State) : (s.ticketed o c b).2.comps = s.comps :=
  respond_comps o c _ _
@[simp] theorem ticketed_net (o : Outstanding) (c : Nat) (b : Bytes) (s : State) : (s.ticketed o c b).2.net = s.net :=
  respond_net o c _ _
@[simp] theorem ticketed_links (o : Outstanding) (c : Nat) (b : Bytes) (s : State) : (s.ticketed o c b).2.links = s.links :=
  respond_links o c _ _
@[simp] theorem ticketed_free (o : Outstanding) (c : Nat) (b : Bytes) (s : State) : (s.ticketed o c b).2.free = s.free :=
  respond_free o c _ _
@[simp] theorem ticketed_random (o : Outstanding) (c : Nat) (b : Bytes) (s : State) : (s.ticketed o c b).2.random = s.random :=
  respond_random o c _ _
@[simp] theorem ticketed_pending (o : Outstanding) (c : Nat) (b : Bytes) (s : State) : (s.ticketed o c b).2.pending = s.pending :=
  respond_pending o c _ _

/-! The count of cycles under the operations that leave the clock alone. -/

@[simp] theorem putRec_now (r : Rec) (s : State) : (s.putRec r).now = s.now := congrArg Clock.now (putRec_clk r s)
@[simp] theorem logAt_now (t a b c d e f : Nat) (s : State) : (s.logAt t a b c d e f).now = s.now := congrArg Clock.now (logAt_clk t a b c d e f s)
@[simp] theorem event_now (a b c d e f : Nat) (s : State) : (s.event a b c d e f).now = s.now := congrArg Clock.now (event_clk a b c d e f s)
@[simp] theorem eventLate_now (a b c d e f : Nat) (s : State) : (s.eventLate a b c d e f).now = s.now := congrArg Clock.now (eventLate_clk a b c d e f s)
@[simp] theorem discardAnswer_now (p : Port) (n : Nat) (f : Frame) (s : State) : (s.discardAnswer p n f).now = s.now := congrArg Clock.now (discardAnswer_clk p n f s)
@[simp] theorem answer_now (p : Port) (n : Nat) (f : Frame) (s : State) : (s.answer p n f).now = s.now := congrArg Clock.now (answer_clk p n f s)
@[simp] theorem notice_now (p : Port) (n : Nat) (f : Frame) (s : State) : (s.notice p n f).now = s.now := congrArg Clock.now (notice_clk p n f s)
@[simp] theorem dropOut_now (o : Outstanding) (s : State) : (s.dropOut o).now = s.now := congrArg Clock.now (dropOut_clk o s)
@[simp] theorem logDone_now (late : Bool) (o : Outstanding) (c : Nat) (b : Bytes) (s : State) : (s.logDone late o c b).now = s.now := congrArg Clock.now (logDone_clk late o c b s)
@[simp] theorem place_now (o : Outstanding) (c : Nat) (b : Bytes) (s : State) : (s.place o c b).now = s.now := congrArg Clock.now (place_clk o c b s)
@[simp] theorem respond_now (o : Outstanding) (c : Nat) (b : Bytes) (s : State) : (s.respond o c b).now = s.now := congrArg Clock.now (respond_clk o c b s)
@[simp] theorem done_now (o : Outstanding) (b : Bytes) (s : State) : (s.done o b).now = s.now := congrArg Clock.now (done_clk o b s)
@[simp] theorem refuse_now (o : Outstanding) (d : Nat) (s : State) : (s.refuse o d).now = s.now := congrArg Clock.now (refuse_clk o d s)
@[simp] theorem malformed_now (o : Outstanding) (d : Nat) (s : State) : (s.malformed o d).now = s.now := congrArg Clock.now (malformed_clk o d s)
@[simp] theorem expire_now (o : Outstanding) (s : State) : (s.expire o).now = s.now := congrArg Clock.now (expire_clk o s)
@[simp] theorem busyDrain_now (o : Outstanding) (k : Nat) (s : State) : (s.busyDrain o k).now = s.now := congrArg Clock.now (busyDrain_clk o k s)
@[simp] theorem refuseLate_now (o : Outstanding) (d : Nat) (s : State) : (s.refuseLate o d).now = s.now := congrArg Clock.now (refuseLate_clk o d s)
@[simp] theorem expireLate_now (o : Outstanding) (s : State) : (s.expireLate o).now = s.now := congrArg Clock.now (expireLate_clk o s)
@[simp] theorem settleTicket_now (n c : Nat) (b : Bytes) (s : State) : (s.settleTicket n c b).now = s.now := congrArg Clock.now (settleTicket_clk n c b s)
@[simp] theorem setOut_now (o : Outstanding) (s : State) : (s.setOut o).now = s.now := congrArg Clock.now (setOut_clk o s)
@[simp] theorem closeBulk_now (p : Port) (n : Nat) (i : Bool) (s : State) : (s.closeBulk p n i).now = s.now := congrArg Clock.now (closeBulk_clk p n i s)
@[simp] theorem takesEffect_now (p : Port) (op : Nat) (x : List (Nat × Nat)) (s : State) : (s.takesEffect p op x).now = s.now := congrArg Clock.now (takesEffect_clk p op x s)

end Sys2Proof.Machine
end

