-- ==== Sys2Proof/Laws/Objects.lean ====
section
/-! SUPPORT. Reads of the numbered objects (compartments, Banks, engines, MACs, ports, platforms, links, slots, buckets, domains) after an
update of one of them. -/

namespace Sys2Proof.Machine

theorem comp_modComp (n m : Nat) (f : Comp → Comp) (s : State) :
    (s.modComp n f).comp m = if m = n then f (s.comp n) else s.comp m := tget_tset _ _ _ _ _
@[simp] theorem comp_modComp_self (n : Nat) (f : Comp → Comp) (s : State) : (s.modComp n f).comp n = f (s.comp n) := by
  rw [comp_modComp, if_pos rfl]
theorem comp_modComp_other {n m : Nat} (h : m ≠ n) (f : Comp → Comp) (s : State) : (s.modComp n f).comp m = s.comp m := by
  rw [comp_modComp, if_neg h]

theorem bank_modBank (n m : Nat) (f : Bank → Bank) (s : State) :
    (s.modBank n f).bank m = if m = n then f (s.bank n) else s.bank m := tget_tset _ _ _ _ _
@[simp] theorem bank_modBank_self (n : Nat) (f : Bank → Bank) (s : State) : (s.modBank n f).bank n = f (s.bank n) := by
  rw [bank_modBank, if_pos rfl]
theorem bank_modBank_other {n m : Nat} (h : m ≠ n) (f : Bank → Bank) (s : State) : (s.modBank n f).bank m = s.bank m := by
  rw [bank_modBank, if_neg h]

theorem lane_modLane (n m : Nat) (f : Lane → Lane) (s : State) :
    (s.modLane n f).lane m = if m = n then f (s.lane n) else s.lane m := tget_tset _ _ _ _ _
@[simp] theorem lane_modLane_self (n : Nat) (f : Lane → Lane) (s : State) : (s.modLane n f).lane n = f (s.lane n) := by
  rw [lane_modLane, if_pos rfl]
theorem lane_modLane_other {n m : Nat} (h : m ≠ n) (f : Lane → Lane) (s : State) : (s.modLane n f).lane m = s.lane m := by
  rw [lane_modLane, if_neg h]

theorem mac_modMac (n m : Nat) (f : Mac → Mac) (s : State) :
    (s.modMac n f).mac m = if m = n then f (s.mac n) else s.mac m := tget_tset _ _ _ _ _
@[simp] theorem mac_modMac_self (n : Nat) (f : Mac → Mac) (s : State) : (s.modMac n f).mac n = f (s.mac n) := by
  rw [mac_modMac, if_pos rfl]
theorem mac_modMac_other {n m : Nat} (h : m ≠ n) (f : Mac → Mac) (s : State) : (s.modMac n f).mac m = s.mac m := by
  rw [mac_modMac, if_neg h]

theorem plat_modPlat (n m : Nat) (f : Plat → Plat) (s : State) :
    (s.modPlat n f).plat m = if m = n then f (s.plat n) else s.plat m := tget_tset _ _ _ _ _
@[simp] theorem plat_modPlat_self (n : Nat) (f : Plat → Plat) (s : State) : (s.modPlat n f).plat n = f (s.plat n) := by
  rw [plat_modPlat, if_pos rfl]
theorem plat_modPlat_other {n m : Nat} (h : m ≠ n) (f : Plat → Plat) (s : State) : (s.modPlat n f).plat m = s.plat m := by
  rw [plat_modPlat, if_neg h]

theorem wport_modPort (n m : Nat) (f : WPort → WPort) (s : State) :
    (s.modPort n f).wport m = if m = n then f (s.wport n) else s.wport m := tget_tset _ _ _ _ _
@[simp] theorem wport_modPort_self (n : Nat) (f : WPort → WPort) (s : State) : (s.modPort n f).wport n = f (s.wport n) := by
  rw [wport_modPort, if_pos rfl]
theorem wport_modPort_other {n m : Nat} (h : m ≠ n) (f : WPort → WPort) (s : State) : (s.modPort n f).wport m = s.wport m := by
  rw [wport_modPort, if_neg h]

theorem link_setLink (n m : Nat) (k : Link) (s : State) : (s.setLink n k).link m = if m = n then k else s.link m := tget_tset _ _ _ _ _
@[simp] theorem link_setLink_self (n : Nat) (k : Link) (s : State) : (s.setLink n k).link n = k := by rw [link_setLink, if_pos rfl]

theorem domain_setDomain (n m : Nat) (k : Domain) (s : State) : (s.setDomain n k).domain m = if m = n then k else s.domain m := tget_tset _ _ _ _ _
@[simp] theorem domain_setDomain_self (n : Nat) (k : Domain) (s : State) : (s.setDomain n k).domain n = k := by rw [domain_setDomain, if_pos rfl]

theorem bucket_setBucket_self (die n : Nat) (k : Bucket) (s : State) : (s.setBucket die n k).bucket die n = k := by
  refine (tget_tset _ _ _ _ _).trans ?_
  rw [if_pos rfl]
theorem slot_emptySlot_self (n : Nat) (s : State) : (s.emptySlot n).slot n = {} := by
  refine (tget_tdel _ _ _ _).trans ?_
  rw [if_pos rfl]
theorem session_setSession_self (n : Nat) (x : Session) (s : State) : (s.setSession n x).session n = x := by
  refine (tget_tset _ _ _ _ _).trans ?_
  rw [if_pos rfl]

end Sys2Proof.Machine
end

