-- ==== Sys2Proof/Tests/Slice0.lean ====
section
/-! SUPPORT. Tests: the checks of WellFormed, values the spec works out, and for the statements states and operands that meet their hypotheses. -/

set_option Elab.async false

namespace Sys2Proof.Tests

open Sys2Proof.Machine

/-! ## A state where everything runs -/

/-- Bytes with others written over them at offsets. -/
def patch (n : Nat) (xs : List (Nat × Bytes)) : Bytes := xs.foldl (fun b x => b.take x.1 ++ x.2 ++ b.drop (x.1 + x.2.length)) (zeros n)

/-- A port map with both MACs, Lane engine 0 a master with select 0 and engine 1 a target. -/
def tMap : Bytes :=
  sized 192 (([0xD0, 0xD1, 0xD5, 0xF5] ++ (List.range 14).map (0xB0 + ·) ++ (List.range 14).map (0xC0 + ·)).flatMap fun c => le 1 c ++ zeros 1)

/-- A WARDEN_PORT section: a port of 16 MiB, of the family of Table 10.2 that MODES 0 gives. -/
def tPort : Bytes := patch 64 [(1, [3]), (4, le 4 20000), (8, [24, 0]), (10, le 2 1000), (12, le 2 1000), (16, List.replicate 32 0xFF)]

/-- A BANK section whose compartment 0 is present, and 1 DUAL. -/
def tBank : Bytes := patch 280 [(0, [16, 16]), (2, le 2 1000), (16, [0x10, 0x30, 0x10])]

/-- A PACER section with bucket 5, and a BOOT section of one image without pins. -/
def tPacer : Bytes := patch 24 [(0, le 2 1), (8, le 2 5 ++ [0, 0] ++ le 4 65536 ++ le 4 100 ++ le 4 0)]
def tBoot (p : Nat) : Bytes := patch 96 [(0, le 1 p ++ le 1 0 ++ le 1 1), (10, [1]), (64, le 4 0 ++ le 4 4096 ++ zeros 8 ++ [0, 0, 0, 2, 0xFF])]

def tFormula : Formula :=
  { sections := [⟨0x02, 0, tMap⟩, ⟨0x04, 0, [2, 2, 8, 2, 4, 1, 0, 0]⟩, ⟨0x05, 0, patch 72 [(8, [1, 0, 8, 0] ++ le 2 128), (40, [0, 0, 8, 0] ++ le 2 128)]⟩,
      ⟨0x06, 0, patch 64 [(0, le 2 16 ++ le 2 16 ++ [4, 4]), (26, [1])]⟩, ⟨0x0C, 0, patch 72 [(0, [1])]⟩]
    ++ (List.range 5).flatMap fun p => [⟨0x03, p, tPort⟩, ⟨0x0E, p, tPacer⟩]
    ++ (List.range 4).flatMap fun b => [⟨0x07, b, tBank⟩, ⟨0x08, b, patch 256 []⟩, ⟨0x0A, b, tBoot b⟩] }

/-- The block with every die in SESSION and every domain on, at cycle 1 000 000. -/
def live : State :=
  { clk := { now := 1000000, running := true }
    cores := { winKpr := true, winRly := true, winBnk := 15, steward := .running, wdogStart := some 900000 }
    mb := { isOpen := true }
    svc := { isOpen := true, present := true, auth := true }
    log := { entry := { begun := true } }
    pwr := { domains := (List.range 22).map fun n => (n, { condition := .on }) }
    frm := { applied := some tFormula, isSealed := true }
    flc := { closed := true }
    cry := { es := 1, drbg := 1, lastReseed := 900000 }
    boot := { started := true, stage := 0x0A, kfVersion := some 1, stwVerdict := 0, phase := 4 }
    links := (List.range 5).map fun l => (l, { state := .session, held := false, offset := some 0, everSession := true }) }

/-- A command that has its owner's turn, and the state where it has. -/
def order (op : Nat) (payload : Bytes) (port : Port := .mb0) (bulk : Bytes := []) (session : Nat := 0) : Outstanding :=
  { port := port, session := session, opcode := op, tag := 7, payload := payload, bulk := bulk, edge := 999000, deadline := 2 ^ 40, progress := .begun }
def waits (o : Outstanding) (x : State) : State := { x with paths := { x.paths with outstanding := [{ o with progress := .accepted }] } }
def turn (o : Outstanding) (x : State) : State := (waits o x).setOut o

/-- A state and operands meet the hypotheses of a statement about the command `op`. -/
def Meets (op : Nat) (hyps : Outstanding → State → Prop) : Prop := ∃ r o s u, Runs op r o s u ∧ hyps o u

theorem meets (x : State) (o : Outstanding) {hyps : Outstanding → State → Prop}
    (hr : (decide (o.progress = .begun) && decide (x.now < o.deadline) && decide (x.deviceRefusal o.opcode = none)) = true)
    (hh : hyps o (turn o x)) : Meets o.opcode hyps := by
  simp only [Bool.and_eq_true, decide_eq_true_eq] at hr
  refine ⟨{ port := o.port, session := o.session, tag := o.tag }, o, waits o x, _, ⟨?_, hr.1.1, rfl, hr.1.2, hr.2, rfl⟩, hh⟩
  simp [State.findOut, waits, Outstanding.isFor]

/-- `live` with custody session 1 open. -/
def custody : State := { live with cus := { sessions := [(1, { isOpen := true, deadline := 2 ^ 40 })] } }

def frame (op : Nat) (payload : Bytes := []) : Frame := { opcode := op, flags := 0, status := 0, tag := 7, payload := payload }

/-! ## The checks of WellFormed -/

/-- Each check refuses an ill-formed term: a port without frames, a session out of range, a TAG or payload too long, an object that no variant has,
a flit field beyond its width, an opcode outside class 0xE, a bucket beyond a Bank's. -/
theorem test_wellFormed_refuses :
    (Instr.sysNop { port := .mb1 }).wf = false ∧ (Instr.sysNop { port := .cus, session := 5 }).wf = false
    ∧ (Instr.sysNop { port := .mb0, session := 1 }).wf = false ∧ (Instr.sysNop { port := .mb0, tag := 65536 }).wf = false
    ∧ (Instr.imageVerdict 4 0).wf = false ∧ (Instr.platformRelease 4).wf = false ∧ (Instr.linkTrainDone 5).wf = false
    ∧ (Instr.flitReceived 0 true { type := 16, seq := 0, ack := 0 } .none).wf = false
    ∧ (Instr.accessFault .keeper (2 ^ 32)).wf = false ∧ (Instr.nvmOperationDone 2).wf = false ∧ (Instr.extCommand 0xD000 { port := .mb0 }).wf = false
    ∧ (Instr.extAnswer 0xE000 65536 0 []).wf = false ∧ (Instr.bulkFrameIn .cus 0).wf = false ∧ (Instr.responseTimerExpiry .mb0 0 65536).wf = false
    ∧ (Instr.cusIdleExpiry 0).wf = false ∧ (Instr.meshSample 4 true).wf = false ∧ (Instr.staticSample 8 true).wf = false
    ∧ (Instr.jobStart 8).wf = false ∧ (Instr.hostCaptureRelease 4).wf = false ∧ (Instr.retireEnd 5).wf = false
    ∧ (Instr.laneEntryStart 2).wf = false ∧ (Instr.bucketTick 1 64).wf = false ∧ (Instr.pcrGoRate .keeper 5 0).wf = false
    ∧ (Instr.heatEdge 4).wf = false ∧ (Instr.pulseEnd 0 16).wf = false ∧ (Instr.holdEnd 1024).wf = false ∧ (Instr.analogSample 4 0).wf = false
    ∧ (Instr.pdmSample 2 0).wf = false ∧ (Instr.domainReady 22).wf = false ∧ (Instr.monitorReading 0 5 0).wf = false
    ∧ (Instr.parseEnd 2).wf = false ∧ (Instr.subscriptionDelivery .mb0 1).wf = false := by
  decide +kernel

/-- The longest payload of a frame is 65 535 bytes. -/
theorem test_wellFormed_payload (b : Bytes) (h : 65536 ≤ b.length) : (Instr.sysNop { port := .mb0, payload := b }).wf = false := by
  simp [Instr.wf, Req.wf, Nat.not_lt.mpr h]

/-- An event on an object that no variant has faults. -/
theorem test_noSuchObject : exec (.meshSample 4 true) live = .fault .noSuchObject := rfl

/-! ## The machine and the ports -/

theorem test_meets_machine :
    (State.reset.pending = [] ∧ State.reset.now ≤ maxCycle) ∧ (live.pending = [] ∧ live.clk.running = true)
    ∧ (Instr.mb0Status).wf = true ∧ (∃ t, exec .mb0Status live = .next t) ∧ live.inv = true ∧ ∃ t, step live = .next t :=
  ⟨by decide +kernel, by decide +kernel, by decide, ⟨_, rfl⟩, by decide +kernel, ⟨_, rfl⟩⟩

theorem test_meets_ResponsePlacedOnce :
    live.svc.present = true ∧ State.reset.svc.present = false ∧ custody.sessionOpen 1 = true ∧ custody.sessionOpen 2 = false
    ∧ order 2 [] .stw ∈ { live with paths := { outstanding := [order 2 [] .stw] } }.paths.outstanding
    ∧ (order 2 [] .stw).isFor .mb0 0 7 = false ∧ (order 1 []).port ≠ .stw := by decide +kernel

theorem test_meets_ReceiptChecksInOrder :
    (Port.mb0).limit ≤ { live with paths := { outstanding := List.replicate 16 (order 1 []) } }.outCount .mb0 0
    ∧ live.outCount .mb0 0 < (Port.mb0).limit ∧ (headFault .mb0 { frame 1 with flags := 1 }).isSome = true ∧ headFault .mb0 (frame 1) = none
    ∧ cmdInfo 0xF000 = none ∧ (cmdInfo 1).isSome = true ∧ ((waits (order 1 []) live).findOut .mb0 0 7).isSome = true ∧ live.findOut .mb0 0 7 = none
    ∧ live.rankAllows .mb0 1 = true ∧ live.rankAllows .stw 0xD001 = false
    ∧ { live with svc := {} }.svc.auth = false ∧ neverNarrowed 0x2000 = false ∧ ((cmdInfo 1).map CmdInfo.bulk) = some 0 := by decide +kernel

theorem test_meets_UnlistedOpcodesUnknown :
    (0xF000 ≤ 0xFFFF ∧ 0xFFFF < 0x10000) ∧ live.outCount .mb0 0 < (Port.mb0).limit ∧ headFault .mb0 (frame 0x0FFF) = none ∧ cmdInfo 0x0FFF = none := by
  decide +kernel

theorem test_meets_OneFramePerEdge :
    tfind ({ live with paths := { lastAccept := [(4, maxCycle - 1)] } }).paths.lastAccept (Port.mb0).index = some (maxCycle - 1)
    ∧ maxCycle - 1 < maxCycle := by decide +kernel

theorem test_meets_LateCommandExpires :
    let o : Outstanding := { order 1 [] with progress := .accepted, deadline := 1000000 }
    let s : State := { live with paths := { outstanding := [o] } }
    s.findOut .mb0 0 7 = some o ∧ o.opcode = 1 ∧ o.progress = .accepted ∧ o.deadline ≤ s.now := by decide +kernel

theorem test_meets_PhotoFinish :
    let s := live.takesEffect .kpr 0x2001 [objComp 0]
    (∃ w, s.winner [objComp 0] = some w) ∧ live.unopposed [objComp 0] ∧ objComp 0 ∈ [objComp 0]
    ∧ s.now < { s with clk := { s.clk with now := 1000001 } }.now ∧ ∀ e ∈ s.paths.edgeOrders, e.edge ≤ s.now := by
  refine ⟨⟨_, rfl⟩, ?_⟩; decide +kernel

theorem test_meets_TicketsNumberedOnce :
    let t : Ticket := { port := .mb0, session := 0, opcode := 0x2000, tag := 7 }
    tfind ({ live with paths := { tickets := [(1, t), (2, { t with sent := true })] } }).paths.tickets 1 = some t
    ∧ tfind ({ live with paths := { tickets := [(1, t), (2, { t with sent := true })] } }).paths.tickets 2 = some { t with sent := true } := by
  decide +kernel

theorem test_meets_PortQueries :
    Meets 0x0001 (fun o _ => o.fits 0 []) ∧ Meets 0x0002 (fun o u => o.fits 0 [] ∧ u.boot.kfVersion = some 1)
    ∧ Meets 0x0002 (fun o u => o.fits 0 [] ∧ u.boot.kfVersion = none) ∧ Meets 0x0003 (fun o _ => o.fits 0 [])
    ∧ Meets 0x000A (fun o u => o.fits 4 [] ∧ ∃ t, tfind u.paths.tickets (u32 o.payload 0) = some t ∧ t.port = o.port ∧ t.session = o.session)
    ∧ Meets 0x000A (fun o u => o.fits 4 [] ∧ tfind u.paths.tickets (u32 o.payload 0) = none) :=
  ⟨meets live (order 1 []) (by decide) (by decide +kernel), meets live (order 2 []) (by decide) (by decide +kernel),
   meets { live with boot := {} } (order 2 []) (by decide) (by decide +kernel), meets live (order 3 []) (by decide) (by decide +kernel),
   meets { live with paths := { tickets := [(1, { port := .mb0, session := 0, opcode := 0x2000, tag := 7 })] } } (order 0xA (le 4 1)) (by decide)
     ⟨by decide +kernel, _, rfl, rfl, rfl⟩,
   meets live (order 0xA (le 4 1)) (by decide) (by decide +kernel)⟩

/-! ## Chapter 3: the ports -/

theorem verify_fit (n k : Nat) (pk msg : Bytes) : verify n pk msg (fit k (Config.sigFor n pk msg)) = true := by simp [verify, fit]

/-- A certificate and the signatures under its keys exist for every message. -/
theorem certificate_exists (unit counter : Nat) (s : State) (hk : s.keyUsable unit = true) (hc : s.counterLive counter ≤ 0) (msg : Bytes) :
    ∃ b : Bytes, b.length = certLength + 3405 ∧ s.certGood unit counter (b.take certLength) = true
      ∧ certSigned (b.take certLength) msg (slice b certLength 96) (b.drop (certLength + 96)) = true := by
  let text : Bytes := 1 :: zeros 2051
  have ht : text.length = 2052 := by decide +kernel
  let pk := s.keyHash unit
  let x := fit 96 (Config.sigFor sEcdsa384 pk (sha text))
  let y := fit 3309 (Config.sigFor sMlDsa pk (sha text))
  have hx : x.length = 96 := fit_length ..
  have hy : y.length = 3309 := fit_length ..
  let cert := text ++ x ++ y
  have hc0 : cert.length = certLength := by simp [cert, ht, hx, hy, certLength]
  let ec := fit 96 (Config.sigFor sEcdsa384 (slice cert 3 97) msg)
  let pq := fit 3309 (Config.sigFor sMlDsa (slice cert 100 1952) msg)
  have he : ec.length = 96 := fit_length ..
  have hp : pq.length = 3309 := fit_length ..
  have h1 : (cert ++ ec ++ pq).take certLength = cert := by rw [List.append_assoc, ← hc0, List.take_left]
  have h2 : slice (cert ++ ec ++ pq) certLength 96 = ec := by
    rw [slice, List.append_assoc, ← hc0, List.drop_left, ← he, List.take_left]
  have h3 : (cert ++ ec ++ pq).drop (certLength + 96) = pq := by
    rw [← hc0, ← he, ← List.length_append, List.drop_left]
  refine ⟨cert ++ ec ++ pq, by simp [hc0, he, hp], ?_, ?_⟩
  · rw [h1]
    have e1 : cert.take 2052 = text := by rw [← ht]; simp [cert]
    have e2 : slice cert 2052 96 = x := by
      rw [slice, ← ht, show cert = text ++ (x ++ y) from List.append_assoc .., List.drop_left, ← hx, List.take_left]
    have e3 : slice cert 2148 3309 = y := by
      rw [slice, show 2148 = (text ++ x).length by simp [ht, hx], show cert = (text ++ x) ++ y from rfl, List.drop_left, ← hy, List.take_length]
    unfold State.certGood
    rw [e1, e2, e3, hk]
    simp only [hc0, decide_true, Bool.true_and, Bool.and_eq_true, decide_eq_true_eq, pk, x, y, verify_fit]
    exact ⟨⟨⟨rfl, trivial⟩, trivial⟩, Nat.le_trans hc (Nat.zero_le _)⟩
  · rw [h1, h2, h3]
    simp only [certSigned, ec, pq, verify_fit, Bool.and_self]

/-- `live` in lifecycle 2 with key unit 7 burnt, and with a nonce drawn for SYS.SVC_AUTH. -/
def burnt : State := { live with fus := { latchA := [(keyUnitAddr 7 + 16, 1)] } }
def challenged : State := { burnt with svc := { burnt.svc with nonce := some (zeros 32) } }

theorem test_meets_ServiceAuthentication :
    Meets 0x0008 (fun o u => o.fits 0 [] ∧ u.drbgReady = true ∧ u.reseedDue = false)
    ∧ Meets 0x0009 (fun o u => o.fits 8 [] ∧ u.draining dCrypto = false ∧ u.domainOn dCrypto = true ∧ u.svc.lockUntil = none
        ∧ ∃ nonce, u.svc.nonce = some nonce ∧ u.certGood 7 0x82 (o.bulk.take certLength) = true ∧ o.bulk.length = certLength + 3405
          ∧ certSigned (o.bulk.take certLength) (sha (ascii "TXI-SVC" ++ u.devid ++ nonce)) (slice o.bulk certLength 96)
              (o.bulk.drop (certLength + 96)) = true)
    ∧ Meets 0x0009 (fun o u => o.fits 8 [] ∧ u.draining dCrypto = false ∧ u.domainOn dCrypto = true ∧ u.svc.lockUntil = none ∧ u.svc.nonce = none
        ∧ u.svc.failures = 2)
    ∧ Meets 0x0009 (fun o u => o.fits 8 [] ∧ u.svc.lockUntil = some (2 ^ 35) ∧ u.now < 2 ^ 35)
    ∧ ∃ e, { live with svc := { lockUntil := some (2 ^ 35) } }.svc.lockUntil = some e := by
  refine ⟨meets live (order 8 []) (by decide) (by decide +kernel), ?_,
    meets { live with svc := { failures := 2 } } (order 9 (zeros 8)) (by decide) (by decide +kernel),
    meets { live with svc := { lockUntil := some (2 ^ 35) } } (order 9 (zeros 8)) (by decide) (by decide +kernel), _, rfl⟩
  obtain ⟨b, hl, hg, hs⟩ := certificate_exists 7 0x82 challenged (by decide +kernel) (by decide +kernel)
    (sha (ascii "TXI-SVC" ++ challenged.devid ++ zeros 32))
  exact meets challenged (order 9 (zeros 8) .svc b) rfl
    ⟨rfl, rfl, rfl, rfl, zeros 32, rfl, hg, hl, hs⟩

theorem test_meets_MailboxRead :
    live.mb.isOpen = true ∧ live.mb.queue = [] ∧ (∃ f rest, { live with mb := { isOpen := true, queue := [frame 1] } }.mb.queue = f :: rest)
    ∧ 1 + (withCrc (frame 1).bytes).length ≤ 13 ∧ 12 < 1 + (withCrc (frame 1).bytes).length :=
  ⟨rfl, rfl, ⟨_, _, rfl⟩, by decide +kernel⟩

theorem test_meets_MailboxStatus :
    (let s : State := { live with mb := { isOpen := true, queue := List.replicate 32 (frame 1), discards := 255 } }
     s.mb.isOpen = true ∧ s.mb.queue.length ≤ 32 ∧ s.outCount .mb0 0 ≤ 16 ∧ s.mb.discards ≤ 255) := by decide +kernel

theorem test_meets_MailboxWrite :
    let good := withCrc (frame 1).bytes
    let bad := (frame 1).bytes ++ zeros 4
    (0x33 ≠ (0x02 : Byte) ∧ 0x33 ≠ (0x32 : Byte)) ∧ State.reset.mb.isOpen = false ∧ live.mb.isOpen = true ∧ frameLengthOk [1] = false
    ∧ (frameLengthOk bad = true ∧ crcPasses bad = false) ∧ (frameLengthOk good = true ∧ crcPasses good = true) ∧ 0 < live.mb0Free
    ∧ { live with mb := { isOpen := true, queue := List.replicate 32 (frame 1) } }.mb0Free = 0 := by decide +kernel

/-- `live` with an inbound and an outbound bulk transfer of MB0 under TAG 7, each of 8 bytes. -/
def bulkIn : Bulk := { port := .mb0, session := 0, inbound := true, tag := 7, opcode := 0xC001, total := 8, data := [], seq := 0, deadline := 2 ^ 30 }
def bulkOut : Bulk := { bulkIn with inbound := false, opcode := 0xA001, data := [1], staged := some (zeros 12) }
def transfers : State :=
  { waits { order 0xC001 (le 4 8 ++ zeros 4) with progress := .awaitsBulk } live with
    paths := { (waits (order 0xC001 (le 4 8 ++ zeros 4)) live).paths with bulks := [bulkIn, bulkOut] } }

theorem test_meets_MailboxOther :
    (transfers.mb.isOpen = true ∧ transfers.mb1In = true ∧ transfers.mb.slot = none)
    ∧ (transfers.transfer .mb0 0 false).bind Bulk.staged = some (zeros 12) ∧ (live.transfer .mb0 0 false).bind Bulk.staged = none
    ∧ transfers.transfer .mb0 0 true = some bulkIn
    ∧ (let s : State := { live with mb := { isOpen := true, notices := [frame 1] } }
       s.mb.notices = [frame 1] ∧ s.mb.queue.length + s.outCount .mb0 0 < 32) := by decide +kernel

theorem test_meets_ServicePort :
    (live.svc.present = true ∧ live.svc.isOpen = true ∧ live.svc.slots.length < 2 ∧ live.fus.romOnly = false)
    ∧ (∃ packet d : Bytes, d.length ≤ 4109 ∧ cobsDecode (packet.length + 1) packet = some (0 :: d) ∧ frameLengthOk d = true ∧ crcPasses d = true)
    ∧ (∃ packet d : Bytes, d.length ≤ 4109 ∧ cobsDecode (packet.length + 1) packet = some (1 :: d))
    ∧ ∃ packet : Bytes, cobsDecode (packet.length + 1) packet = none :=
  ⟨by decide +kernel, ⟨svcPack 0 (withCrc (frame 1).bytes) |>.dropLast, withCrc (frame 1).bytes, by decide +kernel⟩,
   ⟨[3, 1, 9], [9], by decide +kernel⟩, [9, 1], by decide +kernel⟩

/-- A frame in Steward TCM at 0x100, and what its doorbell meets. -/
def rung : State := { live with cores := { live.cores with tcmSteward := mwrite 0 [] 0x100 (withCrc (frame 1).bytes) } }

theorem test_meets_StewardPort :
    let n := u16 (rung.tcm (0x100 + 4) 2) 0
    (rung.stewardOn = true ∧ (0x100 : Nat) % 4 = 0 ∧ (0x1FFFD : Nat) % 4 ≠ 0 ∧ rung.outCount .stw 0 < 16)
    ∧ 16 ≤ { live with paths := { outstanding := List.replicate 16 (order 1 [] .stw) } }.outCount .stw 0
    ∧ 0x20000 < 0x1FFFC + 12 + u16 (rung.tcm (0x1FFFC + 4) 2) 0
    ∧ (0x100 + 12 + n ≤ 0x20000 ∧ crcPasses (rung.tcm 0x100 (12 + n)) = true ∧ bit (Frame.ofBytes (rung.tcm 0x100 (8 + n))).flags 4 = false)
    ∧ (live.stw.rang = false ∧ (0x1000 * 0x20000 : Nat) % 2 ^ 17 % 4 = 0 ∧ 0x800 ≤ (0x1000 * 0x20000 : Nat) / 2 ^ 17
        ∧ (0x1000 * 0x20000 : Nat) % 2 ^ 17 + 4 * ((0x1000 * 0x20000 : Nat) / 2 ^ 17) ≤ 0x20000)
    ∧ { live with stw := { rang := true } }.stw.rang = true
    ∧ (let s : State := { live with stw := { queue := [frame 1] } }
       s.stw.queue = [frame 1] ∧ s.powered dSteward = true ∧ (ringFrame (frame 1)).length ≤ s.ringSpace
         ∧ s.stw.ringWr + (ringFrame (frame 1)).length ≤ 4 * s.stw.ringSizeW) := by decide +kernel

theorem test_meets_ExtForwarding :
    isExt 0xE000 = true ∧ Meets 0xE000 (fun _ u => u.featureOff 6 = false ∧ u.stewardOn = true)
    ∧ Meets 0xEFFF (fun _ u => u.featureOff 6 = true) ∧ Meets 0xE000 (fun _ u => u.featureOff 6 = false ∧ u.stewardOn = false)
    ∧ (let f : Forward := ⟨1, .mb0, 0, 7, 0xE000⟩
       let s : State := { turn (order 0xE000 []) live with stw := { forwards := [f] } }
       s.stw.forwards.find? (fun x => x.number = 1 ∧ x.opcode = 0xE000) = some f ∧ s.findOut f.port f.session f.tag = some (order 0xE000 [])
         ∧ s.now < (order 0xE000 []).deadline ∧ (order 0xE000 []).deadline ≤ { s with clk := { now := 2 ^ 40 } }.now) :=
  ⟨by decide, meets live (order 0xE000 []) (by decide) (by decide +kernel),
   meets { live with fus := { latchE := [(0x40, 0x40)] } } (order 0xEFFF []) (by decide) (by decide +kernel),
   meets { live with cores := {} } (order 0xE000 []) (by decide) (by decide +kernel), by decide +kernel⟩

theorem test_meets_BulkTransfers :
    let f (last n : Nat) := withCrc (le 2 7 ++ le 2 0 ++ le 2 n ++ le 1 last ++ zeros (1 + n))
    let s (last n : Nat) : State := { transfers with mb := { isOpen := true, slot := some (f last n) } }
    ((s 0 4).mb.slot = some (f 0 4) ∧ (s 0 4).transfer .mb0 0 true = some bulkIn ∧ (s 0 4).now < bulkIn.deadline
      ∧ bulkFormOk .mb0 (f 0 4) = true ∧ crcPasses (f 0 4) = true ∧ u16 (f 0 4) 0 = bulkIn.tag ∧ u16 (f 0 4) 2 = bulkIn.seq ∧ byteAt (f 0 4) 7 = 0
      ∧ byteAt (f 0 4) 6 = 0)
    ∧ (bulkFormOk .mb0 (f 1 8) = true ∧ crcPasses (f 1 8) = true ∧ byteAt (f 1 8) 6 = 1 ∧ ((s 1 8).findOut .mb0 0 bulkIn.tag).isSome = true
      ∧ (cmdInfo 0xC001).isSome = true ∧ (bulkIn.data ++ slice (f 1 8) 8 (u16 (f 1 8) 4)).length = bulkIn.total)
    ∧ (transfers.transfer .mb0 0 false = some bulkOut ∧ bulkOut.data ≠ []
      ∧ { live with paths := { bulks := [{ bulkOut with data := [] }] } }.transfer .mb0 0 false = some { bulkOut with data := [] }) := by
  decide +kernel

theorem test_meets_ResponseTimers :
    let o := { order 0xE000 [] with progress := .begun }
    let f : Forward := ⟨1, .mb0, 0, 7, 0xE000⟩
    let s := turn o live
    (s.findOut .mb0 0 7 = some o ∧ o.progress ≠ .awaitsBulk ∧ o.link = none ∧ s.stw.forwards = [])
    ∧ ({ s with stw := { forwards := [f] } }.stw.forwards.find? fun x => x.port = o.port ∧ x.session = o.session ∧ x.tag = o.tag) = some f
    ∧ (turn { o with link := some 0 } { live with links := [] }).inSession 0 = false := by decide +kernel
/-! ## The custody channel and the Sillage -/

/-- The head of a protected record of session 1: its type, SEQ 1, one fragment, LENGTH 1. -/
def head (type : Nat) : Bytes := [1] ++ le 1 type ++ be 2 1 ++ be 8 1 ++ [0, 1] ++ be 2 1

theorem test_meets_CustodyRecords :
    (zeros 15).length < 16
    ∧ ∀ type, type ∈ [0x10, 0x11, 0x12] → ∀ tag : Bytes, tag.length = 16 →
        let record := head type ++ [0] ++ tag
        byteAt record 0 = 1 ∧ byteAt record 1 = type ∧ be16 record 2 = 1 ∧ beVal (slice record 4 8) = 1 ∧ byteAt record 12 = 0 ∧ byteAt record 13 = 1
          ∧ be16 record 14 = 1 ∧ slice record 16 1 = [0] ∧ record.drop 17 = tag ∧ record.length = 33 ∧ custody.sessionOpen 1 = true
          ∧ live.sessionOpen 1 = false ∧ custody.now < (custody.session 1).deadline ∧ (custody.session 1).freshSeq 1 = true := by
  refine ⟨by decide, ?_⟩
  intro type ht tag hl
  simp only [List.mem_cons, List.not_mem_nil, or_false] at ht
  have hlen : ∀ h : Bytes, h.length = 17 → (h ++ tag).length = 33 := by intro h e; simp [e, hl]
  rcases ht with h | h | h <;> subst h <;>
    exact ⟨rfl, rfl, rfl, rfl, rfl, rfl, rfl, rfl, rfl, hlen _ rfl, rfl, rfl, by decide +kernel, rfl⟩

/-- A handshake that awaits its C_FINISH, with an empty transcript hash. -/
def shaking : State :=
  { live with cus := { handshake := some { session := 1, deadline := 2 ^ 30, answered := true } } }

theorem test_meets_CustodyHandshake :
    (∀ body : Bytes, body.length = 48 →
      let record := [1, 3] ++ be 2 1 ++ zeros 8 ++ [0, 1] ++ be 2 48 ++ body
      byteAt record 0 = 1 ∧ be16 record 14 = 48 ∧ byteAt record 12 = 0 ∧ byteAt record 13 = 1 ∧ beVal (slice record 4 8) = 0
        ∧ shaking.featureOff 2 = false ∧ byteAt record 1 = 3 ∧ be16 record 2 = 1 ∧ record.drop 16 = body)
    ∧ (hmac (shaking.slotKey slotFinC) []).length = 48
    ∧ (∃ h, shaking.cus.handshake = some h ∧ shaking.now < h.deadline ∧ h.answered = true ∧ h.session = 1 ∧ h.finishParts = [])
    ∧ live.cus.handshake = none ∧ live.cusBusy = true ∧ custody.sessionOpen 1 = true := by
  refine ⟨fun body _ => ⟨rfl, rfl, rfl, rfl, rfl, rfl, rfl, rfl, rfl⟩, ?_, ⟨_, rfl, by decide +kernel, rfl, rfl, rfl⟩, rfl, by decide +kernel, by decide +kernel⟩
  simp

theorem test_meets_CustodySessions : (∃ h, shaking.cus.handshake = some h) ∧ custody.sessionOpen 1 = true := ⟨⟨_, rfl⟩, by decide +kernel⟩

/-- A frame received on cycle `t` in a stage, and `live` with frames. -/
def netFrame (t : Nat) (stage : FrameStage) (dir : Nat := 0) : NetFrame := { dir := dir, bytes := zeros 64, recv := t, cells := 16, stage := stage }
def holding (fs : List NetFrame) : State := { live with net := { frames := fs } }

theorem test_meets_CustodyTransport :
    let f := netFrame 999000 .steer
    let old := netFrame 0 .steer
    let steered : NetFrame := { f with parse := { steer := some (14, 34) } }
    ((holding [f]).findFrame (fun g => g.stage = .steer) = some f ∧ f.residence = 3399000 ∧ f.edge = 0)
    ∧ (old.unlimited = false ∧ old.residence ≤ { holding [old] with clk := { now := 2400000 } }.now)
    ∧ ((holding [f]).now < f.residence ∧ { holding [f] with links := [] }.inSession 0 = false)
    ∧ ((holding [f]).inSession 0 = true ∧ 8 ≤ { holding [f] with net := { keeperIn := List.replicate 8 ([], []) } }.net.keeperIn.length)
    ∧ (steered.parse.steer = some (14, 34) ∧ (holding [steered]).net.keeperIn.length < 8)
    ∧ (let m : CustodyOut := ⟨1, 4, zeros 48, zeros 12⟩
       { live with cus := { out := [m] } }.cus.out = [m] ∧ m.type < 0x10 ∧ m.body.length ≤ 1280 ∧ live.inSession 0 = true)
    ∧ (let m : CustodyOut := ⟨1, 0x10, zeros 48, zeros 12⟩
       { live with cus := { out := [m] } }.cus.out = [m] ∧ 0x10 ≤ m.type ∧ live.sessionOpen m.session = false) := by decide +kernel

def rec0 : Rec := { cycle := 999999, slot := 2, source := 0, code := 0x0002 }
def batch0 : Batch := { firstSeq := 0, count := 1, firstBaton := 0, lastBaton := 0, prevChain := [], chain := [] }

theorem test_meets_SillageChain :
    live.log.ring.length < 2048 ∧ live.log.openFirst ≤ live.log.nextSeq ∧ live.log.openCount + 1 < 120
    ∧ { live with log := { nextSeq := 119 } }.log.openCount + 1 = 120 ∧ { live with log := { nextSeq := 119 } }.log.ring.length < 2048 := by
  decide +kernel

theorem test_meets_SillageEvents :
    let s : State := { live with log := { nextSeq := 1, sealed := [batch0], entry := { flight := [(1000001, rec0)], held := [rec0], begun := true } } }
    lowest (s.log.entry.flight.map Prod.fst) = some 1000001 ∧ s.log.entry.begun = true
    ∧ lowest (s.log.entry.held.map Rec.cycle) = some 999999 ∧ s.log.openCount ≠ 0 ∧ s.log.sealed.find? Batch.signing = some batch0
    ∧ { s with flc := { slots := [(122, { attr := 1 })] } }.slotValid 122 = true ∧ s.drbgReady = true ∧ s.clk.running = true := by decide +kernel

theorem test_meets_SillageCommands :
    Meets 0xA000 (fun o _ => o.fits 8 [(6, 2)] ∧ 0 < u16 o.payload 4 ∧ u16 o.payload 4 ≤ 120)
    ∧ Meets 0xA002 (fun o u => o.fits 0 [] ∧ u.sealBatch.log.last = none)
    ∧ (∀ signing, Meets 0xA002 (fun o u => o.fits 0 [] ∧ ∃ b, u.sealBatch.log.last = some b ∧ b.signing = signing))
    ∧ Meets 0xA003 (fun o _ => o.fits 0 [])
    ∧ Meets 0xA004 (fun o _ => o.fits 4 [] ∧ u16 o.payload 0 < 2 ^ 14 ∧ byteAt o.payload 2 ≤ 3 ∧ byteAt o.payload 3 = 0 ∧ u16 o.payload 0 ≠ 0)
    ∧ Meets 0xA004 (fun o _ => o.fits 4 [] ∧ u16 o.payload 0 = 0 ∧ byteAt o.payload 2 ≤ 3 ∧ byteAt o.payload 3 = 0)
    ∧ (∀ on, Meets 0xA005 (fun o u => o.fits 4 [(1, 3)] ∧ 2 ≤ alertCodeList.idxOf (byteAt o.payload 0) ∧ alertCodeList.idxOf (byteAt o.payload 0) ≤ 5
        ∧ bit u.log.latched (alertCodeList.idxOf (byteAt o.payload 0)) = on)) :=
  ⟨meets live (order 0xA000 (zeros 4 ++ [120, 0, 0, 0])) (by decide) (by decide +kernel),
   meets live (order 0xA002 []) (by decide) (by decide +kernel),
   fun signing => meets { live with log := { last := some { batch0 with signing := signing } } } (order 0xA002 []) (by decide +revert)
     ⟨by decide +revert, _, rfl, rfl⟩,
   meets live (order 0xA003 []) (by decide) (by decide +kernel), meets live (order 0xA004 [0xFF, 0x3F, 3, 0]) (by decide) (by decide +kernel),
   meets live (order 0xA004 (zeros 4)) (by decide) (by decide +kernel),
   fun on => meets { live with log := { latched := if on then 4 else 0 } } (order 0xA005 (le 1 (alertCodeList.getD 2 0) ++ zeros 3))
     (by decide +kernel +revert) (by decide +kernel +revert)⟩

theorem test_meets_SubscriptionDelivery :
    let x : Subscription := { port := .mb0, session := 0, tag := 7, number := 1, mask := 1, minSev := 0, since := 0, due := [(0, rec0)] }
    let s : State := { live with log := { subs := [x] } }
    s.log.subs.find? (fun y => y.port = .mb0 ∧ y.session = 0) = some x ∧ x.due ≠ [] ∧ s.deliveryWaits x = false
    ∧ ({ s with mb := { notices := [{ opcode := 0xA004, flags := 3, status := 0, tag := 7, payload := [] }] } }).deliveryWaits x = true := by
  decide +kernel

/-- `live` with the descriptor of Warden R that allows every granule, and a signed batch that no store write has taken. -/
def allowing : State := { live with wdn := { ports := (List.range 5).map fun p =>
  (p, { live := [(0, le 4 0 ++ le 4 0xFFFFFF ++ [1, 0] ++ le 2 0x5555 ++ le 2 0x5555 ++ zeros 2)], phase := 4, holdDone := true, sfdpOk := true }) } }
def storing : State := { allowing with log := { sealed := [{ batch0 with signing := false }] } }

theorem test_meets_SillageStoreWrites :
    let b := { batch0 with signing := false }
    let w : State := { storing with log := { storing.log with store := { writing := some 0 } } }
    (storing.batchDue = some b ∧ storing.storeInUse = true ∧ storing.portsReady = true ∧ storing.storeFree = true) ∧ w.storeFree = false
    ∧ (w.log.store.writing = some 0 ∧ w.log.sealed.find? (fun x => x.firstSeq = 0) = some b ∧ w.log.store.cut = false
        ∧ w.sectorAllowed w.log.store.nextSector = true)
    ∧ { w with wdn := {} }.sectorAllowed w.log.store.nextSector = false
    ∧ Meets 0xA001 (fun o _ => o.payload.length = 16 ∧ u32 o.payload 0 = 0 ∧ byteAt o.payload 8 = 0 ∧ byteAt o.payload 9 = 0
        ∧ 0 < u16 o.payload 10 ∧ u16 o.payload 10 ≤ 64) :=
  ⟨by decide +kernel, by decide +kernel, by decide +kernel, by decide +kernel,
   meets live (order 0xA001 (zeros 10 ++ [64, 0] ++ zeros 4)) (by decide) (by decide +kernel)⟩
/-! ## Chapters 15 and 16: the network -/

/-- `live` with both links of the MACs up, the first receiving a frame that found room. -/
def network : State := { live with net := { macs := [(0, { up := true, speed := 2, depth := 8, window := 128, receiving := some true }),
                                                     (1, { up := true, speed := 2, depth := 8, window := 128, paused := some 1000100 })] } }

theorem test_meets_MacLinksAndReception :
    (live.macOn 1 = true ∧ live.netOn = true ∧ (live.mac 1).up = false)
    ∧ ((0x1000 : BitVec 16).getLsbD 12 = true ∧ (0x24 : BitVec 16).getLsbD 2 = true ∧ (0x24 : BitVec 16).getLsbD 5 = true
        ∧ mdioSpeed 0x1000 0x0100 0x0100 0 0 = some 1)
    ∧ ((0x20 : BitVec 16).getLsbD 2 = false ∧ (network.mac 1).up = true ∧ (network.mac 1).receiving = none)
    ∧ { live with net := { macs := [(1, { training := some 1000100 })] } }.net.macs = [(1, { training := some 1000100 })]
    ∧ (live.inSession 0 = true ∧ live.cores.winRly = true ∧ (0x7FFFFF : Nat) < 2 ^ 23)
    ∧ network.roomFor 0 = true ∧ (holding (List.replicate 32 (netFrame 999000 .slow))).roomFor 0 = false
    ∧ (network.mac 0).receiving = some true ∧ (network.mac 1).paused = some 1000100 := by decide +kernel

theorem test_meets_MacReception :
    fcsPasses (zeros 64) = false ∧ (fcsPasses (withFcs (zeros 59)) = true ∧ (withFcs (zeros 59)).length = 63)
    ∧ (fcsPasses (withFcs (zeros 60)) = true ∧ (withFcs (zeros 60)).length = 64 ∧ be16 (withFcs (zeros 60)) 12 ≠ 0x8808)
    ∧ be16 (withFcs (zeros 12 ++ [0x88, 0x08] ++ zeros 46)) 12 = 0x8808 ∧ (network.mac 0).training = none := by decide +kernel

theorem fcs_passes (b : Bytes) : fcsPasses (withFcs b) = true ∧ (withFcs b).length = b.length + 4 := by
  have h : (fcsOf b).length = 4 := rfl
  simp [fcsPasses, withFcs, h]

theorem test_meets_MacOversize : fcsPasses (withFcs (zeros 2045)) = true ∧ 2048 < (withFcs (zeros 2045)).length :=
  ⟨(fcs_passes _).1, by rw [(fcs_passes _).2, zeros, List.length_replicate]; decide⟩

theorem test_meets_FrameWay :
    let f := netFrame 999000 .parsing
    let bad (reason : Nat) (injected : Bool) : NetFrame := { f with injected := injected, parse := { reason := reason } }
    ((holding [f]).findFrame (fun g => g.dir = 0 ∧ g.stage = .parsing) = some f ∧ f.parse.reason = 0)
    ∧ ((bad 1 true).parse.reason ≠ 0 ∧ (bad 1 true).injected = true)
    ∧ ((bad rMalformed false).parse.reason = rMalformed ∧ pbMalf (live.macBlock 0) = 0) ∧ (bad 1 false).parse.reason ≠ rMalformed
    ∧ (let g := { netFrame 999000 .slow with edge := 1000000 }
       let s := holding [g]
       earliest (s.net.frames.filter fun g => g.stage = .slow) = some g ∧ s.inSession 0 = true ∧ (s.advanceTo (g.edge + 1)).now < g.residence
         ∧ (s.net.spTail + 2 ^ 32 - s.net.spHead) % 2 ^ 32 < s.spLimit ∧ s.spLimit ≤ (s.spLimit + 2 ^ 32 - 0) % 2 ^ 32)
    ∧ (headInRange 0 1 1 = true ∧ headInRange 0 1 2 = false)
    ∧ (let g := { netFrame 999000 .forward with edge := 1000000 }
       let s := holding [g]
       earliest (s.net.frames.filter fun g => g.stage = .forward ∧ g.txMac = 0) = some g ∧ (s.mac 0).paused = none ∧ s.netOn = true
         ∧ (s.net.frames.any fun g => g.stage = .sending ∧ g.txMac = 0) = false ∧ g.mirror = false
         ∧ (s.advanceTo (max g.edge (s.mac 0).free)).now < g.residence ∧ (netFrame 0 .forward).residence ≤ 2400000)
    ∧ (let g := { netFrame 999000 .sending with ends := 1000100 }
       (holding [g]).findFrame (fun g => g.stage = .sending ∧ g.txMac = 0) = some g)
    ∧ (holding [f]).findFrame (fun g => g.dir = 0 ∧ g.stage ≠ .sending ∧ !g.unlimited) = some f := by decide +kernel

theorem test_meets_NetPortCommands :
    Meets 0x4000 (fun o u => o.fits 4 [(1, 3)] ∧ byteAt o.payload 0 ≤ 1 ∧ u.inSession 0 = true)
    ∧ (∀ m on, Meets 0x4001 (fun o u => o.fits 4 [] ∧ byteAt o.payload 0 = b2n m ∧ 1 ≤ byteAt o.payload 1 ∧ byteAt o.payload 1 ≤ 16
        ∧ 64 ≤ u16 o.payload 2 ∧ u16 o.payload 2 ≤ 256 ∧ u16 o.payload 2 % 8 = 0 ∧ u.macOn (b2n m) = on
        ∧ (on = true → pbFixed (u.macBlock (b2n m)) = !m) ∧ (on = true → u.inSession 0 = true) ∧ u.unopposed [objTable (65536 + b2n m)])) :=
  ⟨meets live (order 0x4000 [1, 0, 0, 0]) (by decide) (by decide +kernel),
   fun m on => meets (if on then live else { live with frm := {} }) (order 0x4001 (le 1 (b2n m) ++ [16] ++ le 2 256)) (by decide +kernel +revert)
     (by decide +kernel +revert)⟩

/-- A rule entry that matches every frame of S2P and one that is not valid; a table with the first. -/
def ruleAll : Bytes := patch 96 [(81, [1])]
def ruled : State := { live with net := { cls := { current := { rules := [(0, ruleAll)] } } } }

theorem test_meets_ClassificationRules :
    let f := netFrame 999000 .parsed
    let steered : NetFrame := { f with parse := { steer := some (14, 34) } }
    ((holding [f]).findFrame (fun g => g.dir = 0 ∧ g.stage = .parsed) = some f ∧ ((holding [f]).advanceTo (f.parseEnd + 3)).now < f.residence)
    ∧ (netFrame 0 .parsed).residence ≤ ({ holding [f] with clk := { now := 2400000 } }.advanceTo 0).now
    ∧ (steered.parse.steer.isSome = true ∧ live.cusOn = true ∧ steered.injected = false) ∧ f.parse.steer.isSome = false
    ∧ (winningRule ruled.clsBody ruled.tableNow.1 0 {} = some (0, ruleAll) ∧ ruFlag ruleAll 1 = false) := by decide +kernel

theorem test_meets_EpochCommits :
    (∀ waiting, Meets 0x4010 (fun o u => o.fits 100 [(1, 3)] ∧ byteAt o.payload 0 ≤ 1 ∧ u.inSession 0 = true ∧ ruleFault u.clsBody (o.payload.drop 4) = none
        ∧ ruIndex (o.payload.drop 4) < clTcam u.clsBody (ruDir (o.payload.drop 4)) ∧ ruAction (o.payload.drop 4) ≠ 3
        ∧ ruFlag (o.payload.drop 4) 1 = false ∧ u.net.cls.waiting.isSome = waiting ∧ u.net.cls.copying = none ∧ u.net.cls.copyHeld = false
        ∧ u.unopposed [objTable 163840] ∧ u.unopposed [objTable (131072 + 4096 * ruDir (o.payload.drop 4) + ruIndex (o.payload.drop 4))]))
    ∧ Meets 0x4011 (fun o u => o.fits 8 [] ∧ u.inSession 0 = true ∧ rangeFault o.payload = none ∧ rgIndex o.payload < clRange u.clsBody (rgDir o.payload)
        ∧ u.net.cls.waiting = none ∧ u.net.cls.copying = none ∧ u.net.cls.copyHeld = false
        ∧ u.unopposed [objTable 163840] ∧ u.unopposed [objTable (147456 + 64 * rgDir o.payload + rgIndex o.payload)])
    ∧ (∀ old, Meets 0x4012 (fun o u => o.fits 0 [] ∧ u.inSession 0 = true ∧ u.net.cls.waiting = none ∧ u.net.cls.copying = none ∧ u.net.cls.copyHeld = false
        ∧ u.unopposed [objTable 163840] ∧ u.oldLive = old))
    ∧ (let s : State := { live with net := { cls := { waiting := some 1, copying := some 1000512, drained := 999000 } } }
       s.net.cls.waiting = some 1 ∧ s.oldLive = false ∧ s.net.cls.copying = some 1000512) :=
  ⟨fun waiting => meets { live with net := { cls := { waiting := if waiting then some 1 else none } } } (order 0x4010 (zeros 4 ++ ruleAll))
     (by decide +kernel +revert) (by decide +kernel +revert),
   meets live (order 0x4011 [1, 3, 38, 1, 0, 0, 0xFF, 0xFF]) (by decide) (by decide +kernel),
   fun old => meets { live with net := { cls := { cur := 1 }, frames := [{ netFrame 999000 .slow with epoch := if old then some 0 else some 1 }] } }
     (order 0x4012 []) (by decide +kernel +revert) (by decide +kernel +revert), by decide +kernel⟩

theorem test_meets_CountersAndMirror :
    Meets 0x4013 (fun o u => o.fits 8 [(6, 2)] ∧ byteAt o.payload 0 ≤ 1 ∧ 0 < u16 o.payload 4 ∧ u16 o.payload 4 ≤ 240
        ∧ u16 o.payload 2 + u16 o.payload 4 ≤ clTcam u.clsBody (byteAt o.payload 0) ∧ u.inSession 0 = true ∧ byteAt o.payload 1 = 0)
    ∧ Meets 0x4013 (fun o u => o.fits 8 [(6, 2)] ∧ byteAt o.payload 1 = 1 ∧ o.port.rank ≠ 5 ∧ 0 < u16 o.payload 4 ∧ u.inSession 0 = true)
    ∧ Meets 0x4013 (fun o u => o.fits 8 [(6, 2)] ∧ byteAt o.payload 1 = 1 ∧ o.port.rank = 5 ∧ 0 < u16 o.payload 4 ∧ u.inSession 0 = true)
    ∧ Meets 0x4014 (fun o u => o.fits 4 [(1, 3)] ∧ byteAt o.payload 0 = 2 ∧ u.inSession 0 = true ∧ u.net.mrJobs = [] ∧ u.unopposed [objTable 163841]
        ∧ u.featureOff 7 = true)
    ∧ Meets 0x4014 (fun o u => o.fits 4 [(1, 3)] ∧ byteAt o.payload 0 = 2 ∧ u.inSession 0 = true ∧ u.net.mrJobs = [] ∧ u.unopposed [objTable 163841]
        ∧ u.featureOff 7 = false ∧ byteAt (u.sect 4 0) 3 ≠ 0 ∧ u.net.mrOff ≤ 65535)
    ∧ ∃ j rest, { live with net := { mrJobs := [{ dir := 0, bytes := zeros 64, recv := 999000, rule := 0, dispatch := 1000000 }] } }.net.mrJobs = j :: rest :=
  ⟨meets live (order 0x4013 [1, 0, 0, 0, 16, 0, 0, 0]) (by decide) (by decide +kernel),
   meets live (order 0x4013 [0, 1, 0, 0, 1, 0, 0, 0] .kpr) (by decide) (by decide +kernel),
   meets live (order 0x4013 [0, 1, 0, 0, 1, 0, 0, 0]) (by decide) (by decide +kernel),
   meets { live with fus := { latchE := [(0x40, 0x80)] } } (order 0x4014 [2, 0, 0, 0]) (by decide) (by decide +kernel),
   meets live (order 0x4014 [2, 0, 0, 0]) (by decide) (by decide +kernel), _, _, rfl⟩

theorem test_meets_Injection :
    (∀ mode : Bool, Meets 0x4015 (fun o u => byteAt o.payload 0 = 1 ∧ byteAt o.payload 1 = b2n mode ∧ 60 ≤ u16 o.payload 2 ∧ u16 o.payload 2 ≤ 2044
        ∧ o.fits (8 + u16 o.payload 2) [(4, 4)] ∧ u.inSession 0 = true ∧ u.powered dRelayNet = true ∧ u.macOn 1 = true ∧ u.roomFor 0 = true
        ∧ u.roomFor 1 = true ∧ (u.mac 1).up = true))
    ∧ Meets 0x4015 (fun o u => byteAt o.payload 0 = 1 ∧ byteAt o.payload 1 = 0 ∧ 60 ≤ u16 o.payload 2 ∧ o.fits (8 + u16 o.payload 2) [(4, 4)]
        ∧ u.inSession 0 = true ∧ u.powered dRelayNet = true ∧ u.macOn 1 = true ∧ u.roomFor 0 = false) :=
  ⟨fun mode => meets network (order 0x4015 ([1] ++ le 1 (b2n mode) ++ le 2 60 ++ zeros 64)) (by decide +kernel +revert) (by decide +kernel +revert),
   meets (holding (List.replicate 32 (netFrame 999000 .slow))) (order 0x4015 ([1, 0] ++ le 2 60 ++ zeros 64)) (by decide) (by decide +kernel)⟩

/-! ## Chapters 13 and 14: the Lane engines and the Pacer -/

/-- A Lane entry of one phase that reads a byte on one lane; the same with CONT. -/
def entry0 : Bytes := patch 32 [(2, le 2 4), (4, [1]), (6, le 2 9), (8, le 4 (8 + 2 ^ 15)), (24, le 4 0xFFFFFFFF)]
def laned (l : Lane) : State := { live with lanes := [(0, l), (1, { isOpen := true })] }

theorem test_meets_LaneMaster :
    (live.reachesRelay .steward ∧ live.laneRole 0 = 1 ∧ live.domainOn (dLane 0) = true ∧ live.powered (dLane 0) = true ∧ live.draining (dLane 0) = false)
    ∧ 16 ≤ ((laned { queue := List.replicate 16 entry0 }).lane 0).queue.length ∧ (live.lane 0).queue.length < 16
    ∧ (let s := laned { staged := entry0 }
       entryFault (sized 32 (s.lane 0).staged) (fun k => s.mapped (laneCode 0 (1 + k))) (s.laneWidth 0) (0x8000 * (s.laneArea 0).2) = none)
    ∧ (entryFault (sized 32 (live.lane 0).staged) (fun k => live.mapped (laneCode 0 (1 + k))) (live.laneWidth 0) (0x8000 * (live.laneArea 0).2)).isSome
        = true
    ∧ (let l := (laned { queue := [entry0] }).lane 0
       l.queue = [entry0] ∧ l.running = none ∧ l.records.length < 32 ∧ l.copy = false ∧ l.copyWaits = false ∧ l.held = none ∧ l.broken = false)
    ∧ (let h : HeldSel := { sel := 0, mode := 0, deadline := 1000001 }
       let s := laned { queue := [entry0], held := some h }
       (s.lane 0).held = some h ∧ s.now < h.deadline ∧ h.sel = entSel entry0 ∧ h.mode = entMode entry0 ∧ (1 : Nat) ≠ entSel entry0
         ∧ { h with deadline := 1000000 }.deadline ≤ s.now)
    ∧ (let s := laned { running := some (entry0, 999990) }
       (s.lane 0).running = some (entry0, 999990) ∧ s.draining (dLane 0) = false ∧ entLen entry0 [1, 2] ≠ 0)
    ∧ ((live.lane 0).records = [] ∧ ((laned { records := [(1, 2)] }).lane 0).records = [(1, 2)])
    ∧ ((laned { copyWaits := true }).lane 0).copyWaits = true ∧ (laned { copyWaits := true }).domainOn (dLane 0) = true
    ∧ (let s : State := { live with pwr := { domains := [(dLane 0, { condition := .drain, timer := 1000100 })] } }
       s.draining (dLane 0) = true ∧ (s.domain (dLane 0)).drop = none ∧ (s.lane 0).running = none ∧ (s.lane 0).tx = none ∧ (s.lane 0).copy = false) := by
  decide +kernel

theorem test_meets_LaneTarget :
    let s := laned {}
    (s.targetAlive 1 = true ∧ s.targetOpen 1 = true ∧ (0x9F : Byte) ≠ 0x02 ∧ (0x9F : Byte) ≠ 0x32)
    ∧ ((zeros 1) ≠ [] ∧ (zeros 1).length ≤ 4096 ∧ (s.lane 1).crcEn = false ∧ (s.lane 1).freeRx = some 0 ∧ (s.lane 1).records.length < 32)
    ∧ (let t : State := { live with lanes := [(1, { isOpen := true, rx0 := true, rx1 := true, tx := some 4096 })] }
       (t.lane 1).freeRx = none ∧ (t.lane 1).tx = some 4096 ∧ t.targetOpen 1 = true ∧ (t.lane 1).tx.isSome = true)
    ∧ (s.lane 1).tx = none ∧ live.targetOpen 1 = false ∧ s.reachesRelay .keeper
    ∧ ((31 : Word).toNat < 32 ∧ 1 ≤ (4096 : Word).toNat ∧ (4096 : Word).toNat ≤ 4096 ∧ (0 : Word).toNat = 0) := by decide +kernel

theorem test_meets_PacerBuckets :
    (∃ x, live.bucketRec 1 5 = some x ∧ live.dieRuns 1 = true ∧ live.inSession 1 = true ∧ live.dieAbsent 1 = false)
    ∧ ((let k : Bucket := { level := 99, ceil := 100, frac := 65535 }; k.ceil ≤ k.level + ((k.frac + 1) / 65536 : Nat))
        ∧ (let k : Bucket := { level := 0, ceil := 100 }; k.level + ((k.frac + 1) / 65536 : Nat) < k.ceil))
    ∧ (let s : State := { live with pcr := { buckets := [(1024 + 5, { ceil := 100, ticked := 1000000 })], stage := [(5, 100), (6, 2 ^ 32 - 1)] } }
       s.now < (s.bucket 1 5).ticked + 1 ∧ (s.bucket 1 5).ticked < maxCycle
         ∧ (5 : Word).toNat = 5 ∧ 0 < signed 32 (s.pcrStage 1 1) ∧ signed 32 (s.pcrStage 1 2) ≤ 0
         ∧ s.boundKept 1 0 (signed 32 (s.pcrStage 1 1)) (signed 32 (s.pcrStage 1 2)) = true
         ∧ (517 : Word).toNat = 5 + 512 ∧ (s.bucket 1 5).debt ≤ signed 32 (s.pcrStage 1 1) ∧ signed 32 (s.pcrStage 1 1) ≤ (s.bucket 1 5).ceil)
    ∧ Meets 0xB000 (fun o u => (∃ x, u.bucketRec (byteAt o.payload 0) (u16 o.payload 2) = some x) ∧ u.inSession (byteAt o.payload 0) = true
        ∧ o.fits 4 [(1, 1)])
    ∧ Meets 0xB001 (fun o u => (∃ x, u.bucketRec (byteAt o.payload 0) (u16 o.payload 2) = some x) ∧ o.fits 16 [(1, 1)]
        ∧ 0 < signed 32 (u32 o.payload 8) ∧ signed 32 (u32 o.payload 12) ≤ 0
        ∧ u.boundKept (byteAt o.payload 0) 0 (signed 32 (u32 o.payload 8)) (signed 32 (u32 o.payload 12)) = true
        ∧ u.unopposed [objBucket (byteAt o.payload 0) (u16 o.payload 2)])
    ∧ Meets 0xB002 (fun o u => (∃ x, u.bucketRec (byteAt o.payload 0) (u16 o.payload 2) = some x) ∧ o.fits 8 [(1, 1)]
        ∧ (u.bucket (byteAt o.payload 0) (u16 o.payload 2)).debt ≤ signed 32 (u32 o.payload 4)
        ∧ signed 32 (u32 o.payload 4) ≤ (u.bucket (byteAt o.payload 0) (u16 o.payload 2)).ceil
        ∧ u.unopposed [objBucket (byteAt o.payload 0) (u16 o.payload 2)])
    ∧ Meets 0xB002 (fun o u => o.fits 8 [(1, 1)] ∧ u.unopposed [objBucket (byteAt o.payload 0) (u16 o.payload 2)] ∧ (u.bucket (byteAt o.payload 0) (u16 o.payload 2)).ceil < signed 32 (u32 o.payload 4)) :=
  ⟨⟨_, rfl, by decide +kernel⟩, by decide +kernel, by decide +kernel,
   meets live (order 0xB000 [1, 0, 5, 0]) (by decide) ⟨⟨_, rfl⟩, by decide +kernel⟩,
   meets live (order 0xB001 ([1, 0, 5, 0] ++ le 4 65536 ++ le 4 1 ++ zeros 4)) (by decide) ⟨⟨_, rfl⟩, by decide +kernel⟩,
   meets live (order 0xB002 ([1, 0, 5, 0] ++ zeros 4)) (by decide) ⟨⟨_, rfl⟩, by decide +kernel⟩,
   meets live (order 0xB002 ([1, 0, 5, 0] ++ le 4 1)) (by decide) (by decide +kernel)⟩

/-- Compartment 0 with a pending request to unlock, and its Bank as given. -/
def asked (b : Bank) (q : PulseReq := { unlock := true, cause := 0, applied := 999000 }) : State :=
  { live with banks := [(0, b)], comps := [(0, { req := some q })] }

theorem test_meets_HeatEdges :
    let after (s : State) : State :=
      (s.advanceTo ((s.bank 0).nextHeat s.now)).modBank 0 fun k => { k with lastHeat := (s.advanceTo ((s.bank 0).nextHeat s.now)).now }
    (live.bankDeclared 0 = true ∧ live.dieRuns 1 = true ∧ live.powered (dBank 0) = true ∧ (after live).pendingReqs 0 (after live).now = [])
    ∧ (let u := after (asked {}); u.pendingReqs 0 u.now ≠ [] ∧ u.inSession 1 = true ∧ u.domainOn (dBank 0) = true ∧ u.pulseRuns 0 u.now = false
        ∧ (u.bank 0).halted = false ∧ u.restarting = false ∧ (u.bank 0).lockdown = false)
    ∧ (let u := after (asked { lockdown := true }); (u.bank 0).lockdown = true ∧ ∀ x ∈ u.pendingReqs 0 u.now, x.2.unlock = true)
    ∧ (after (asked { halted := true })).restarting = false ∧ ((after (asked { halted := true })).bank 0).halted = true
    ∧ (after { asked {} with frm := { live.frm with activating := true } }).restarting = true
    ∧ (let s : State := { asked {} with comps := [(0, { req := some { unlock := true, cause := 0, applied := 0, start := some 999000, ends := 2 ^ 30 } }),
                                                (2, { req := some { unlock := true, cause := 0, applied := 0 } })] }
       (after s).pulseRuns 0 (after s).now = true ∧ (after s).pendingReqs 0 (after s).now ≠ [])
    ∧ Meets 0xB003 (fun o u => o.fits 4 [(1, 1)] ∧ byteAt o.payload 0 ≤ 3 ∧ 250 ≤ u16 o.payload 2 ∧ u16 o.payload 2 ≤ 10000
        ∧ u.bankDeclared (byteAt o.payload 0) = true ∧ u.inSession (1 + byteAt o.payload 0) = true ∧ u.unopposed [objBucket (1 + byteAt o.payload 0) 512]) :=
  ⟨by decide +kernel, by decide +kernel, by decide +kernel, by decide +kernel, by decide +kernel, by decide +kernel, by decide +kernel,
   meets live (order 0xB003 ([3, 0] ++ le 2 10000)) (by decide) (by decide +kernel)⟩
/-! ## Chapter 17: compartments -/

/-- `live` with one compartment's record as given, and a stage of an OPEN. -/
def shut (c : Comp) (n : Nat := 0) : State := { live with comps := [(n, c)] }
def stage (kind : Nat) (port : Port := .svc) : OpenStage :=
  { kind := kind, ticket := 0, port := port, session := 0, cause := 0, due := 2000000, delayS := 1, windowS := 1 }
def alarmed (x : State) : State := { x with vlt := { x.vlt with redFlag := true } }

/-- What every clause of CompartmentOpen asks of its command. -/
def opens (o : Outstanding) (u : State) : Prop :=
  o.fits 4 [(2, 2)] ∧ u16 o.payload 0 ≤ 1023 ∧ u.reachable (u16 o.payload 0) ∧ u.unopposed (objComp (u16 o.payload 0) :: o.lockObjs)

/-- Nothing bars an OPEN of compartment `n`. -/
def clear (n : Nat) (u : State) : Prop :=
  (u.comp n).disabled = false ∧ (u.comp n).frozen = false ∧ (u.comp n).holdUntil ≤ u.now ∧ (u.comp n).lockUntil ≤ u.now
    ∧ u.groupBlocks n = false ∧ (u.bank (n / 256)).halted = false

theorem test_meets_CompartmentOpen :
    Meets 0x2000 (fun o u => opens o u ∧ (u.comp 0).stage = none ∧ u.redFlag = true ∧ o.port ≠ .kpr)
    ∧ Meets 0x2000 (fun o u => opens o u ∧ (u.comp 0).stage = none ∧ u.redFlag = true ∧ o.port = .kpr ∧ (u.comp 0).disabled = true)
    ∧ Meets 0x2000 (fun o u => opens o u ∧ (u.comp 0).disabled = false ∧ (u.comp 0).frozen = true)
    ∧ Meets 0x2000 (fun o u => opens o u ∧ (u.comp 0).disabled = false ∧ (u.comp 0).frozen = false ∧ u.now < (u.comp 0).holdUntil)
    ∧ Meets 0x2000 (fun o u => opens o u ∧ (u.comp 0).disabled = false ∧ (u.comp 0).frozen = false ∧ (u.comp 0).holdUntil ≤ u.now
        ∧ u.now < (u.comp 0).lockUntil)
    ∧ Meets 0x2000 (fun o u => opens o u ∧ (u.comp 0).disabled = false ∧ (u.comp 0).frozen = false ∧ (u.comp 0).holdUntil ≤ u.now
        ∧ (u.comp 0).lockUntil ≤ u.now ∧ u.groupBlocks 0 = true)
    ∧ Meets 0x2000 (fun o u => opens o u ∧ clear 1 u ∧ (u.comp 1).stage = none ∧ u.redFlag = false ∧ u16 o.payload 0 = 1 ∧ u.compDual 1 = true)
    ∧ Meets 0x2000 (fun o u => opens o u ∧ clear 0 u ∧ (u.comp 0).stage = none ∧ u.redFlag = false ∧ u.compDual 0 = false ∧ (u.comp 0).delayS ≠ 0)
    ∧ Meets 0x2000 (fun o u => opens o u ∧ clear 0 u ∧ (u.comp 0).stage = none ∧ u.redFlag = false ∧ u.compDual 0 = false ∧ (u.comp 0).delayS = 0)
    ∧ Meets 0x2000 (fun o u => opens o u ∧ clear 0 u ∧ (u.comp 0).stage = some (stage 3) ∧ u.now < (stage 3).due ∧ u.redFlag = false)
    ∧ (let s := shut { state := 0 }; (s.comp 0).code = 0 ∧ (s.comp 0).req = none) :=
  ⟨meets (alarmed live) (order 0x2000 (zeros 4)) (by decide) (by unfold opens; decide +kernel),
   meets (alarmed (shut { disabled := true })) (order 0x2000 (zeros 4) .kpr) (by decide) (by unfold opens; decide +kernel),
   meets (shut { frozen := true }) (order 0x2000 (zeros 4)) (by decide) (by unfold opens; decide +kernel),
   meets (shut { holdUntil := 1000001 }) (order 0x2000 (zeros 4)) (by decide) (by unfold opens; decide +kernel),
   meets (shut { lockUntil := 1000001 }) (order 0x2000 (zeros 4)) (by decide) (by unfold opens; decide +kernel),
   meets { live with comps := [(0, { group := some 3 }), (2, { group := some 3, openTicket := some 0 })] } (order 0x2000 (zeros 4)) (by decide)
     (by unfold opens; decide +kernel),
   meets (shut {} 1) (order 0x2000 [1, 0, 0, 0]) (by decide) (by unfold opens clear; decide +kernel),
   meets (shut { delayS := 1 }) (order 0x2000 (zeros 4)) (by decide) (by unfold opens clear; decide +kernel),
   meets live (order 0x2000 (zeros 4)) (by decide) (by unfold opens clear; decide +kernel),
   meets (shut { stage := some (stage 3) }) (order 0x2000 (zeros 4)) (by decide) (by unfold opens clear; decide +kernel), by decide +kernel⟩

theorem test_meets_CompartmentOrders :
    let m (o : Outstanding) := u16 o.payload 2
    let n (o : Outstanding) := u16 o.payload 0
    Meets 0x2001 (fun o u => o.fits 4 [(2, 2)] ∧ n o ≤ 1023 ∧ u.reachable (n o) ∧ u.unopposed [objComp (n o)] ∧ (u.comp (n o)).disabled = false
        ∧ (u.bank (n o / 256)).halted = false)
    ∧ Meets 0x2002 (fun o u => o.fits 8 [(1, 1)] ∧ byteAt o.payload 0 = 0 ∧ m o ≤ 1023 ∧ 1 ≤ u32 o.payload 4 ∧ u32 o.payload 4 ≤ 86400
        ∧ u.reachable (m o) ∧ u.unopposed [objComp (m o)])
    ∧ Meets 0x2003 (fun o u => o.fits 4 [(1, 1)] ∧ byteAt o.payload 0 = 0 ∧ m o ≤ 1023 ∧ u.reachable (m o) ∧ u.unopposed [objComp (m o)])
    ∧ Meets 0x2004 (fun o u => o.fits 4 [(1, 1)] ∧ byteAt o.payload 0 = 0 ∧ m o ≤ 1023 ∧ u.reachable (m o) ∧ u.unopposed (objComp (m o) :: o.lockObjs)
        ∧ u.redFlag = false)
    ∧ Meets 0x2004 (fun o u => o.fits 4 [(1, 1)] ∧ byteAt o.payload 0 = 0 ∧ m o ≤ 1023 ∧ u.reachable (m o) ∧ u.unopposed (objComp (m o) :: o.lockObjs)
        ∧ u.redFlag = true ∧ o.port ≠ .kpr)
    ∧ (∀ p : Port, p ∈ [.mb0, .svc] → Meets 0x2005 (fun o u => o.fits 4 [(2, 2)] ∧ n o ≤ 1023 ∧ u.compPresent (n o) = true ∧ u.bankDeclared 0 = true
        ∧ u.unopposed (objComp (n o) :: o.lockObjs) ∧ u.redFlag = false ∧ (u.comp (n o)).stage = some (stage 1 p) ∧ u.now < (stage 1 p).due
        ∧ o.port = .mb0 ∧ o.session = 0))
    ∧ Meets 0x2009 (fun o u => o.fits 4 [(2, 2)] ∧ n o ≤ 1023 ∧ u.reachable (n o) ∧ u.unopposed [objComp (n o)])
    ∧ (∀ st ∈ [stDisabled, stFault, 0], Meets 0x200A (fun o u => o.fits 4 [(2, 2)] ∧ n o ≤ 1023 ∧ u.reachable (n o)
        ∧ u.unopposed (objComp (n o) :: o.lockObjs) ∧ u.redFlag = false ∧ (u.comp (n o)).state = st))
    ∧ (∀ op ∈ [0x2001, 0x2009], Meets op (fun o u => o.fits 4 [(2, 2)] ∧ n o ≤ 1023 ∧ u.bankDeclared 0 = false)) := by
  refine ⟨meets live (order 0x2001 (zeros 4)) (by decide) (by decide +kernel),
    meets live (order 0x2002 (zeros 4 ++ le 4 86400)) (by decide) (by decide +kernel),
    meets live (order 0x2003 (zeros 4)) (by decide) (by decide +kernel), meets live (order 0x2004 (zeros 4)) (by decide) (by decide +kernel),
    meets (alarmed live) (order 0x2004 (zeros 4)) (by decide) (by decide +kernel), ?_,
    meets live (order 0x2009 (zeros 4)) (by decide) (by decide +kernel), ?_, ?_⟩
  · intro p hp
    simp only [List.mem_cons, List.not_mem_nil, or_false] at hp
    rcases hp with h | h <;> subst h
    · exact meets (shut { stage := some (stage 1 .mb0) }) (order 0x2005 (zeros 4)) (by decide) (by decide +kernel)
    · exact meets (shut { stage := some (stage 1) }) (order 0x2005 (zeros 4)) (by decide) (by decide +kernel)
  · intro st hs
    simp only [List.mem_cons, List.not_mem_nil, or_false] at hs
    rcases hs with h | h | h <;> subst h
    · exact meets (shut { state := stDisabled }) (order 0x200A (zeros 4)) (by decide) (by decide +kernel)
    · exact meets (shut { state := stFault }) (order 0x200A (zeros 4)) (by decide) (by decide +kernel)
    · exact meets (shut { state := 0 }) (order 0x200A (zeros 4)) (by decide) (by decide +kernel)
  · intro op ho
    simp only [List.mem_cons, List.not_mem_nil, or_false] at ho
    rcases ho with h | h <;> subst h
    · exact meets { live with frm := { live.frm with applied := some { sections := [⟨0x02, 0, tMap⟩] } } } (order 0x2001 (zeros 4)) (by decide) (by decide +kernel)
    · exact meets { live with frm := { live.frm with applied := some { sections := [⟨0x02, 0, tMap⟩] } } } (order 0x2009 (zeros 4)) (by decide) (by decide +kernel)

theorem test_meets_CompartmentSettings :
    Meets 0x2006 (fun o u => o.fits 4 [] ∧ u16 o.payload 0 ≤ 1023 ∧ 0 < u16 o.payload 2 ∧ u16 o.payload 2 ≤ 256
        ∧ (u16 o.payload 0 + u16 o.payload 2 - 1) / 256 = u16 o.payload 0 / 256 ∧ u.bankReachable (u16 o.payload 0 / 256) = true)
    ∧ Meets 0x2007 (fun o u => o.fits 4 [(1, 3)] ∧ byteAt o.payload 0 < 4 ∧ u.bankDeclared (byteAt o.payload 0) = true
        ∧ u.bankReachable (byteAt o.payload 0) = true)
    ∧ Meets 0x2008 (fun o u => o.fits 12 [(2, 2)] ∧ (∀ x ∈ timelockFields o.payload, x.1 = false) ∧ u.compPresent (u16 o.payload 0) = true ∧ u.bankDeclared 0 = true
        ∧ u.now < (u.comp 0).lockUntil ∧ u32 o.payload 4 = 0 ∧ (u.comp 0).lockRank < o.port.rank ∧ u.unopposed [objComp 0])
    ∧ Meets 0x2008 (fun o u => o.fits 12 [(2, 2)] ∧ (∀ x ∈ timelockFields o.payload, x.1 = false) ∧ u.compPresent (u16 o.payload 0) = true ∧ u.bankDeclared 0 = true
        ∧ ¬(u.now < (u.comp 0).lockUntil) ∧ u.unopposed [objComp 0])
    ∧ (let b : Bytes := [31, 2, 0, 0, 0, 0, 2, 0]
       let common (o : Outstanding) (u : State) := byteAt o.payload 0 ≤ 31 ∧ byteAt o.payload 1 ≤ 32 ∧ o.fits (4 + 2 * byteAt o.payload 1) [(2, 2)]
         ∧ (∀ x ∈ memberFields o.payload, x.1 = false) ∧ (∀ i ∈ [0, 2], u.compPresent i = true) ∧ u.bankDeclared 0 = true
       Meets 0x200B (fun o u => common o u ∧ (u.groupMembers 31).any (fun i => (u.comp i).active) = true ∧ u.unopposed [objGroup 31])
       ∧ Meets 0x200B (fun o u => o.payload = b ∧ common o u ∧ (u.groupMembers 31).any (fun i => (u.comp i).active) = false
           ∧ ((List.range 2).map fun i => u16 o.payload (4 + 2 * i)).Nodup ∧ (∀ i ∈ [0, 2], (u.comp i).group = none) ∧ u.unopposed [objGroup 31])) :=
  ⟨meets live (order 0x2006 (le 2 768 ++ le 2 256)) (by decide) (by decide +kernel), meets live (order 0x2007 [3, 0, 0, 0]) (by decide) (by decide +kernel),
   meets (shut { lockUntil := 2000000 }) (order 0x2008 (zeros 11 ++ [60]) .svc) (by decide) (by decide +kernel),
   meets live (order 0x2008 (zeros 11 ++ [60])) (by decide) (by decide +kernel),
   meets (shut { group := some 31, openTicket := some 0 } 5) (order 0x200B [31, 2, 0, 0, 0, 0, 2, 0]) (by decide) (by decide +kernel),
   meets live (order 0x200B [31, 2, 0, 0, 0, 0, 2, 0]) (by decide) (by decide +kernel)⟩

theorem test_meets_CompartmentEvents :
    let q : PulseReq := { unlock := true, cause := 0, applied := 0, start := some 999000, ends := 1000500 }
    ((shut { req := some q }).pulseOn 0 0 = some (0, q)
      ∧ ((shut { req := some q }).requests 0).filter (fun x => x.2.start.isSome ∧ compRow x.1 = 0) ≠ [])
    ∧ (live.bankDeclared 3 = true ∧ (15 : Nat) < byteAt (live.bankBody 3) 0 ∧ live.dieRuns 4 = true ∧ live.powered (dBank 3) = true
        ∧ (live.bank 3).halted = false ∧ live.requests 3 = [] ∧ (15 : Nat) ≠ 0 ∧ (15 : Nat) ≠ (live.bank 3).seen)
    ∧ ((shut { doorTimer := some 1000100, boltTimer := some 1000200 }).comp 0).timerOf false = some 1000100
    ∧ ((shut { doorTimer := some 1000100, boltTimer := some 1000200 }).comp 0).timerOf true = some 1000200
    ∧ (let c := (shut { relock := some 1, ajar := some 1, verify := some 1, lockUntil := 1, holdUntil := 1 } 1023).comp 1023
       c.relock = some 1 ∧ c.ajar = some 1 ∧ c.verify = some 1 ∧ c.lockUntil ≠ 0 ∧ c.holdUntil ≠ 0)
    ∧ (∀ k ∈ [1, 2, 3], ((shut { stage := some (stage k) }).comp 0).stage = some (stage k) ∧ (stage k).kind = k)
    ∧ (let s : State := { live with pwr := { domains := [(dBank 3, { condition := .drain, timer := 1000100 })] } }
       (s.domain (dBank 3)).condition = .drain ∧ (s.domain (dBank 3)).drop = none) := by decide +kernel
/-! ## Chapter 19: power -/

/-- `live` with one domain as given. -/
def wired (n : Nat) (d : Domain) : State := { live with pwr := { live.pwr with domains := tset {} live.pwr.domains n d } }

/-- The domains that each state switches off, off. -/
def quiet (all : Bool) : State :=
  { live with pwr := { domains := (List.range 22).map fun n => (n, { condition := if n = 0 ∨ (!all ∧ n ≠ dNose ∧ n ≠ dSensor) then .on else .off }) } }

theorem test_meets_PowerStates :
    let sets (o : Outstanding) (u : State) : Prop := o.fits 4 [(1, 3)] ∧ byteAt o.payload 0 ≤ 3 ∧ u.flc.closed = true ∧ u.pwr.vaultDue = none
    Meets 0x1001 (fun o u => sets o u ∧ powerState (byteAt o.payload 0) ≠ u.pwr.state ∧ u.outsideOn (powerState (byteAt o.payload 0)) = true ∧ u.unopposed [objPower])
    ∧ Meets 0x1001 (fun o u => sets o u ∧ powerState (byteAt o.payload 0) = .vault ∧ PowerState.vault ≠ u.pwr.state ∧ u.outsideOn .vault = false
        ∧ u.unopposed [objPower])
    ∧ Meets 0x1001 (fun o u => sets o u ∧ powerState (byteAt o.payload 0) = .dim ∧ PowerState.dim ≠ u.pwr.state ∧ u.outsideOn .dim = false
        ∧ u.unopposed [objPower])
    ∧ Meets 0x1001 (fun o u => sets o u ∧ powerState (byteAt o.payload 0) = u.pwr.state ∧ u.unopposed [objPower])
    ∧ (∀ st ∈ [PowerState.watch, .run, .dim], let s : State := { live with pwr := { live.pwr with state := st } }
        s.boot.started = true ∧ s.unopposed [objPower] ∧ s.pwr.state = st)
    ∧ Meets 0x1005 (fun o _ => o.fits 8 [(1, 1), (6, 2)] ∧ byteAt o.payload 2 ≤ 150 ∧ byteAt o.payload 3 ≤ 150
        ∧ byteAt o.payload 2 < byteAt o.payload 3 ∧ byteAt o.payload 0 = 0 ∧ u16 o.payload 4 = 0)
    ∧ Meets 0x1005 (fun o u => o.fits 8 [(1, 1), (6, 2)] ∧ byteAt o.payload 2 ≤ 150 ∧ byteAt o.payload 3 ≤ 150
        ∧ byteAt o.payload 2 < byteAt o.payload 3 ∧ u16 o.payload 4 ≤ 32000 ∧ byteAt o.payload 0 = 4 ∧ u.bankDeclared 3 = true ∧ u.inSession 4 = true)
    ∧ Meets 0x1000 (fun o _ => o.fits 0 [])
    ∧ Meets 0x1004 (fun o u => o.fits 4 [(1, 3)] ∧ byteAt o.payload 0 = 0 ∧ (tget ({} : Reading) u.pwr.readings 0).presented = false)
    ∧ ((5 : Nat) < 6 ∧ (3 : Nat) < channels 5 ∧ live.monitorRuns 5 = true
        ∧ live.overLimit 5 3 1234 (tget ({} : Reading) live.pwr.readings 83).high (tget ({} : Reading) live.pwr.readings 83).low
            = ((tget ({} : Reading) live.pwr.readings 83).high, (tget ({} : Reading) live.pwr.readings 83).low)) :=
  ⟨meets live (order 0x1001 [2, 0, 0, 0]) (by decide) (by decide +kernel), meets (quiet true) (order 0x1001 [3, 0, 0, 0]) (by decide) (by decide +kernel),
   meets (quiet false) (order 0x1001 [1, 0, 0, 0]) (by decide) (by decide +kernel), meets live (order 0x1001 (zeros 4)) (by decide) (by decide +kernel),
   by decide +kernel, meets live (order 0x1005 [0, 0, 149, 150, 0, 0, 0, 0]) (by decide) (by decide +kernel),
   meets live (order 0x1005 ([4, 0, 0, 150] ++ le 2 32000 ++ zeros 2)) (by decide) (by decide +kernel),
   meets live (order 0x1000 []) (by decide) (by decide +kernel), meets live (order 0x1004 (zeros 4)) (by decide) (by decide +kernel), by decide +kernel⟩

/-- What every clause of PowerDomains asks of an order, its domain's link but one. -/
def switches (o : Outstanding) (u : State) : Prop :=
  o.fits 4 [(2, 2)] ∧ 1 ≤ byteAt o.payload 0 ∧ byteAt o.payload 0 ≤ 16 ∧ byteAt o.payload 1 ≤ 2 ∧ u.flc.closed = true ∧ u.pwr.vaultDue = none
    ∧ u.domainPresent (byteAt o.payload 0) = true ∧ (u.domain (byteAt o.payload 0)).condition ≠ .drain ∧ u.unopposed [objDomain (byteAt o.payload 0)]
    ∧ (domainLink (byteAt o.payload 0)).all (fun l => u.inSession l && u.domainOn (dFilong l)) = true

theorem links_hold {n : Nat} {u : State} (h : (domainLink n).all (fun l => u.inSession l && u.domainOn (dFilong l)) = true) :
    ∀ l, domainLink n = some l → u.inSession l = true ∧ u.domainOn (dFilong l) = true := by
  intro l e
  simpa [e] using h

theorem test_meets_PowerDomains :
    Meets 0x1002 (fun o u => switches o u ∧ targetMet 1 (u.domain (byteAt o.payload 0)).condition = true ∧ byteAt o.payload 1 = 1
        ∧ u.pwr.state.allows (byteAt o.payload 0) = true)
    ∧ Meets 0x1002 (fun o u => switches o u ∧ targetMet 0 (u.domain (byteAt o.payload 0)).condition = true ∧ byteAt o.payload 1 = 0
        ∧ u.platRuns (byteAt o.payload 0) = false ∧ u.wdn.runners = [] ∧ byteAt o.payload 0 = 10)
    ∧ Meets 0x1002 (fun o u => switches o u ∧ byteAt o.payload 1 = 1 ∧ u.pwr.state.allows (byteAt o.payload 0) = false)
    ∧ (∀ c ∈ [Condition.off, .gated], Meets 0x1002 (fun o u => switches o u ∧ byteAt o.payload 1 = 1 ∧ u.pwr.state.allows (byteAt o.payload 0) = true
        ∧ (u.domain (byteAt o.payload 0)).condition = c))
    ∧ Meets 0x1002 (fun o u => switches o u ∧ byteAt o.payload 1 ≠ 1 ∧ u.platRuns (byteAt o.payload 0) = true)
    ∧ (∀ held ∈ [true, false], Meets 0x1002 (fun o u => switches o u ∧ byteAt o.payload 1 ≠ 1 ∧ u.platRuns (byteAt o.payload 0) = false
        ∧ (u.domain (byteAt o.payload 0)).condition = .on ∧ (u.domain (byteAt o.payload 0)).ticket = none ∧ (u.domain (byteAt o.payload 0)).joined = []
        ∧ (u.takesEffect o.port o.opcode [objDomain (byteAt o.payload 0)]).claimHeld (byteAt o.payload 0) = held))
    ∧ (((wired 16 { condition := .switching }).domain 16).condition = .switching
        ∧ ((wired 21 { condition := .switching }).domain 21).condition = .switching ∧ (wired 21 { condition := .switching }).inSession 4 = true)
    ∧ (let s := wired 5 { condition := .drain, timer := 1000001 }
       (s.domain 5).condition = .drain ∧ (s.domain 5).drop = none ∧ s.claimHeld 5 = false ∧ s.now < (s.domain 5).timer ∧ (5 : Nat) ≠ dNose)
    ∧ (let s := wired 5 { condition := .drain, drop := some 1000020, ticket := some 3 }
       (s.domain 5).drop = some 1000020 ∧ (s.domain 5).ticket = some 3 ∧ ((wired 5 { condition := .drain, drop := some 1 }).domain 5).ticket = none)
    ∧ Meets 0x1003 (fun o _ => o.fits 0 []) := by
  refine ⟨meets live (order 0x1002 [16, 1, 0, 0]) (by decide) (by unfold switches; decide +kernel),
    meets (wired 10 {}) (order 0x1002 [10, 0, 0, 0]) (by decide) (by unfold switches; decide +kernel),
    meets { live with pwr := { live.pwr with state := .dim } } (order 0x1002 [dNose, 1, 0, 0]) (by decide) (by unfold switches; decide +kernel), ?_,
    meets { live with boot := { live.boot with plats := [(0, { released := true })] } } (order 0x1002 [6, 0, 0, 0]) (by decide) (by unfold switches; decide +kernel),
    ?_, by decide +kernel, by decide +kernel, by decide +kernel, meets live (order 0x1003 []) (by decide) (by decide +kernel)⟩
  · intro c hc
    simp only [List.mem_cons, List.not_mem_nil, or_false] at hc
    rcases hc with h | h <;> subst h
    · exact meets (wired 13 { condition := .off }) (order 0x1002 [13, 1, 0, 0]) (by decide) (by unfold switches; decide +kernel)
    · exact meets (wired 13 { condition := .gated }) (order 0x1002 [13, 1, 0, 0]) (by decide) (by unfold switches; decide +kernel)
  · intro c hc
    simp only [List.mem_cons, List.not_mem_nil, or_false] at hc
    rcases hc with h | h <;> subst h
    · exact meets (shut { req := some { unlock := true, cause := 0, applied := 0 } }) (order 0x1002 [13, 2, 0, 0]) (by decide)
        (by unfold switches; decide +kernel)
    · exact meets live (order 0x1002 [13, 0, 0, 0]) (by decide) (by unfold switches; decide +kernel)

theorem test_meets_DrainAnswersBusy : Meets 0x1002 (fun o u => o.fits 4 [(2, 2)] ∧ byteAt o.payload 0 ≤ 21 ∧ byteAt o.payload 1 ≤ 2
    ∧ ¬(byteAt o.payload 0 = 0 ∨ (byteAt o.payload 1 = 2 ∧ 17 ≤ byteAt o.payload 0)) ∧ u.flc.closed = true ∧ u.pwr.vaultDue = none
    ∧ u.domainPresent (byteAt o.payload 0) = true ∧ (u.domain (byteAt o.payload 0)).condition = .drain
    ∧ (u.domain (byteAt o.payload 0)).ticket = some 5 ∧ u.unopposed [objDomain (byteAt o.payload 0)]) :=
  meets (wired 21 { condition := .drain, ticket := some 5 }) (order 0x1002 [21, 0, 0, 0]) (by decide) (by decide +kernel)
/-! ## Chapter 18: the Nose -/

/-- A model of one stream and one layer, the last kind. -/
def tModel : Bytes :=
  patch 192 [(0, ascii "TXNM"), (4, [1, 1]), (8, le 4 1000), (12, le 4 64), (16, le 4 64), (32, [0, 0, 0, 0] ++ le 2 16 ++ le 2 0),
    (80, [7, 0, 1, 1] ++ le 2 1 ++ le 2 8 ++ le 2 8 ++ le 2 1 ++ le 2 32768)]

/-- The public keys of a tenant: any bytes of the length. -/
def tKeys : Bytes := 4 :: zeros 2048

/-- The NOSE section that names this tenant. -/
def tNose : Bytes := [1] ++ zeros 7 ++ (sha tKeys ++ (le 2 2048 ++ [63] ++ zeros 13))

/-- The head of a package for this device: its point is the base point of P-384. -/
def tHead : Bytes :=
  ascii "TXNP" ++ le 2 1 ++ zeros 2 ++ le 4 6950 ++ le 4 192 ++ zeros 64 ++ le 4 1 ++ zeros 4 ++ zeros 12
    ++ ([4] ++ be 48 0xaa87ca22be8b05378eb1c71ef320ad746e1d3b628ba79b9859f741e082542a385502f25dbf55296c3a545e3872760ab7
      ++ be 48 0x3617de4a96262c6f5d9e98bf9292dc29f8f41dbd289a147ce9da3113b5f0b8c00a60b1ce1d7e819d7a431d7c90ea0e5f) ++ zeros 3 ++ zeros 1088

/-- The Nose stages the import of the command with TAG 7 of MB0, its tenant is named and its key pairs are filled. -/
def staged : State :=
  { live with
    frm := { live.frm with applied := some { sections := ⟨0x0C, 0, tNose⟩ :: tFormula.sections } }
    flc := { live.flc with slots := [(119, { attr := 1 }), (120, { attr := 1 })] }
    nose := { state := .staging, importing := some (.mb0, 0, 7) } }

theorem tHead_length : tHead.length = 1288 := by decide +kernel
theorem tModel_length : tModel.length = 192 := by decide +kernel
theorem tKeys_length : tKeys.length = 2049 := by decide +kernel

/-- A package that opens, with the parts the checks read. -/
theorem package_exists (key : Bytes) : ∃ p : Bytes, p.take 1288 = tHead ∧ slice p 1496 2049 = tKeys ∧ p.length = 6950 ∧ pkSigned p = true
    ∧ gcmOpen key (slice p 88 12) tHead (pkBody p) (pkTag p) = some tModel := by
  let ct := (gcmSeal key (slice tHead 88 12) tHead tModel).1
  let tag := (gcmSeal key (slice tHead 88 12) tHead tModel).2
  have hct : ct.length = 192 := by simp [ct, gcmSeal, tModel_length]
  have htag : tag.length = 16 := gcmTag_length ..
  let text := tHead ++ ct ++ tag
  have htext : text.length = 1496 := by simp [text, tHead_length, hct, htag]
  let m := sha (ascii "TXI-NOS" ++ text)
  let x := fit 96 (Config.sigFor sEcdsa384 (slice tKeys 0 97) m)
  let y := fit 3309 (Config.sigFor sMlDsa (slice tKeys 97 1952) m)
  have hx : x.length = 96 := fit_length ..
  have hy : y.length = 3309 := fit_length ..
  let p := text ++ (tKeys ++ (x ++ y))
  have e0 : p.take 1496 = text := by rw [← htext]; exact List.take_left
  have e1 : p.take 1288 = tHead := by
    rw [show (1288 : Nat) = min 1288 1496 from rfl, ← List.take_take, e0, ← tHead_length]
    show (tHead ++ ct ++ tag).take _ = _
    rw [List.append_assoc, List.take_left]
  have e2 : p.drop 1496 = tKeys ++ (x ++ y) := by rw [← htext]; exact List.drop_left
  have hlen : u32 p 12 = 192 := by
    have : slice p 12 4 = slice (p.take 1288) 12 4 := by simp [slice, List.drop_take, List.take_take]
    rw [u32, this, e1]; decide +kernel
  have k1 : ∀ off n, off + n ≤ 2049 → pkSig p off n = slice tKeys off n := by
    intro off n h
    rw [pkSig, hlen, slice, show 1304 + 192 + off = 1496 + off from rfl, ← List.drop_drop, e2, List.drop_append_of_le_length (by rw [tKeys_length]; omega),
      List.take_append_of_le_length (by rw [List.length_drop, tKeys_length]; omega), slice]
  have k2 : pkSig p 2049 96 = x := by
    rw [pkSig, hlen, slice, show 1304 + 192 + 2049 = 1496 + tKeys.length by rw [tKeys_length], ← List.drop_drop, e2, List.drop_left, ← hx, List.take_left]
  have k3 : pkSig p 2145 3309 = y := by
    rw [pkSig, hlen, slice, show 1304 + 192 + 2145 = 1496 + (tKeys.length + x.length) by rw [tKeys_length, hx], ← List.drop_drop, e2, ← List.append_assoc,
      ← List.length_append, List.drop_left, ← hy, List.take_length]
  refine ⟨p, e1, ?_, ?_, ?_, ?_⟩
  · rw [slice, e2, ← tKeys_length, List.take_left]
  · simp [p, htext, tKeys_length, hx, hy]
  · unfold pkSigned
    rw [k1 0 97 (by omega), k1 97 1952 (by omega), k2, k3, hlen, show 1304 + 192 = 1496 from rfl, e0]
    simp only [x, y, m, verify_fit, Bool.and_self]
  · have b1 : pkBody p = ct := by
      rw [pkBody, hlen, slice, show p = tHead ++ (ct ++ (tag ++ (tKeys ++ (x ++ y)))) by simp [p, text], ← tHead_length, List.drop_left, ← hct,
        List.take_left]
    have b2 : pkTag p = tag := by
      rw [pkTag, hlen, slice, show p = (tHead ++ ct) ++ (tag ++ (tKeys ++ (x ++ y))) by simp [p, text],
        show 1288 + 192 = (tHead ++ ct).length by simp [tHead_length, hct], List.drop_left, ← htag, List.take_left]
    have b3 : slice p 88 12 = slice tHead 88 12 := by rw [← e1]; simp [slice, List.drop_take, List.take_take]
    rw [b1, b2, b3]
    exact gcmOpen_gcmSeal ..

/-- The rest of the tenant's record. -/
def tRest : Bytes := le 2 2048 ++ [63] ++ zeros 13

theorem tenant_record : tenantAt tNose 0 = sha tKeys ++ tRest := by
  have h : (sha tKeys ++ tRest).length = 64 := by rw [List.length_append, sha_length]; rfl
  have hd : ((([1] ++ zeros 7 : Bytes) ++ (sha tKeys ++ tRest)).drop 8) = sha tKeys ++ tRest := rfl
  show ((([1] ++ zeros 7 : Bytes) ++ (sha tKeys ++ tRest)).drop 8).take 64 = _
  rw [hd, ← h, List.take_length]

theorem tenant_found : tenantIndex tNose (sha tKeys) = some 0 := by
  have h : (tenantAt tNose 0).take 48 = sha tKeys := by rw [tenant_record, ← sha_length tKeys, List.take_left]
  have hb : byteAt tNose 0 = 1 := rfl
  rw [tenantIndex, hb, show List.range 1 = [0] from rfl]
  exact List.find?_cons_of_pos (by simpa using h)

/-- Opening a session leaves every slot but 118 alone. -/
theorem openTenant_slot (n : Nat) (h : n ≠ 118) (x : State) : (x.openTenant 0).slot n = x.slot n := by
  have e : (x.openTenant 0).flc = ((x.generate 64).2.fillSlot slotNose (sysAttr 32 0 1 0 64) 0 (x.generate 64).1).flc := event_flc ..
  rw [State.slot, e]
  exact (fillSlot_slot h ..).trans (congrArg (fun f : Flacon => tget ({} : Slot) f.slots n) (generate_flc 64 x))

/-- A package that loads its model in `staged`. -/
theorem import_exists :
    Meets 0x9000 (fun o u => o.fits 8 [] ∧ u.featureOff 1 = false ∧ u.draining dNose = false ∧ u.powered dNose = true ∧ u.flc.closed = true
      ∧ byteAt (u.sect 0x0C 0) 0 ≠ 0 ∧ u.draining dCrypto = false ∧ u.domainOn dCrypto = true ∧ u.unopposed [objNose] ∧ u.nose.state = .staging
      ∧ u.nose.importing = some (o.port, o.session, o.tag) ∧ packageFault o.bulk = none ∧ u.packageRefusal o.bulk = none
      ∧ tenantIndex (u.sect 0x0C 0) (pkTenant o.bulk) = some 0
      ∧ ((u.takesEffect o.port 0x9000 [objNose]).openTenant 0).openPackage o.bulk = some tModel ∧ modelValid tModel = true
      ∧ sourcesOk tModel (byteAt (tenantAt (u.sect 0x0C 0) 0) 50) = true) := by
  obtain ⟨p, h1, h2, h3, h4, h5⟩ := package_exists
    (hkdf (sha tHead) (ecdh (staged.slotKey 119) (slice tHead 100 97) ++ kem (staged.slotKey 120) (slice tHead 200 1088)) (ascii "TXI nose pkg") 32)
  have hs : ∀ a n, a + n ≤ 1288 → slice p a n = slice tHead a n := by
    intro a n h
    rw [← h1, slice, slice, List.drop_take, List.take_take, Nat.min_eq_left (by omega)]
  have hb : ∀ a, a < 1288 → byteAt p a = byteAt tHead a := by
    intro a h
    rw [← h1, byteAt, byteAt]; simp [List.getD_eq_getElem?_getD, h]
  have hlen : u32 p 12 = 192 := by rw [u32, hs 12 4 (by omega)]; decide +kernel
  have ht : pkTenant p = sha tKeys := by rw [pkTenant, pkSig, hlen, show 1304 + 192 + 0 = 1496 from rfl, h2]
  have hfault : packageFault p = none := by
    have e0 : p.take 4 = ascii "TXNP" := by
      have := hs 0 4 (by omega)
      simp only [slice, List.drop_zero] at this
      rw [this]; decide +kernel
    have e1 : u16 p 4 = 1 := by rw [u16, hs 4 2 (by omega)]; decide +kernel
    have e2 : u32 p 8 = 6950 := by rw [u32, hs 8 4 (by omega)]; decide +kernel
    have z6 : firstNonZero p 6 2 = none := by
      simp only [firstNonZero, Nat.reduceAdd, hb 6 (by omega), hb 7 (by omega)]
      decide +kernel
    have z84 : ((firstNonZero p 84 4).orElse fun _ => firstNonZero p 197 3) = none := by
      simp only [firstNonZero, Nat.reduceAdd, hb 84 (by omega), hb 85 (by omega), hb 86 (by omega), hb 87 (by omega),
        hb 197 (by omega), hb 198 (by omega), hb 199 (by omega)]
      decide +kernel
    unfold packageFault
    rw [z6, z84]
    simp only [e0, e1, e2, hlen, h3]
    decide
  have hr : staged.packageRefusal p = none := by
    unfold State.packageRefusal
    have hsect : staged.sect 0x0C 0 = tNose := rfl
    dsimp only
    rw [hsect, ht, tenant_found, h4, hs 16 16 (by omega), hs 32 48 (by omega), hlen]
    dsimp only
    rw [tenant_record]
    have e : u16 (sha tKeys ++ tRest) 48 = 2048 := by
      have : (sha tKeys ++ tRest).drop 48 = tRest := by rw [← sha_length tKeys]; exact List.drop_left
      rw [u16, slice, this]; decide
    rw [e]
    decide +kernel
  have hch : byteAt (tenantAt tNose 0) 50 = 63 := by
    rw [tenant_record, byteAt, List.getD_eq_getElem?_getD, List.getElem?_append_right (by rw [sha_length]; omega), sha_length]; rfl
  refine meets staged (order 0x9000 (zeros 8) .mb0 p) rfl ⟨rfl, show staged.featureOff 1 = false by decide +kernel, rfl, rfl, rfl, ?_, rfl, rfl, rfl, rfl, rfl, hfault, hr, ?_, ?_, ?_, ?_⟩
  · show byteAt tNose 0 ≠ 0
    rw [show byteAt tNose 0 = 1 from rfl]; decide
  · exact (congrArg (tenantIndex tNose) ht).trans tenant_found
  · have hp : onCurve (slice tHead 100 97) = true := by decide +kernel
    have general : ∀ v : State, v.slotValid 119 = true → v.slotValid 120 = true → v.slotKey 119 = staged.slotKey 119 →
        v.slotKey 120 = staged.slotKey 120 → v.openPackage p = some tModel := by
      intro v v1 v2 v3 v4
      unfold State.openPackage
      dsimp only
      rw [hs 100 97 (by omega), hs 200 1088 (by omega), show pkHeader p = tHead from h1, hp, v1, v2, v3, v4, h5]
      rfl
    have e1 := openTenant_slot 119 (by decide) ((turn (order 0x9000 (zeros 8) .mb0 p) staged).takesEffect .mb0 0x9000 [objNose])
    have e2 := openTenant_slot 120 (by decide) ((turn (order 0x9000 (zeros 8) .mb0 p) staged).takesEffect .mb0 0x9000 [objNose])
    exact general _ ((congrArg (fun k : Slot => bit k.attr 0) e1).trans (show staged.slotValid 119 = true by decide +kernel))
      ((congrArg (fun k : Slot => bit k.attr 0) e2).trans (show staged.slotValid 120 = true by decide +kernel)) (congrArg Slot.key e1)
      (congrArg Slot.key e2)
  · decide +kernel
  · exact (congrArg (sourcesOk tModel) hch).trans (by decide +kernel)

/-- The Nose with a model, in a state, and its engine's work. -/
def nosed (st : NoseState) (n : Nose := {}) : State := { live with nose := { n with state := st, model := tModel, since := 900000 } }

/-- No import is staged for this command; what NOS.START and NOS.STOP ask. -/
def noseReady (u : State) : Prop := u.featureOff 1 = false ∧ u.draining dNose = false ∧ u.powered dNose = true

theorem test_meets_NoseCommands :
    Meets 0x9000 (fun o u => o.fits 8 [] ∧ noseReady u ∧ u.flc.closed = true ∧ byteAt (u.sect 0x0C 0) 0 ≠ 0 ∧ u.draining dCrypto = false
        ∧ u.domainOn dCrypto = true ∧ u.unopposed [objNose] ∧ ¬(u.nose.state = .staging ∧ u.nose.importing = some (o.port, o.session, o.tag)))
    ∧ Meets 0x9001 (fun o u => o.fits 4 [(1, 3)] ∧ noseReady u ∧ u.unopposed [objNose] ∧ u.nose.state ≠ .loaded)
    ∧ Meets 0x9001 (fun o u => o.fits 4 [(1, 3)] ∧ noseReady u ∧ u.unopposed [objNose] ∧ u.nose.state = .loaded ∧ u.domainOn dSensor = true)
    ∧ Meets 0x9002 (fun o u => o.fits 4 [(1, 3)] ∧ byteAt o.payload 0 ≤ 1 ∧ noseReady u ∧ u.unopposed [objNose] ∧ u.nose.state ≠ .running
        ∧ u.nose.state ≠ .loaded)
    ∧ Meets 0x9002 (fun o u => o.fits 4 [(1, 3)] ∧ noseReady u ∧ u.unopposed [objNose] ∧ u.nose.state = .running ∧ byteAt o.payload 0 = 0)
    ∧ Meets 0x9002 (fun o u => o.fits 4 [(1, 3)] ∧ noseReady u ∧ u.unopposed [objNose] ∧ u.nose.state = .loaded ∧ byteAt o.payload 0 = 1)
    ∧ Meets 0x9003 (fun o u => o.fits 0 [] ∧ u.featureOff 1 = false ∧ u.powered dNose = true ∧ u.nose.model = [] ∧ u.tenantOpen = false)
    ∧ Meets 0x9004 (fun o u => o.fits 4 [] ∧ u.featureOff 1 = false ∧ u.powered dNose = true)
    ∧ (∀ op ∈ [0x9001, 0x9004], Meets op (fun o u => o.fits 4 [(1, 3)] ∧ u.featureOff 1 = true)) := by
  refine ⟨meets live (order 0x9000 (zeros 8)) (by decide) (by unfold noseReady; decide +kernel),
    meets live (order 0x9001 (zeros 4)) (by decide) (by unfold noseReady; decide +kernel),
    meets (nosed .loaded) (order 0x9001 [255, 0, 0, 0]) (by decide) (by unfold noseReady; decide +kernel),
    meets live (order 0x9002 (zeros 4)) (by decide) (by unfold noseReady; decide +kernel),
    meets (nosed .running) (order 0x9002 (zeros 4)) (by decide) (by unfold noseReady; decide +kernel),
    meets (nosed .loaded) (order 0x9002 [1, 0, 0, 0]) (by decide) (by unfold noseReady; decide +kernel),
    meets live (order 0x9003 []) (by decide) (by decide +kernel), meets live (order 0x9004 (zeros 4)) (by decide) (by decide +kernel), ?_⟩
  intro op ho
  simp only [List.mem_cons, List.not_mem_nil, or_false] at ho
  rcases ho with h | h <;> subst h
  · exact meets { live with fus := { latchE := [(0x40, 2)] } } (order 0x9001 (zeros 4)) (by decide) (by decide +kernel)
  · exact meets { live with fus := { latchE := [(0x40, 2)] } } (order 0x9004 (zeros 4)) (by decide) (by decide +kernel)

theorem test_meets_NoseEvents :
    let w : Window := { number := 3, baton := 0, taken := 999000, edge := 999500 }
    let s := nosed .running
    (s.streamOf 0 = some (mStream tModel 0) ∧ s.domainOn dSensor = true)
    ∧ (let p : State := { s with nose := { s.nose with model := patch 192 [(0, tModel.take 32), (32, [5])] } }
       p.streamOf 5 = some (mStream p.nose.model 0) ∧ 0 < ceilDiv (p.now - 64) 12500 ∧ p.nose.since ≤ 12500 * (ceilDiv (p.now - 64) 12500 - 1))
    ∧ (s.nose.state = .running ∧ s.domainOn dNose = true ∧ s.nose.since < (s.atTick (mHop s.nose.model * 600)).now)
    ∧ (let late : State := { s with nose := { s.nose with since := 1200000 } }; (late.atTick (mHop late.nose.model * 600)).now ≤ late.nose.since)
    ∧ (let l := nosed .running { load := some w }
       let u := l.advanceTo (max (w.edge + 1) l.nose.freeFrom)
       l.nose.load = some w ∧ l.nose.state = .running ∧ w.edge < u.now ∧ l.nose.freeFrom ≤ u.now ∧ l.nose.compute = none ∧ l.domainOn dNose = true
         ∧ u.withheld = false
         ∧ { u with pwr := { u.pwr with readings := [(0, { value := 560, edge := 1, presented := true })] } }.withheld = true)
    ∧ (let c := nosed .running { compute := some w }; c.nose.compute = some w ∧ c.draining dNose = false)
    ∧ (let c := { nosed .running { compute := some w } with pwr := { domains := [(dNose, { condition := .drain, timer := 1000100 })] } }
       c.nose.compute = some w ∧ c.draining dNose = true ∧ w.edge < (c.domain dNose).timer)
    ∧ (nosed .scrubbing).nose.state = .scrubbing
    ∧ (let i := nosed .staging { importing := some (.mb0, 0, 7) }
       i.nose.importing = some (.mb0, 0, 7) ∧ i.findOut .mb0 0 7 = none ∧ i.nose.state = .staging
         ∧ (nosed .empty { importing := some (.mb0, 0, 7) }).nose.state ≠ .staging)
    ∧ (let d := wired dNose { condition := .drain, timer := 1000100 }
       (d.domain dNose).condition = .drain ∧ (d.domain dNose).drop = none ∧ d.nose.compute = none) := by decide +kernel
/-! ## Chapters 6 and 9: cold start, restarts, the Vault -/

theorem test_meets_ColdStartSteps :
    (live.boot.started = true ∧ State.reset.boot.started = false ∧ State.reset.pwr.state ≠ .vault)
    ∧ (let s : State := { live with boot := { started := true, stage := 3 } }
       s.boot.stage = 0x03 ∧ s.drbgReady = true ∧ s.vlt.startClass = 0)
    ∧ (let s : State := { live with boot := { started := true, stage := 3 }, vlt := { startClass := 3 }, fus := { latchE := [(0x20, 0xFFFFFFFF#32)] } }
       s.drbgReady = true ∧ s.vlt.startClass ≠ 0
         ∧ let x := [0, 1, 2, 3].foldl State.reseedMesh (s.modBoot fun b => { b with esWait := false }).newBaseNote
           x.lifecycle = 2 ∨ x.lifecycle = 3)
    ∧ (let s : State := { live with boot := { live.boot with portsDue := true } }
       s.boot.portsDue = true ∧ (s.link 0).state ≠ .down ∧ ({ s with links := [(0, { state := .down })] }.link 0).state = .down)
    ∧ { live with boot := { started := true, stage := 8, plats := (List.range 4).map fun p => (p, { images := [(0, { final := true })] }) },
                  flc := { slots := [(127, { attr := 1 })] } }.mayClose = true := by decide +kernel

theorem test_meets_Restarts :
    live.canRestart = true ∧ (25146 < 25147 ∧ 23681 < 23682)
    ∧ ({ live with fus := { restartFrom := some 1000001 } }.fus.restartFrom = some 1000001 ∧ live.fus.restartFrom = none)
    ∧ (let s : State := { live with frm := { live.frm with activating := true } }; s.frm.activating = true ∧ s.quiet = true)
    ∧ live.frm.activating = false
    ∧ (let s : State := { live with wdn := { live.wdn with install := some 4 } }; s.wdn.install = some 4 ∧ s.quiet = true ∧ s.canRestart = true) := by
  decide +kernel

/-- A staged Formula. -/
def staging (redFlag : Bool := false) : State :=
  { live with frm := { live.frm with staged := some { digest := zeros 48 } }, vlt := { redFlag := redFlag } }

theorem test_meets_ActivationAndVault :
    Meets 0xC002 (fun o u => o.fits 48 [] ∧ u.restarting = false ∧ u.unopposed (o.lockObjs ++ u.everyObject) ∧ u.frm.staged = none)
    ∧ Meets 0xC002 (fun o u => o.fits 48 [] ∧ u.restarting = false ∧ u.frm.staged = some { digest := zeros 48 } ∧ u.staging o = false ∧ u.redRefuses o = true ∧ u.unopposed (o.lockObjs ++ u.everyObject))
    ∧ Meets 0xC002 (fun o u => o.fits 48 [] ∧ u.restarting = false ∧ u.frm.staged = some { digest := zeros 48 } ∧ u.staging o = false ∧ u.redRefuses o = false
        ∧ sized 48 (zeros 48) ≠ o.payload ∧ u.unopposed (o.lockObjs ++ u.everyObject))
    ∧ Meets 0xC002 (fun o u => o.fits 48 [] ∧ u.restarting = false ∧ u.frm.staged = some { digest := zeros 48 } ∧ u.staging o = false ∧ u.redRefuses o = false
        ∧ sized 48 (zeros 48) = o.payload ∧ u.unopposed (o.lockObjs ++ u.everyObject))
    ∧ (live.pwr.mainPower = true ∧ { live with pwr := { mainPower := false } }.pwr.mainPower = false)
    ∧ (live.canRestart = true ∧ live.pwr.vaultDue = none ∧ { live with pwr := { live.pwr with vaultDue := some 2000000 } }.pwr.vaultDue = some 2000000) :=
  ⟨meets live (order 0xC002 (zeros 48)) (by decide) (by decide +kernel),
   meets (staging true) (order 0xC002 (zeros 48)) (by decide) (by decide +kernel),
   meets (staging) (order 0xC002 (zeros 47 ++ [1])) (by decide) (by decide +kernel),
   meets (staging) (order 0xC002 (zeros 48)) (by decide) (by decide +kernel), by decide +kernel, by decide +kernel⟩

/-- Every source watched, with the response that `r` gives each. -/
def watchful (r : Nat := 0) : State := { live with vlt := { srcEn := 2 ^ 15 - 1, resp := r, respCopy := r } }

theorem test_meets_TamperTriggers :
    (bit (watchful).vlt.live 3 = false ∧ bit { watchful with vlt := { live := 8 } }.vlt.live 3 = true ∧ (watchful).clk.running = true)
    ∧ ((watchful).response 14 = 0 ∧ (watchful (4 ^ 14)).response 14 = 1 ∧ (watchful (2 * 4 ^ 14)).response 14 = 2 ∧ (watchful (3 * 4 ^ 14)).response 14 = 3)
    ∧ (live.watched 3 = false ∧ (watchful).watched 3 = true ∧ live.watched 11 = false ∧ (watchful).watched 11 = true)
    ∧ (let u := (watchful).sampleTick 12 (2 ^ 20) 0
       let v := u.freeVal.2
       v.watched 12 = true ∧ live.watched 12 = false ∧ v.vlt.window.1 ≤ (160 : Int) ∧ (160 : Int) ≤ v.vlt.window.2 ∧ (161 : Int) > v.vlt.window.2) := by
  decide +kernel

theorem test_meets_VaultSupply :
    (live.watched 14 = false ∧ (watchful).watched 14 = true ∧ (watchful).clk.running = true ∧ { watchful with clk := {} }.clk.running = false)
    ∧ (let s : State := { live with vlt := { noteA := zeros 32, noteB := zeros 32 } }; s.vlt.noteA.length = 32 ∧ s.vlt.noteB.length = 32)
    ∧ (live.vlt.armed = false ∧ { watchful with vlt := { (watchful).vlt with armed := true } }.vlt.armed = true)
    ∧ (live.pwr.mainPower = true ∧ { live with pwr := { mainPower := false } }.pwr.mainPower = false) := by decide +kernel

theorem test_meets_RedFlagOrders :
    Meets 0x0040 (fun o _ => o.fits 0 [])
    ∧ Meets 0x0041 (fun o u => o.fits 4 [] ∧ u.unopposed [objLockdown, objLift] ∧ u.vlt.redFlag = false)
    ∧ Meets 0x0041 (fun o u => o.fits 4 [] ∧ u.unopposed [objLockdown, objLift] ∧ u.vlt.redFlag = true ∧ u.vlt.dqSeen = true)
    ∧ Meets 0x0041 (fun o u => o.fits 4 [] ∧ u.unopposed [objLockdown, objLift] ∧ u.vlt.redFlag = true ∧ u.vlt.dqSeen = false ∧ u32 o.payload 0 ≠ u.rfMask)
    ∧ Meets 0x0041 (fun o u => o.fits 4 [] ∧ u.unopposed [objLockdown, objLift] ∧ u.vlt.redFlag = true ∧ u.vlt.dqSeen = false ∧ u32 o.payload 0 = u.rfMask ∧ u.liftBarred = true)
    ∧ Meets 0x0041 (fun o u => o.fits 4 [] ∧ u.unopposed [objLockdown, objLift] ∧ u.vlt.redFlag = true ∧ u.vlt.dqSeen = false ∧ u32 o.payload 0 = u.rfMask ∧ u.liftBarred = false)
    ∧ Meets 0x0042 (fun o _ => o.fits 0 [])
    ∧ ({ live with links := [] }.banksInSession = [] ∧ (alarmed live).vlt.redFlag = true ∧ live.vlt.redflagnLow = false ∧ live.boot.kfVersion ≠ none
      ∧ (1 : Word).toNat % 2 = 1 ∧ (0 : Word).toNat % 2 = 0 ∧ live.cores.steward = .running) :=
  ⟨meets live (order 0x0040 []) (by decide) (by decide +kernel), meets live (order 0x0041 (zeros 4)) (by decide) (by decide +kernel),
   meets { live with vlt := { redFlag := true, dqSeen := true } } (order 0x0041 (zeros 4)) (by decide) (by decide +kernel),
   meets { live with vlt := { redFlag := true, redMask := 2 ^ 16 } } (order 0x0041 (zeros 4)) (by decide) (by decide +kernel),
   meets { live with vlt := { redFlag := true, redMask := 2 ^ 15, redflagnLow := true } } (order 0x0041 (le 4 (2 ^ 15))) (by decide) (by decide +kernel),
   meets { live with vlt := { redFlag := true, redMask := 2 ^ 15 } } (order 0x0041 (le 4 (2 ^ 15))) (by decide) (by decide +kernel),
   meets live (order 0x0042 []) (by decide) (by decide +kernel), by decide +kernel⟩
/-! ## Chapters 1 and 2: the links -/

/-- `live` with one link's record as given. -/
def linked (l : Nat) (k : Link) : State := { live with links := tset {} live.links l k }

theorem test_meets_LinkTraining :
    (let s := linked 4 { state := .train }
     (s.link 4).state = .train ∧ (s.link 4).deadline = none)
    ∧ (let s := linked 4 { state := .train, deadline := some 1000001 }
       (s.link 4).deadline = some 1000001 ∧ s.now < 1000001 ∧ ((linked 4 { state := .train, deadline := some 1000000 }).link 4).deadline = some s.now)
    ∧ ((live.link 4).state ≠ .train ∧ (live.link 4).attemptEnd = none)
    ∧ ((linked 4 { state := .lost, attemptEnd := some 1000100 }).link 4).attemptEnd = some 1000100
    ∧ (let s := { shut { req := some { unlock := true, cause := 0, applied := 0, start := some 1 } } 1023 with links := [] }
       (1023 : Nat) / 256 = 4 - 1 ∧ (s.comp 1023).req.isSome = true ∧ ((s.comp 1023).req.map fun q => q.start.isSome) = some true)
    ∧ (let s := linked 0 { state := .session, checkDue := some 1000001, checkV := 77 }
       (s.link 0).checkDue = some 1000001 ∧ s.now < 1000001 ∧ ((linked 0 { checkDue := some 1000000 }).link 0).checkDue = some s.now)
    ∧ (let s := linked 0 { checksFailed := 2 }; 3 ≤ (s.link 0).checksFailed + 1 ∧ (s.link 0).mode ≠ 1)
    ∧ ((linked 0 { state := .down }).link 0).state ∉ [.train, .pair, .session] := by decide +kernel

/-- A link in SESSION whose ends hold a key. -/
def keyed : Link := { state := .session, held := false, offset := some 0, keeper := { key := zeros 32 }, partner := { key := zeros 32 } }

theorem test_meets_FlitReception :
    ((linked 0 { state := .train }).link 0).state ∉ [.pair, .session]
    ∧ (((linked 0 keyed).link 0).state = .session ∧ (6 : Nat) ∉ [0, 1, 2, 3, 4, 5, 9, 0xA])
    ∧ (let rx := ((linked 0 keyed).link 0).sender false
       let f : Flit := { type := 0, seq := 4096, ack := 0 }
       let g : Flit := { f with tag := flitTag rx.key 0 true rx.accepted f }
       (5 : Nat) % 4096 ≠ rx.accepted % 4096 ∧ g.seq % 4096 = rx.accepted % 4096 ∧ ((linked 0 keyed).link 0).dark = false ∧ rx.key ≠ []
         ∧ g.tag = flitTag rx.key 0 true rx.accepted g ∧ g.type = 0 ∧ (({} : Link).sender false).key = [])
    ∧ (let e (n : Nat) : LinkEnd := { unacked := [{ seq := 1, kind := 0, deadline := 1000100, timeouts := n }] }
       let s (n : Nat) := linked 0 { keyed with keeper := e n, partner := e n }
       (∀ up ∈ [true, false], (((s 3).link 0).sender up).unacked.map SentFlit.timeouts = [3] ∧ (((s 2).link 0).sender up).unacked.map SentFlit.timeouts = [2])
         ∧ (((linked 0 keyed).link 0).sender true).unacked = []) := by
  refine ⟨by decide +kernel, by decide +kernel, ⟨by decide +kernel, rfl, rfl, by decide +kernel, rfl, rfl, rfl⟩, by decide +kernel⟩

theorem test_meets_LinkQueries :
    Meets 0x0010 (fun o _ => o.fits 0 []) ∧ Meets 0x0011 (fun o _ => o.fits 0 []) ∧ Meets 0x0020 (fun o _ => o.fits 0 [])
    ∧ Meets 0x0021 (fun o u => o.fits 0 [] ∧ ∀ l, l < 5 → u.alignResult l ≠ 2)
    ∧ Meets 0x0021 (fun o u => o.fits 0 [] ∧ u.inSession 0 = true ∧ (u.link 0).offset ≠ some 0 ∧ (∀ l, l < 5 → 0 < l → u.inSession l = false)
        ∧ ∀ l, l < 5 → 0 < l → ((u.event 1 0 0x0402 0 2).reinit 0).inSession l = false) :=
  ⟨meets live (order 0x0010 []) (by decide) (by decide +kernel), meets live (order 0x0011 []) (by decide) (by decide +kernel),
   meets live (order 0x0020 []) (by decide) (by decide +kernel), meets live (order 0x0021 []) (by decide) (by decide +kernel),
   meets { live with links := [(0, { keyed with offset := some 3 })] } (order 0x0021 []) (by decide) (by decide +kernel)⟩
/-! ## Chapters 4 and 9: platforms and the Formula -/

/-- `live` with platform 0 as given, and Warden port 0. -/
def plated (q : Plat) (w : WPort := {}) : State := { live with boot := { live.boot with plats := [(0, q)] }, wdn := { live.wdn with ports := [(0, w)] } }

/-- What a flash of 16 MiB answers a HOLD procedure with: an SFDP table of 16 words that suits port 0, and one that does not. -/
def reads : HoldReads := { phasesPass := [0, 1, 2, 3] }
def goodReads : HoldReads :=
  { sfdp := patch 256 [(0, ascii "SFDP"), (8, [0, 6, 1, 16, 0x30, 0, 0, 0xFF]), (0x30, le 4 0xFFF120E5), (0x34, le 4 0x07FFFFFF), (0x4C, le 4 0x520F200C),
      (0x50, le 4 0x0000D810)]
    phasesPass := [0, 1, 2, 3] }

theorem test_meets_Measurement :
    (let s := plated { measuring := 1, images := [(0, { limit := some 1000001 })] } { phase := 1 }
     (s.image 0 0).limit = some 1000001 ∧ s.inSession 0 = true ∧ (s.plat 0).measuring ≠ 0 ∧ (s.wport (s.bootPort 0)).phase = 1 ∧ (s.plat 0).image = 0
       ∧ s.recovering 0 = false ∧ s.now < 1000001
       ∧ ((plated { measuring := 1, images := [(0, { limit := some 1000000 })] } { phase := 1 }).image 0 0).limit = some s.now)
    ∧ (live.image 3 7).limit = none
    ∧ (let s : State := { live with boot := { live.boot with verifying := [(0, 0)] } }
       s.boot.verifying.head? = some (0, 0) ∧ s.powered dCrypto = true ∧ live.boot.verifying.head? ≠ some (0, 0))
    ∧ (let s := plated { pgoodUntil := some 1000000 }
       (s.plat 0).pgoodUntil = some 1000000 ∧ 1000000 ≤ s.now ∧ bit s.boot.pgood 0 = false ∧ (live.plat 0).pgoodUntil = none
         ∧ bit { live.boot with pgood := 1 }.pgood 0 = true)
    ∧ (let s := plated { measuring := 1 } { holdDue := true }
       let u := s.holdSteps 0 reads
       s.portDeclared 0 = true ∧ (s.wport 0).holdDue = true ∧ (s.wport 0).busy = false ∧ s.powered (dWarden 0) = true
         ∧ u.platOf 0 = some 0 ∧ (u.plat 0).measuring ≠ 0 ∧ (u.wport 0).fault ≠ 0 ∧ ((s.holdSteps 0 goodReads).wport 0).fault = 0)
    ∧ (let s : State := { live with wdn := { live.wdn with ports := [(4, { holdDue := true })] } }
       s.portDeclared 4 = true ∧ (s.wport 4).holdDue = true ∧ (s.wport 4).busy = false ∧ s.powered (dWarden 4) = true
         ∧ (s.holdSteps 4 reads).platOf 4 = none)
    ∧ ((4 : Nat) ≠ 0 ∧ live.policyFor 0 0 ≠ 0 ∧ (live.plat 0).measuring = 0) := by decide +kernel

theorem test_meets_ReleaseOrder :
    (let s : State := { live with boot := { live.boot with plats := [(0, {})] } }
     let u := s.advanceTo (max (s.boot.ref + 1 + s.orderDelay 0) s.boot.liftRef)
     s.orders[s.boot.nextOrder]? = some 0 ∧ s.flc.closed = true ∧ s.boot.orderAt = none ∧ (s.boot.plats.any fun x => x.2.measuring = 3) = false
       ∧ u.releaseBarred = false ∧ (alarmed s).releaseBarred = true ∧ { s with links := [] }.inSession 0 = false)
    ∧ live.orders[1]? = none
    ∧ (let s := plated { releaseAt := some 1000001, eligible := true }
       (s.plat 0).releaseAt = some 1000001 ∧ (s.plat 0).releaseCmd = none ∧ (s.advanceTo 1000001).releaseBarred = false ∧ s.inSession 0 = true
         ∧ (s.plat 0).heldCmd = false ∧ s.pgoodMet 0 = true ∧ s.eligibleNow 0 = true ∧ (plated { releaseAt := some 1000001 }).eligibleNow 0 = false)
    ∧ (live.plat 3).releaseAt = none := by decide +kernel

/-- A BOOT section that waits for PGOOD, in place of platform 0's. -/
def waiting (q : Plat) : State :=
  let x := plated q
  { x with frm := { x.frm with applied := some { sections := ⟨0x0E, 0, tPacer⟩ :: ⟨0x0A, 0, (tBoot 0).take 3 ++ [1] ++ (tBoot 0).drop 4⟩ :: tFormula.sections } } }

theorem test_meets_PlatformCommands :
    let releases (o : Outstanding) (u : State) : Prop :=
      byteAt o.payload 0 ≤ 3 ∧ o.fits 4 [(1, 3)] ∧ u.redRefuses o = false ∧ u.hasBoot 0 = true ∧ u.flc.closed = true ∧ u.eligibleNow 0 = true
        ∧ (u.plat 0).ordered = true ∧ u.inSession 0 = true
    let phases (o : Outstanding) (u : State) : Prop :=
      byteAt o.payload 0 ≤ 3 ∧ o.fits 4 [(2, 2)] ∧ u.portDeclared 0 = true ∧ u.flc.closed = true ∧ u.inSession 0 = true ∧ (u.wport 0).phase ≠ 2
    Meets 0x0030 (fun o u => byteAt o.payload 0 ≤ 3 ∧ o.fits 4 [(1, 3)] ∧ u.redRefuses o = true ∧ u.unopposed (objReset 0 :: o.lockObjs))
    ∧ Meets 0x0030 (fun o u => releases o u ∧ u.pgoodMet 0 = false ∧ u.unopposed (objReset 0 :: o.lockObjs))
    ∧ Meets 0x0030 (fun o u => releases o u ∧ u.pgoodMet 0 = true ∧ (u.plat 0).released = true ∧ u.unopposed (objReset 0 :: o.lockObjs))
    ∧ Meets 0x0030 (fun o u => releases o u ∧ u.pgoodMet 0 = true ∧ (u.plat 0).released = false ∧ u.unopposed (objReset 0 :: o.lockObjs))
    ∧ Meets 0x0031 (fun o u => byteAt o.payload 0 ≤ 3 ∧ o.fits 4 [(1, 3)] ∧ u.unopposed [objReset 0])
    ∧ Meets 0x3005 (fun o u => phases o u ∧ byteAt o.payload 1 = 4 ∧ u.redRefuses o = true)
    ∧ Meets 0x3005 (fun o u => phases o u ∧ byteAt o.payload 1 = 4 ∧ u.redRefuses o = false ∧ (u.wport 0).phase = 4 ∧ u.unopposed (objWarden 0 :: o.lockObjs))
    ∧ Meets 0x3005 (fun o u => phases o u ∧ byteAt o.payload 1 = 4 ∧ u.redRefuses o = false ∧ (u.wport 0).phase = 3 ∧ u.unopposed (objWarden 0 :: o.lockObjs))
    ∧ Meets 0x3005 (fun o u => phases o u ∧ byteAt o.payload 1 = 3 ∧ u.redRefuses o = false ∧ u.unopposed (objWarden 0 :: o.lockObjs))
    ∧ Meets 0x3005 (fun o u => phases o u ∧ byteAt o.payload 1 = 0 ∧ u.platOf 0 = some 0 ∧ u.unopposed [objWarden 0, objReset 0])
    ∧ Meets 0x0032 (fun o _ => o.fits 0 []) :=
  ⟨meets (alarmed live) (order 0x0030 (zeros 4)) (by decide) (by decide +kernel),
   meets (waiting { eligible := true, ordered := true }) (order 0x0030 (zeros 4)) (by decide) (by decide +kernel),
   meets (plated { eligible := true, ordered := true, released := true }) (order 0x0030 (zeros 4)) (by decide) (by decide +kernel),
   meets (plated { eligible := true, ordered := true }) (order 0x0030 (zeros 4)) (by decide) (by decide +kernel),
   meets live (order 0x0031 (zeros 4)) (by decide) (by decide +kernel),
   meets (alarmed live) (order 0x3005 [0, 4, 0, 0]) (by decide) (by decide +kernel),
   meets (plated {} { phase := 4 }) (order 0x3005 [0, 4, 0, 0]) (by decide) (by decide +kernel),
   meets (plated {} { phase := 3 }) (order 0x3005 [0, 4, 0, 0]) (by decide) (by decide +kernel),
   meets live (order 0x3005 [0, 3, 0, 0]) (by decide) (by decide +kernel), meets live (order 0x3005 (zeros 4)) (by decide) (by decide +kernel),
   meets live (order 0x0032 []) (by decide) (by decide +kernel)⟩

theorem test_meets_FormulaStaging :
    Meets 0xC001 (fun o u => 64 ≤ o.bulk.length ∧ o.bulk.length ≤ 98304 ∧ o.fits 8 [] ∧ u.staging o = false ∧ u.unopposed [objStage])
    ∧ (let a := order 0xC001 (zeros 8) .mb0 (zeros 64)
       let x := { a with port := .svc, edge := 998000, progress := .accepted }
       Meets 0xC001 (fun o u => o = a ∧ { u with paths := { u.paths with outstanding := x :: u.paths.outstanding } }.staging o = true ∧ u.unopposed [objStage]))
    ∧ Meets 0xC001 (fun o _ => o.bulk.length < 64)
    ∧ ({ live with frm := { live.frm with revalidating := true } }.frm.revalidating = true ∧ live.frm.revalidating = false)
    ∧ Meets 0xC000 (fun o _ => o.fits 0 []) ∧ Meets 0xC003 (fun o _ => o.fits 2 []) :=
  ⟨meets live (order 0xC001 (zeros 8) .mb0 (zeros 64)) (by decide) (by decide +kernel),
   meets live (order 0xC001 (zeros 8) .mb0 (zeros 64)) (by decide) ⟨rfl, by decide +kernel⟩,
   meets live (order 0xC001 (zeros 8) .mb0 (zeros 63)) (by decide) (by decide +kernel), by decide +kernel,
   meets live (order 0xC000 []) (by decide) (by decide +kernel), meets live (order 0xC003 [0, 0]) (by decide) (by decide +kernel)⟩
/-! ## Chapters 0, 1 and 5: the cores and the fuses -/

/-- `live` with the Steward watchdog started at a cycle, and a count of 1 024. -/
def watched (start : Nat) (expiries : List Nat := []) : State :=
  { live with cores := { live.cores with wdogEn := true, wdogTimeout := 1, wdogStart := some start, expiries := expiries } }

theorem test_meets_StewardWatchdog :
    (let s := watched 998976
     s.stewardOn = true ∧ (0xA5#32).toNat < 256 ∧ s.wdogDue = some s.now ∧ s.recording = true
       ∧ ((s.cores.expiries.filter fun t => s.now < t + 2 ^ 30) ++ [s.now]).length < 4
       ∧ 4 ≤ (((watched 998976 [999000, 999001, 999002]).cores.expiries.filter fun t => s.now < t + 2 ^ 30) ++ [s.now]).length)
    ∧ (let s := watched 998977
       s.wdogDue = some 1000001 ∧ s.now < 1000001 ∧ (0xA5#32).toNat = 0xA5 ∧ (0x5A#32).toNat ≠ 0xA5 ∧ (0xFF#32).toNat < 256)
    ∧ { live with cores := { live.cores with wdogEn := false } }.wdogDue = none := by decide +kernel

theorem test_meets_RegisterAccess :
    live.coreRuns .steward = true ∧ live.coreRuns .keeper = true
    ∧ { live with cores := { live.cores with steward := .held } }.coreRuns .steward = false
    ∧ { live with links := [(1, { state := .absent })] }.dieAbsent (1 + 0) = true
    ∧ live.granted .steward true (placeOf 0x40000200) = false ∧ live.granted .steward false (placeOf 0x20000) = false
    ∧ live.granted .keeper true (placeOf 0x40000430) = true ∧ ownWrite .keeper 0x40000430 0 (live.writeWins .keeper 0x40000430) = none
    ∧ live.writeLoses .keeper 0x40000430 = false
    ∧ live.granted .steward true (placeOf 0x40000204) = true ∧ (ownWrite .steward 0x40000204 0xA5 (live.writeWins .steward 0x40000204)).isSome = true
    ∧ (let s := live.writeWins .keeper 0x40000430; s.writeLoses .steward 0x40000430 = true ∧ s.granted .steward true (placeOf 0x40000430) = true)
    ∧ placeOf 0x1FFFC = .tcmSteward 0x1FFFC ∧ placeOf 0 = .tcmSteward 0
    ∧ placeOf 0x40000010 = .kpr 0x10 ∧ live.granted .keeper false (.kpr 0x10) = true := by decide +kernel

theorem test_meets_TimeRead : live.coreRuns .keeper = true ∧ live.coreRuns .steward = true := by decide +kernel

theorem test_meets_NvmRequests :
    live.coreRuns .keeper = true ∧ live.coreRuns .steward = true ∧ nvmOffset (.eraseSector 0xFF000) < 0x100000 ∧ live.cores.opA = none ∧ live.cores.opB = none
    ∧ (let s : State := { live with cores := { live.cores with opA := some (.eraseSector 0), opB := some (.program 0x200 [1]) } }
       s.cores.opA ≠ none ∧ s.cores.opB ≠ none)
    ∧ Memory.wf 0xFF [(4095, 1), (4096, 2)] = true ∧ ¬(4096 / 4096 * 4096 ≤ 4095 ∧ 4095 < 4096 / 4096 * 4096 + 4096) := by decide +kernel

/-- `live` with fuse words latched and in the arrays. -/
def fused (e a : List (Nat × Word)) (op : Option FuseOp := none) : State :=
  { live with fus := { live.fus with efuse := e, latchE := e, antifuse := a, latchA := a, op := op } }
def aboutIt (x : State) : State :=
  { x with pwr := { x.pwr with readings := [(0, { presented := true, edge := 1000000, value := 100 }), (1, { presented := true, edge := 1000000, value := 800 }),
      (3, { presented := true, edge := 1000000, value := 1800 })] } }
def otherOp : FuseOp := { cmd := { port := .svc, session := 0, tag := 9 }, words := [{ anti := false, addr := 1, data := 3 }] }

theorem test_meets_FuseCommands :
    let programs (o : Outstanding) (u : State) : Prop :=
      byteAt o.payload 0 ≤ 1 ∧ 1 ≤ u16 o.payload 4 ∧ u16 o.payload 4 ≤ 64 ∧ o.fits (8 + 4 * u16 o.payload 4) [(1, 1), (6, 2)] ∧ markerFault o.payload = none
        ∧ ((programWords o.payload).all fun w => u.programAllowed w.anti w.addr) = true
        ∧ ((programWords o.payload).any fun w => programArea w.anti w.addr = 1 ∧ u.fuseArray w.anti (finalOf w.anti w.addr) ≠ 0) = false
        ∧ ((programWords o.payload).any fun w => u.fuseArray w.anti w.addr &&& ~~~w.data ≠ 0) = false
        ∧ ((programWords o.payload).any fun w => w.anti ∧ programArea true w.addr = 2 ∧ u.keyInUse (w.addr - 0xC8)) = false
    let moves (o : Outstanding) (u : State) : Prop := o.fits 20 [(1, 3)] ∧ 1 ≤ byteAt o.payload 0 ∧ byteAt o.payload 0 ≤ 5 ∧ slice o.payload 4 16 = u.devid
    let marks (d : Nat) (o : Outstanding) (u : State) : Prop :=
      moves o u ∧ byteAt o.payload 0 = d ∧ transitionListed u.lifecycle d = true ∧ u.transitionReady d = true ∧ u.fus.op = none
    let bumps (o : Outstanding) : Prop :=
      o.fits 4 [(2, 2)] ∧ (byteAt o.payload 0 ≤ 63 ∨ byteAt o.payload 0 ∈ [0x80, 0x81, 0x82]) ∧ 1 ≤ byteAt o.payload 1 ∧ byteAt o.payload 1 ≤ 64
    Meets 0xD000 (fun o _ => o.fits 8 [(1, 1), (6, 2)] ∧ byteAt o.payload 0 ≤ 2 ∧ u16 o.payload 2 < fuseArraySize (byteAt o.payload 0) ∧ 1 ≤ u16 o.payload 4
        ∧ u16 o.payload 4 ≤ 256 ∧ u16 o.payload 2 + u16 o.payload 4 ≤ fuseArraySize (byteAt o.payload 0))
    ∧ Meets 0xD001 (fun o u => programs o u ∧ u.fus.op.isSome = true)
    ∧ Meets 0xD001 (fun o u => programs o u ∧ u.fus.op = none)
    ∧ Meets 0xD002 (fun o u => o.fits 4 [(1, 3)] ∧ byteAt o.payload 0 = 3 ∧ unitOf 3 = some (false, 0x30, 11) ∧ u.fuseArray false (0x30 + 11 + 4) = 0xFFFFFFFF#32)
    ∧ Meets 0xD002 (fun o _ => o.fits 4 [(1, 3)] ∧ byteAt o.payload 0 ∉ [0x03, 0x04, 0x12, 0x13, 0x14, 0x15, 0x16, 0x17])
    ∧ Meets 0xD003 (fun o u => o.fits 20 [(1, 3)] ∧ 1 ≤ byteAt o.payload 0 ∧ byteAt o.payload 0 ≤ 5 ∧ slice o.payload 4 16 ≠ u.devid)
    ∧ Meets 0xD003 (fun o u => moves o u ∧ transitionListed u.lifecycle (byteAt o.payload 0) = false)
    ∧ Meets 0xD003 (fun o u => marks 5 o u ∧ u.fuseWindow.1 = false)
    ∧ Meets 0xD003 (fun o u => marks 3 o u ∧ u.fuseWindow.1 = true ∧ fuseWord u.fus.efuse (0x20 + (3 - 2)) ≠ 0xFFFFFFFF)
    ∧ Meets 0xD003 (fun o u => marks 5 o u ∧ u.fuseWindow.1 = true ∧ fuseWord u.fus.efuse (0x20 + (5 - 2)) ≠ 0xFFFFFFFF)
    ∧ Meets 0xD004 (fun o u => bumps o ∧ u.bumpRollsBack (byteAt o.payload 0) (byteAt o.payload 1) = true)
    ∧ Meets 0xD004 (fun o u => bumps o ∧ u.bumpRollsBack (byteAt o.payload 0) (byteAt o.payload 1) = false ∧ u.fus.op = none)
    ∧ (fused [] [] (some otherOp)).fus.op = some otherOp ∧ otherOp.words = { anti := false, addr := 1, data := 3 } :: [] :=
  ⟨meets live (order 0xD000 [1, 0, 0, 3, 0, 1, 0, 0]) (by decide) (by decide +kernel),
   meets (fused [] [] (some otherOp)) (order 0xD001 ([0, 0, 0x30, 0, 1, 0, 0, 0] ++ le 4 5)) (by decide) (by decide +kernel),
   meets live (order 0xD001 ([0, 0, 0x30, 0, 1, 0, 0, 0] ++ le 4 5)) (by decide) (by decide +kernel),
   meets (fused [(0x3F, 0xFFFFFFFF)] []) (order 0xD002 [3, 0, 0, 0]) (by decide) (by decide +kernel),
   meets live (order 0xD002 [1, 0, 0, 0]) (by decide) (by decide +kernel),
   meets live (order 0xD003 (patch 20 [(0, [3]), (4, [1])])) (by decide) (by decide +kernel),
   meets live (order 0xD003 (patch 20 [(0, [1])])) (by decide) (by decide +kernel),
   meets live (order 0xD003 (patch 20 [(0, [5])])) (by decide) (by decide +kernel),
   meets (let x := aboutIt (fused [(0x20, 1)] []); { x with frm := { x.frm with applied := some { tFormula with lifecycles := 15 } } })
     (order 0xD003 (patch 20 [(0, [3])])) (by decide) (by decide +kernel),
   meets (aboutIt live) (order 0xD003 (patch 20 [(0, [5])])) (by decide) (by decide +kernel),
   meets live (order 0xD004 [0x80, 2, 0, 0]) (by decide) (by decide +kernel),
   meets live (order 0xD004 [63, 64, 0, 0]) (by decide) (by decide +kernel), by decide, rfl⟩

/-- Key unit 2 with one content bit, and nothing of its digest: a finalise runs whatever the digest is. -/
theorem test_meets_FuseCommands_finalise :
    Meets 0xD002 (fun o u => o.fits 4 [(1, 3)] ∧ byteAt o.payload 0 = 0x12 ∧ unitOf 0x12 = some (true, 0x62, 12) ∧ u.fuseArray true (0x62 + 12 + 4) = 0#32
      ∧ ((fuseBytes u.fus.antifuse 0x62 12).all fun x => x = 0) = false ∧ u.fus.op = none
      ∧ ((List.range 4).any fun k => u.fuseArray true (0x62 + 12 + k)
          &&& ~~~((digestWords (unitDigest 0x12 (fuseBytes u.fus.antifuse 0x62 12))).getD k 0) ≠ 0) = false) :=
  meets (fused [] [(0x62, 1)]) (order 0xD002 [0x12, 0, 0, 0]) (by decide)
    ⟨by decide +kernel, by decide, by decide, by decide +kernel, by decide +kernel, by decide +kernel, by
      have h : ∀ k ∈ List.range 4, (turn (order 0xD002 [0x12, 0, 0, 0]) (fused [] [(0x62, 1)])).fuseArray true (0x62 + 12 + k) = 0 := by decide +kernel
      rw [List.any_eq_false]
      intro k hk
      rw [h k hk]
      simp⟩

/-! ## Chapters 7 and 8: keys and the crypto cluster -/

/-- `live` with slots filled. -/
def filled (ks : List (Nat × Slot)) : State := { live with flc := { live.flc with slots := ks } }
/-- A KEK of 32 bytes that every rank may use, and a slot that no port's rank may. -/
def kek : Slot := { attr := 1 + 0x200 + 0x3C00 + 7 * 2 ^ 21 }
def rankless : Slot := { attr := 1 + 7 * 2 ^ 21 }
/-- The 16 bytes of a tag, one by one. -/
def spread (tag : Bytes) : Bytes := (List.range 16).map fun i => tag.getD i 0
/-- A payload of KEY.IMPORT with a blob for slot 0 under the KEK of slot 1, and its tag. -/
def wrapped (tag : Bytes) : Bytes :=
  [0, 1, 1, 0] ++ le 4 0 ++ le 2 72 ++ zeros 2 ++ ([0x54, 0x58, 0x4B, 0x57] ++ le 4 (7 * 2 ^ 21) ++ zeros 12 ++ le 2 32 ++ zeros 2 ++ zeros 32 ++ spread tag)

theorem test_meets_KeyCommands :
    let generates (o : Outstanding) : Prop :=
      12 ≤ o.payload.length ∧ byteAt o.payload 0 ≤ 105 ∧ byteAt o.payload 1 = 0 ∧ byteAt o.payload 2 = 0 ∧ byteAt o.payload 3 = 0
        ∧ attrFault o.payload 4 = none ∧ u16 o.payload 8 = 0 ∧ u16 o.payload 10 = 0 ∧ o.fits 12 []
    let imports (o : Outstanding) : Prop :=
      12 ≤ o.payload.length ∧ byteAt o.payload 0 ≤ 105 ∧ byteAt o.payload 1 = 0 ∧ byteAt o.payload 2 = 0 ∧ byteAt o.payload 3 = 0
        ∧ attrFault o.payload 4 = none ∧ u16 o.payload 8 = 4 * (bits (u32 o.payload 4) 24 21 + 1) ∧ o.fits (12 + u16 o.payload 8) [(10, 2)]
        ∧ scalarInRange (bits (u32 o.payload 4) 20 18) (o.payload.drop 12) = true
    let wraps (o : Outstanding) (u : State) : Prop :=
      o.fits 4 [(2, 2)] ∧ u.slotValid (byteAt o.payload 0) = true ∧ u.slotValid (byteAt o.payload 1) = true
        ∧ rankMissing (u.slot (byteAt o.payload 0)).attr o.port = false ∧ rankMissing (u.slot (byteAt o.payload 1)).attr o.port = false
    Meets 0x5000 (fun o u => generates o ∧ u.slotTaken (byteAt o.payload 0) = true)
    ∧ Meets 0x5000 (fun o u => generates o ∧ u.slotTaken (byteAt o.payload 0) = false ∧ destReserved (u32 o.payload 4) = false ∧ u.drbgReady = true
        ∧ u.reseedDue = false ∧ hasPublic (u32 o.payload 4) = false ∧ u.unopposed [objSlot (byteAt o.payload 0)])
    ∧ Meets 0x5001 (fun o u => imports o ∧ u.slotTaken (byteAt o.payload 0) = true)
    ∧ Meets 0x5001 (fun o u => imports o ∧ u.slotTaken (byteAt o.payload 0) = false ∧ destReserved (u32 o.payload 4) = false
        ∧ u.unopposed [objSlot (byteAt o.payload 0)])
    ∧ Meets 0x5002 (fun o u => o.fits 4 [(2, 2)] ∧ byteAt o.payload 0 ≤ 127 ∧ byteAt o.payload 1 ≤ 127 ∧ u.slotValid (byteAt o.payload 0) = false)
    ∧ Meets 0x5002 (fun o u => wraps o u ∧ kekUsable (u.slot (byteAt o.payload 1)).attr = false)
    ∧ Meets 0x5002 (fun o u => wraps o u ∧ kekUsable (u.slot (byteAt o.payload 1)).attr = true ∧ bit (u.slot (byteAt o.payload 0)).attr 16 = true
        ∧ u.drbgReady = true ∧ u.reseedDue = false)
    ∧ Meets 0x5003 (fun o _ => o.fits 4 [(1, 3)] ∧ 106 ≤ byteAt o.payload 0 ∧ byteAt o.payload 0 ≤ 127)
    ∧ Meets 0x5003 (fun o u => o.fits 4 [(1, 3)] ∧ byteAt o.payload 0 ≤ 105 ∧ rankMissing (u.slot (byteAt o.payload 0)).attr o.port = true)
    ∧ Meets 0x5003 (fun o u => o.fits 4 [(1, 3)] ∧ byteAt o.payload 0 ≤ 105 ∧ rankMissing (u.slot (byteAt o.payload 0)).attr o.port = false
        ∧ u.unopposed [objSlot (byteAt o.payload 0)] ∧ u.slotValid (byteAt o.payload 0) = false)
    ∧ Meets 0x5003 (fun o u => o.fits 4 [(1, 3)] ∧ byteAt o.payload 0 ≤ 105 ∧ rankMissing (u.slot (byteAt o.payload 0)).attr o.port = false
        ∧ u.unopposed [objSlot (byteAt o.payload 0)] ∧ u.slotValid (byteAt o.payload 0) = true)
    ∧ Meets 0x5004 (fun o u => o.fits 4 [(1, 3)] ∧ byteAt o.payload 0 = 127 ∧ u.slotValid 127 = false)
    ∧ Meets 0x5005 (fun o u => o.fits 36 [(1, 3)] ∧ byteAt o.payload 0 ≤ 105 ∧ u.slotValid (byteAt o.payload 0) = true
        ∧ rankMissing (u.slot (byteAt o.payload 0)).attr o.port = false ∧ u.draining dCrypto = false ∧ u.domainOn dCrypto = true)
    ∧ Meets 0x5006 (fun o u => o.fits 4 [(1, 3)] ∧ byteAt o.payload 0 = 24 ∧ u.now < maxCycle)
    ∧ (({ shareA := zeros 64, shareB := zeros 64 } : Slot).shareA.length = 64) :=
  ⟨meets (filled [(105, kek)]) (order 0x5000 ([105, 0, 0, 0] ++ le 4 (7 * 2 ^ 21) ++ zeros 4)) (by decide) (by decide +kernel),
   meets live (order 0x5000 ([105, 0, 0, 0] ++ le 4 (7 * 2 ^ 21) ++ zeros 4)) (by decide) (by decide +kernel),
   meets (filled [(0, kek)]) (order 0x5001 ([0, 0, 0, 0] ++ le 4 (7 * 2 ^ 21) ++ le 2 32 ++ zeros 2 ++ zeros 32)) (by decide) (by decide +kernel),
   meets live (order 0x5001 ([0, 0, 0, 0] ++ le 4 (7 * 2 ^ 21) ++ le 2 32 ++ zeros 2 ++ zeros 32)) (by decide) (by decide +kernel),
   meets live (order 0x5002 (zeros 4)) (by decide) (by decide +kernel),
   meets (filled [(0, kek), (1, { kek with attr := kek.attr - 0x200 })]) (order 0x5002 [0, 1, 0, 0]) (by decide) (by decide +kernel),
   meets (filled [(0, { kek with attr := kek.attr + 65536 }), (1, kek)]) (order 0x5002 [0, 1, 0, 0]) (by decide) (by decide +kernel),
   meets live (order 0x5003 [106, 0, 0, 0]) (by decide) (by decide +kernel),
   meets (filled [(105, rankless)]) (order 0x5003 [105, 0, 0, 0]) (by decide) (by decide +kernel),
   meets live (order 0x5003 [105, 0, 0, 0]) (by decide) (by decide +kernel),
   meets (filled [(105, kek)]) (order 0x5003 [105, 0, 0, 0]) (by decide) (by decide +kernel),
   meets live (order 0x5004 [127, 0, 0, 0]) (by decide) (by decide +kernel),
   meets (filled [(0, kek)]) (order 0x5005 (zeros 36)) (by decide) (by decide +kernel),
   meets live (order 0x5006 [24, 0, 0, 0]) (by decide) (by decide +kernel), by decide⟩

/-- The premises of the wrapped-import clause but whether its blob opens. -/
def importsWrapped (o : Outstanding) (u : State) : Prop :=
  (12 ≤ o.payload.length ∧ byteAt o.payload 0 = 0 ∧ byteAt o.payload 1 = 1 ∧ byteAt o.payload 2 = 1 ∧ byteAt o.payload 3 = 0
    ∧ u32 o.payload 4 &&& 0x13FFC = u32 o.payload 4 ∧ o.fits (12 + u16 o.payload 8) [(10, 2)] ∧ blobFault (o.payload.drop 12) = none
    ∧ u16 (o.payload.drop 12) 20 = 32 ∧ destReserved (u32 o.payload 4) = false)
  ∧ u.slotTaken 0 = false ∧ u.slotValid 1 = true ∧ rankMissing (u.slot 1).attr o.port = false ∧ kekUsable (u.slot 1).attr = true ∧ u.unopposed [objSlot 0]

def blobOpens (o : Outstanding) (u : State) : Option Bytes :=
  gcmOpen (u.slotKey 1) (slice (o.payload.drop 12) 8 12) ((o.payload.drop 12).take 24) (slice (o.payload.drop 12) 24 32) ((o.payload.drop 12).drop (24 + 32))

/-- The tag that GCM gives the blob, and another. -/
def goodTag : Bytes := gcmTag ((filled [(1, kek)]).slotKey 1) (zeros 12) (((wrapped []).drop 12).take 24) (zeros 32)
def badTag : Bytes := goodTag.map (· + 1)

theorem goodTag_length : goodTag.length = 16 := gcmTag_length ..

theorem spread_eq (t : Bytes) (h : t.length = 16) : spread t = t := by
  apply List.ext_getElem (by simp [spread, h])
  intro i h1 h2
  simp [spread, List.getD_eq_getElem?_getD, List.getElem?_eq_getElem h2]

theorem badTag_ne : badTag ≠ goodTag := by
  have h := goodTag_length
  rw [badTag]
  cases hg : goodTag with
  | nil => rw [hg] at h; simp at h
  | cons x l =>
    intro h
    have : x + 1 = x := by simpa using congrArg (fun b => b.head?) h
    simp at this

/-- A wrapped key meets every premise of its clause with a tag that opens, and with one that does not. -/
theorem test_meets_KeyCommands_wrapped :
    Meets 0x5001 (fun o u => importsWrapped o u ∧ (blobOpens o u).isSome = true) ∧ Meets 0x5001 (fun o u => importsWrapped o u ∧ blobOpens o u = none) := by
  have e (t : Bytes) : blobOpens (order 0x5001 (wrapped t)) (turn (order 0x5001 (wrapped t)) (filled [(1, kek)]))
      = gcmOpen ((filled [(1, kek)]).slotKey 1) (zeros 12) (((wrapped []).drop 12).take 24) (zeros 32) (spread t) := rfl
  refine ⟨meets (filled [(1, kek)]) (order 0x5001 (wrapped goodTag)) (by rfl) ⟨by unfold importsWrapped; decide +kernel, ?_⟩,
    meets (filled [(1, kek)]) (order 0x5001 (wrapped badTag)) (by rfl) ⟨by unfold importsWrapped; decide +kernel, ?_⟩⟩
  · rw [e, spread_eq _ goodTag_length, gcmOpen, ← goodTag, if_pos rfl]; rfl
  · rw [e, spread_eq _ (by simp [badTag, goodTag_length]), gcmOpen, ← goodTag, if_neg badTag_ne]

/-- `live` with jobs, and a hash job of three bytes. -/
def jobbed (js : List (Nat × Job)) : State := { live with cry := { live.cry with jobs := js } }
def hashJob (started : Option Nat := none) : Job :=
  { cmd := some { port := .mb0, session := 0, tag := 3 }, alg := 0x11, engine := 3, data := [1, 2, 3], accepted := 999000, started := started }
def aesJob : Job := { hashJob with alg := 1, keySlot := 1, engine := 0 }
/-- A CRY.SUBMIT of that hash. -/
def submitHash : Bytes := patch 35 [(0, [0x11, 0, 0xFF, 0, 0xFF]), (16, le 4 3), (32, [1, 2, 3])]

theorem test_meets_CryptoJobs :
    let submits (o : Outstanding) : Prop :=
      descriptorFault o.port o.payload = none ∧ byteAt o.payload 3 = 0 ∧ byteAt o.payload 0 ∈ [0x10, 0x11, 0x12, 0x13, 0x14]
        ∧ paramSuits (byteAt o.payload 0) (byteAt o.payload 1) ((o.payload.drop 32).take (u16 o.payload 12)) = true
    Meets 0x6000 (fun o u => submits o ∧ u.draining dCrypto = false ∧ u.domainOn dCrypto = false)
    ∧ Meets 0x6000 (fun o u => submits o ∧ u.draining dCrypto = false ∧ u.domainOn dCrypto = true ∧ o.port ≠ .kpr
        ∧ u.freeJobSlot [0, 1, 2, 3, 4, 5] = some 0 ∧ u.cry.waiting = [] ∧ u.unopposed [])
    ∧ Meets 0x6000 (fun o u => submits o ∧ u.draining dCrypto = false ∧ u.domainOn dCrypto = true ∧ o.port ≠ .kpr
        ∧ u.freeJobSlot [0, 1, 2, 3, 4, 5] = none)
    ∧ (let s := jobbed [(0, hashJob)]
       tfind s.cry.jobs 0 = some hashJob ∧ hashJob.started = none ∧ s.startEngine hashJob = some 3 ∧ (hashJob.cmd.isSome && algKeyed hashJob.alg hashJob.op) = false)
    ∧ (let s := jobbed [(0, aesJob)]
       tfind s.cry.jobs 0 = some aesJob ∧ s.startEngine aesJob = some 1 ∧ (aesJob.cmd.isSome && algKeyed aesJob.alg aesJob.op) = true ∧ s.slotValid 1 = false
         ∧ { s with flc := { s.flc with slots := [(1, kek)] } }.slotValid 1 = true)
    ∧ (let s := jobbed [(0, hashJob), (1, hashJob (some 999999))]; tfind s.cry.jobs 0 = some hashJob ∧ s.startEngine hashJob = none)
    ∧ (let s := jobbed [(1, hashJob (some 999999))]
       tfind s.cry.jobs 1 = some (hashJob (some 999999)) ∧ hashJob.cmd.isSome = true ∧ (jobCycles 0x11 0 (bits (s.slot 0xFF).attr 24 21) [] 3).isSome = true
         ∧ s.draining dCrypto = false ∧ hashJob.draws = false)
    ∧ (let j : Job := { hashJob (some 999999) with alg := 0x20, engine := 4 }
       let s := { live with cry := { jobs := [(1, j)] } }
       tfind s.cry.jobs 1 = some j ∧ j.draws = true ∧ s.drbgReady = false ∧ s.draining dCrypto = false
         ∧ (jobCycles 0x20 0 (bits (s.slot 0xFF).attr 24 21) [] 3).isSome = true)
    ∧ Meets 0x6001 (fun o u => o.fits 4 [(2, 2)] ∧ u.findJob o (u16 o.payload 0) = none)
    ∧ Meets 0x6001 (fun o u => o.fits 4 [(2, 2)] ∧ u.findJob o (u16 o.payload 0) = some (1, hashJob (some 999999)))
    ∧ Meets 0x6002 (fun o u => o.fits 4 [(2, 2)] ∧ u.findJob o (u16 o.payload 0) = none)
    ∧ (∀ e ∈ [none, some 1000000], Meets 0x6002 (fun o u => o.fits 4 [(2, 2)] ∧ u.findJob o (u16 o.payload 0) = some (1, hashJob e)
        ∧ u.jobOver (hashJob e) = false))
    ∧ (let s := wired dCrypto { condition := .drain, timer := 1000500 }; s.draining dCrypto = true ∧ (s.domain dCrypto).drop = none ∧ live.draining dCrypto = false) :=
  ⟨meets (wired dCrypto {}) (order 0x6000 submitHash) (by decide) (by decide +kernel), meets live (order 0x6000 submitHash) (by decide) (by decide +kernel),
   meets (jobbed ((List.range 6).map fun k => (k, hashJob))) (order 0x6000 submitHash) (by decide) (by decide +kernel),
   by decide +kernel, by decide +kernel, by decide +kernel, by decide +kernel, by decide +kernel, meets live (order 0x6001 (zeros 4)) (by decide) (by decide +kernel),
   meets (jobbed [(1, hashJob (some 999999))]) (order 0x6001 [3, 0, 0, 0]) (by decide) (by decide +kernel),
   meets live (order 0x6002 (zeros 4)) (by decide) (by decide +kernel),
   fun e he => by
     obtain rfl | rfl : e = none ∨ e = some 1000000 := by simpa using he
     · exact meets (jobbed [(1, hashJob)]) (order 0x6002 [3, 0, 0, 0]) (by decide) (by decide +kernel)
     · exact meets (jobbed [(1, hashJob (some 1000000))]) (order 0x6002 [3, 0, 0, 0]) (by decide) (by decide +kernel),
   by decide +kernel⟩

/-- `live` with the crypto cluster's record as given. -/
def noisy (c : Crypto) : State := { live with cry := c }

theorem test_meets_Randomness :
    let asks (o : Outstanding) : Prop := o.fits 4 [(3, 1)] ∧ u16 o.payload 0 = 4096 ∧ byteAt o.payload 2 = 0
    Meets 0x6003 (fun o u => asks o ∧ u.drbgReady = false)
    ∧ Meets 0x6003 (fun o u => asks o ∧ u.drbgReady = true ∧ u.reseedDue = true ∧ u.cry.pool = [])
    ∧ Meets 0x6003 (fun o u => asks o ∧ u.drbgReady = true ∧ u.reseedDue = false)
    ∧ Meets 0x6004 (fun o _ => o.fits 0 [])
    ∧ { live with clk := { live.clk with running := false } }.clk.running = false ∧ live.clk.running = true
    ∧ (let raw := List.replicate 128 0x55#8
       (repetition (rawBits raw) false 0 0).2.2 = 0 ∧ proportionFails (rawBits raw) = false ∧ proportionFails (rawBits (zeros 128)) = true)
    ∧ (let s := noisy { live.cry with pool := [zeros 48, zeros 48], discardRun := 2, requests := 1024 }
       s.cry.es = 1 ∧ 2 ≤ s.cry.pool.length ∧ live.cry.pool.length < 2 ∧ 2 ≤ s.cry.discardRun ∧ s.drbgReady = true ∧ s.reseedDue = true)
    ∧ (noisy { es := 2, retries := 7 }).cry.es = 2 ∧ (noisy { es := 2 }).drbgReady = false :=
  ⟨meets (noisy { es := 2, drbg := 2 }) (order 0x6003 [0, 16, 0, 0]) (by decide) (by decide +kernel),
   meets (noisy { live.cry with requests := 1024 }) (order 0x6003 [0, 16, 0, 0]) (by decide) (by decide +kernel),
   meets live (order 0x6003 [0, 16, 0, 0]) (by decide) (by decide +kernel), meets live (order 0x6004 []) (by decide) (by decide +kernel),
   by decide +kernel⟩

/-! ## Chapters 10 and 11: the Warden -/

/-- `live` with platform 0 released and its port in RUN as given; a page program that waits, and an operation of it. -/
def served (q : WPort := {}) : State := plated { released := true } { q with phase := 4 }
def program : Captured := { opcode := 2, cls := 1, addr := 0x1000, addrBytes := 3, data := [7], erase := 0, old := false, edge := 999000 }
def own : OwnOp := { cmd := program, start := 999001, release := 999100 }
/-- A TYPE 1 descriptor over a range that decides each class alike in RUN, and a TYPE 2 descriptor. -/
def ranges (base limit f : Nat) : Bytes := le 4 base ++ le 4 limit ++ [1, 0] ++ le 2 0 ++ le 2 (f * 0x54) ++ zeros 2
def classes (f : Nat) : Bytes := zeros 8 ++ [2, 0] ++ le 2 0 ++ le 2 f ++ zeros 2

theorem test_meets_WardenDecisions :
    let t := [(0, ranges 0x1000 0x1FFF 1), (1, ranges 0 0xFFFFFF 2), (9, classes 1)]
    let holds (a : Nat) (d : Bytes) : Prop := dType d = 1 ∧ dBase d ≤ a ∧ a ≤ dLimit d
    t.Pairwise (fun x y => x.1 < y.1)
    ∧ (∀ e ∈ t, ¬holds 0x1000000 e.2) ∧ holds 0x1FFF (ranges 0x1000 0x1FFF 1)
    ∧ (holds 0x2000 (ranges 0 0xFFFFFF 2) ∧ ∀ e ∈ t, e.1 < 1 → ¬holds 0x2000 e.2)
    ∧ (∀ e ∈ t.take 2, dType e.2 ≠ 2) ∧ dType (classes 1) = 2 ∧ ∀ e ∈ t, dType e.2 = 2 → e = (9, classes 1) := by decide +kernel

theorem test_meets_HostCommands :
    let b := live.portBody 0
    live.hostServed 0 = false ∧ (served).hostServed 0 = true ∧ overspeed b 1000000 = false ∧ shapeOf b 0 = none ∧ wProto b < 2 ∧ ((served).wport 0).dead = false
    ∧ (shapeOf b 0x9F).map Shape.kind = some .answer ∧ (shapeOf b 0x06).map Shape.kind = some .swallow ∧ (shapeOf b 0x02).map Shape.kind = some .capture
    ∧ (shapeOf b 0x03).map Shape.kind = some .passData ∧ (shapeOf b 0x4B).map Shape.kind = some .passReg ∧ (∀ x ∈ [0x9F, 0x06, 0x02, 0x03, 0x4B], guardLate b x 5000 = false)
    ∧ (live.wport 3).undecided = none
    ∧ (let s := served { undecided := some program }
       (s.wport 0).undecided = some program ∧ (s.modPort 0 fun q => { q with undecided := none }).decision 0 program = 0)
    ∧ (let s := served { undecided := some program, live := [(0, ranges 0 0xFFFFFF 1)] }
       (s.modPort 0 fun q => { q with undecided := none }).decision 0 program = 1)
    ∧ { live with links := [] }.inSession 0 = false ∧ (alarmed live).redFlag = true := by decide +kernel

theorem test_meets_OwnOperations :
    (live.wport 0).allowed = none ∧ ((served { allowed := some program }).wport 0).allowed = some program ∧ program.edge < maxCycle
    ∧ (let s := served { op := some own }
       (s.wport 0).op = some own ∧ own.ready = none
         ∧ own.release + 4096 * (own.polls + 1) + sckCycles (s.portBody 0) (sckPeriods (s.portBody 0) ((builtin 0 0x05).map Prod.snd |>.getD { kind := .answer }) 1)
             < s.busyDeadline 0 own)
    ∧ (let o := { own with polls := 2 ^ 24 }
       let s := served { op := some o }
       (s.wport 0).op = some o ∧ s.busyDeadline 0 o ≤ o.release + 4096 * (o.polls + 1) ∧ (1#8).getLsbD 0 = true)
    ∧ (let o := { own with ready := some 1000100 }
       ((served { op := some o }).wport 0).op = some o ∧ o.failed = false ∧ o.cmd.cls ≠ 4 ∧ o.cmd.cls ≠ 7)
    ∧ (live.wport 0).op = none
    ∧ (let g := ownRange tPort 256 program; ¬(g.1 ≤ 0xFFF ∧ 0xFFF < g.1 + g.2) ∧ ¬(g.1 ≤ 0x1100 ∧ 0x1100 < g.1 + g.2) ∧ g = (0x1000, 256)) := by decide +kernel

theorem test_meets_WardenTables :
    let at0 (o : Outstanding) (u : State) : Prop := byteAt o.payload 0 = 0 ∧ u.portDeclared 0 = true ∧ u.inSession 0 = true
    let sets (o : Outstanding) (u : State) : Prop := at0 o u ∧ o.fits 20 [(2, 2)]
    let fault (o : Outstanding) (u : State) := regionFault false (wLog2 (u.portBody 0)) (slice o.payload 4 16)
    Meets 0x3001 (fun o u => sets o u ∧ (u.wport 0).retires = true)
    ∧ Meets 0x3001 (fun o u => sets o u ∧ (u.wport 0).retires = false ∧ fault o u = some 0)
    ∧ Meets 0x3001 (fun o u => sets o u ∧ (u.wport 0).retires = false ∧ fault o u = none ∧ dType (slice o.payload 4 16) = 2
        ∧ ∃ e ∈ (u.wport 0).shadow, dType e.2 = 2 ∧ e.1 ≠ byteAt o.payload 1)
    ∧ Meets 0x3001 (fun o u => sets o u ∧ (u.wport 0).retires = false ∧ fault o u = none ∧ dType (slice o.payload 4 16) ≠ 2
        ∧ u.unopposed [objDescriptor 0 (byteAt o.payload 1)])
    ∧ Meets 0x3002 (fun o u => at0 o u ∧ o.fits 4 [(1, 3)] ∧ (u.wport 0).retires = true ∧ u.unopposed [objCommit 0])
    ∧ Meets 0x3002 (fun o u => at0 o u ∧ o.fits 4 [(1, 3)] ∧ (u.wport 0).retires = false ∧ u.unopposed [objCommit 0])
    ∧ Meets 0x3000 (fun o u => at0 o u ∧ o.fits 4 [(1, 3)] ∧ (u.wport 0).review = none)
    ∧ Meets 0x3006 (fun o u => at0 o u ∧ o.fits 8 [(1, 1), (6, 2)] ∧ u16 o.payload 2 = 0 ∧ u16 o.payload 4 = 256 ∧ (u.wport 0).holdDone = true)
    ∧ Meets 0x3004 (fun o u => at0 o u ∧ o.fits 4 [(1, 3)])
    ∧ (let s (q : WPort) := plated {} q
       let bound : WPort := { retiring := true, undecided := some { program with old := true } }
       ((s { retiring := true }).wport 0).retiring = true ∧ ((s { retiring := true }).wport 0).oldBound = false ∧ ((s bound).wport 0).retiring = true
         ∧ ((s bound).wport 0).oldBound = true ∧ ((s { copying := some 1000512 }).wport 0).copying = some 1000512 ∧ (live.wport 4).copying = none) :=
  ⟨meets (plated {} { retiring := true }) (order 0x3001 (zeros 20)) (by decide) (by decide +kernel),
   meets live (order 0x3001 (zeros 4 ++ ranges 1 0xFFF 1)) (by decide) (by decide +kernel),
   meets (plated {} { shadow := [(255, classes 1)] }) (order 0x3001 (zeros 4 ++ classes 1)) (by decide) (by decide +kernel),
   meets live (order 0x3001 ([0, 255, 0, 0] ++ ranges 0 0xFFFFFF 1)) (by decide) (by decide +kernel),
   meets (plated {} { copying := some 1000001 }) (order 0x3002 (zeros 4)) (by decide) (by decide +kernel),
   meets live (order 0x3002 (zeros 4)) (by decide) (by decide +kernel), meets live (order 0x3000 (zeros 4)) (by decide) (by decide +kernel),
   meets (plated {} { holdDone := true }) (order 0x3006 (zeros 4 ++ le 2 256 ++ zeros 2)) (by decide) (by decide +kernel),
   meets live (order 0x3004 (zeros 4)) (by decide) (by decide +kernel), by decide +kernel⟩

/-- A port with review 5 open until a cycle. -/
def reviewed (deadline : Nat) : State := served { review := some { cmd := program, addr := 0x1000, deadline := deadline }, reviewNo := 5 }

theorem test_meets_WardenReviews :
    let answers (o : Outstanding) (u : State) : Prop :=
      o.fits 4 [] ∧ byteAt o.payload 0 = 0 ∧ byteAt o.payload 1 ≤ 1 ∧ u.portDeclared 0 = true ∧ u.inSession 0 = true
        ∧ (byteAt o.payload 1 = 1 → u.redRefuses o = false) ∧ u.unopposed (objReview 0 (u16 o.payload 2) :: if byteAt o.payload 1 = 1 then o.lockObjs else [])
    let opens (u : State) (d : Nat) : Prop := (u.wport 0).review = some { cmd := program, addr := 0x1000, deadline := d }
    Meets 0x3003 (fun o u => answers o u ∧ opens u u.relayEdge ∧ (u.wport 0).reviewNo = u16 o.payload 2)
    ∧ (∀ a : Byte, a ∈ [0, 1] → Meets 0x3003 (fun o u => answers o u ∧ opens u (u.relayEdge + 1) ∧ (u.wport 0).reviewNo = u16 o.payload 2
        ∧ byteAt o.payload 1 = a.toNat))
    ∧ Meets 0x3003 (fun o u => answers o u ∧ opens u (u.relayEdge + 1) ∧ (u.wport 0).reviewNo ≠ u16 o.payload 2)
    ∧ Meets 0x3003 (fun o u => answers o u ∧ (u.wport 0).review = none ∧ (u.wport 0).reviewNo = u16 o.payload 2 ∧ (u.wport 0).reviewExpired = true
        ∧ u16 o.payload 2 ≠ 0)
    ∧ Meets 0x3003 (fun o u => answers o u ∧ (u.wport 0).review = none ∧ (u.wport 0).reviewNo ≠ u16 o.payload 2)
    ∧ (let s := reviewed 1000100; (s.wport 0).review.isSome = true ∧ (s.wport 0).held = none ∧ (live.wport 0).review = none) :=
  ⟨meets (reviewed 1000031) (order 0x3003 [0, 1, 5, 0]) (by decide) (by decide +kernel),
   fun a ha => by
     obtain rfl | rfl : a = 0 ∨ a = 1 := by simpa using ha
     · exact meets (reviewed 1000032) (order 0x3003 [0, 0, 5, 0]) (by decide) (by decide +kernel)
     · exact meets (reviewed 1000032) (order 0x3003 [0, 1, 5, 0]) (by decide) (by decide +kernel),
   meets (reviewed 1000032) (order 0x3003 [0, 1, 4, 0]) (by decide) (by decide +kernel),
   meets (served { reviewNo := 5, reviewExpired := true }) (order 0x3003 [0, 1, 5, 0]) (by decide) (by decide +kernel),
   meets (served { reviewNo := 5, reviewExpired := true }) (order 0x3003 [0, 1, 4, 0]) (by decide) (by decide +kernel), by decide +kernel⟩

/-! ## Chapter 12: mending and attesting -/

/-- A recovery of platform 0, and `live` with Warden R's part of the record as given and a golden index in platform 0's image. -/
def mending : Recovery := { plat := 0, image := 0, policy := 2, edge := 999000, ticket := some 1, start := 999500 }
def mended (f : Warden → Warden) : State :=
  let x := plated { images := [(0, { final := true })] } { phase := 1 }
  let b := tBoot 0
  { x with wdn := f x.wdn, frm := { x.frm with applied := some { sections := ⟨0x0A, 0, b.take 84 ++ [3] ++ b.drop 85⟩ :: tFormula.sections } } }

theorem test_meets_Recoveries :
    let mends (o : Outstanding) (u : State) : Prop :=
      o.fits 4 [(3, 1)] ∧ byteAt o.payload 0 = 0 ∧ byteAt o.payload 2 = 1 ∧ u.hasBoot 0 = true ∧ byteAt o.payload 1 < u.imageCount 0
        ∧ iGolden (u.imageRec 0 0) ≠ 0xFF ∧ byteAt o.payload 1 = 0 ∧ u.portDeclared 4 = true ∧ u.flc.closed = true
    live.wdn.queue = [] ∧ (mended fun w => { w with running := some mending }).wardenRBusy = true ∧ { live with links := [] }.inSession 0 = false
    ∧ (mended fun w => { w with runners := [{ plat := 0, image := 0, port := 0, addr := 0, span := 0, base := 0, windowLog2 := 16, pinAddr := 0, pinLen := 0,
                                              inForce := true }] }).lockstep = true
    ∧ { live with frm := { live.frm with activating := true } }.restarting = true
    ∧ (let s := mended fun w => { w with queue := [mending] }
       nextRecovery s.wdn.queue = some mending ∧ mending.policy ≠ 1 ∧ mending.ticket.isSome = true ∧ s.wardenRBusy = false ∧ s.log.store.writing = none
         ∧ s.inSession 0 = true ∧ s.domainOn (dWarden 4) = true ∧ s.lockstep = false ∧ s.restarting = false)
    ∧ live.wdn.running = none
    ∧ (let s := mended fun w => { w with running := some mending }
       s.wdn.running = some mending ∧ s.now < mending.start + 2 ^ 38 ∧ mending.stopped = 0 ∧ mending.lost = false
         ∧ s.golden (iGolden (s.imageRec mending.plat mending.image)) = none ∧ mending.start + 2 ^ 38 ≤ { s.clk with now := 999500 + 2 ^ 38 }.now)
    ∧ Meets 0x8001 (fun o u => mends o u ∧ u.redRefuses o = true ∧ u.unopposed (objReset 0 :: o.lockObjs))
    ∧ Meets 0x8001 (fun o u => mends o u ∧ u.redRefuses o = false ∧ (u.wport (u.bootPort 0)).phase = 1 ∧ u.imagesFinal 0 = true ∧ u.heldLow 0 = true
        ∧ u.wardenRBusy = false ∧ u.wdn.queue = [] ∧ (u.wdn.runners.any fun x => x.plat ≠ 0) = false ∧ u.boot.log.length < 255 ∧ u.draining dCrypto = false ∧ u.domainOn dCrypto = true
        ∧ u.unopposed (objReset 0 :: o.lockObjs))
    ∧ Meets 0x8000 (fun o u => o.fits 4 [(1, 3)] ∧ byteAt o.payload 0 = 0 ∧ u.hasBoot 0 = true ∧ u.imageCount 0 = 0 ∧ u.wdn.dirValid = false)
    ∧ Meets 0x8000 (fun o u => o.fits 4 [(1, 3)] ∧ byteAt o.payload 0 = 3 ∧ u.hasBoot 3 = false)
    ∧ Meets 0x8004 (fun o _ => o.fits 0 []) :=
  ⟨rfl, by decide +kernel, by decide +kernel, by decide +kernel, by decide +kernel, by decide +kernel, rfl, by decide +kernel,
   meets (alarmed (mended id)) (order 0x8001 [0, 0, 1, 0]) (by decide) (by decide +kernel),
   meets (mended id) (order 0x8001 [0, 0, 1, 0]) (by decide) (by decide +kernel),
   meets { live with frm := { live.frm with applied := some { sections := ⟨0x0A, 0, zeros 96⟩ :: tFormula.sections } } } (order 0x8000 (zeros 4)) (by decide)
     (by decide +kernel),
   meets { live with frm := { live.frm with applied := some {} } } (order 0x8000 [3, 0, 0, 0]) (by decide) (by decide +kernel),
   meets live (order 0x8004 []) (by decide) (by decide +kernel)⟩

/-- `live` where Warden R's table allows every class in all of the recovery flash. -/
def openFlash : State := { live with wdn := { live.wdn with ports := [(4, { live := [(0, ranges 0 0xFFFFFF 1)] })] } }
/-- The payloads of an ERASE of a window of 64 KiB at 2 MiB, of the Keeper's window, and of an INSTALL of the image whose digest is zero. -/
def eraseGolden : Bytes := patch 20 [(10, [16]), (16, le 4 0x200000)]
def installIt : Bytes := patch 60 [(8, [2])]

theorem test_meets_RecoveryUpdates :
    let golden (o : Outstanding) (u : State) : Prop :=
      o.fits 20 [(0, 4), (8, 2), (11, 5)] ∧ 16 ≤ byteAt o.payload 10 ∧ byteAt o.payload 10 ≤ 28 ∧ u.portDeclared 4 = true ∧ u.flc.closed = true
    let erases (o : Outstanding) (u : State) : Prop :=
      golden o u ∧ u.wardenRTaken = false ∧ u32 o.payload 16 % 2 ^ byteAt o.payload 10 = 0 ∧ 0x200000 ≤ u32 o.payload 16
        ∧ u32 o.payload 16 + 2 ^ byteAt o.payload 10 ≤ u.recoverySize ∧ u.windowTaken (fun _ => true) (u32 o.payload 16) (2 ^ byteAt o.payload 10) = false
        ∧ u.inSession 0 = true
    let keeper (u : State) : Prop :=
      u.portDeclared 4 = true ∧ u.flc.closed = true ∧ u.wdn.running = none ∧ u.wdn.queue = [] ∧ u.wdn.runners = [] ∧ u.wdn.install = none
    let allows (o : Outstanding) (u : State) := u.readDirectory.recoveryAllows 2 (u32 o.payload 16) (2 ^ byteAt o.payload 10)
    let allowsK (u : State) := (u.readDirectory.modWdn fun w => { w with staged := none }).recoveryAllows 2 0x100000 0x100000
    Meets 0x8002 (fun o u => golden o u ∧ u.wardenRTaken = true)
    ∧ Meets 0x8002 (fun o u => erases o u ∧ allows o u = false) ∧ Meets 0x8002 (fun o u => erases o u ∧ allows o u = true)
    ∧ Meets 0x8003 (fun o u => o.fits 12 [(0, 4), (8, 4)] ∧ keeper u ∧ u.inSession 0 = true ∧ allowsK u = false)
    ∧ Meets 0x8003 (fun o u => o.fits 12 [(0, 4), (8, 4)] ∧ keeper u ∧ u.inSession 0 = true ∧ allowsK u = true)
    ∧ Meets 0x8003 (fun o u => o.fits 60 [(0, 4), (9, 3)] ∧ byteAt o.payload 8 = 2 ∧ keeper u ∧ u.wdn.staged = none)
    ∧ Meets 0x8003 (fun o u => o.fits 60 [(0, 4), (9, 3)] ∧ byteAt o.payload 8 = 2 ∧ keeper u ∧ u.wdn.staged = some (1, slice o.payload 12 48)
        ∧ u.inSession 0 = true ∧ u.draining dCrypto = false ∧ u.domainOn dCrypto = true) :=
  ⟨meets (mended fun w => { w with queue := [mending] }) (order 0x8002 eraseGolden) (by decide) (by decide +kernel),
   meets live (order 0x8002 eraseGolden) (by decide) (by decide +kernel), meets openFlash (order 0x8002 eraseGolden) (by decide) (by decide +kernel),
   meets live (order 0x8003 (zeros 12)) (by decide) (by decide +kernel), meets openFlash (order 0x8003 (zeros 12)) (by decide) (by decide +kernel),
   meets live (order 0x8003 installIt) (by decide) (by decide +kernel),
   meets { live with wdn := { live.wdn with staged := some (1, zeros 48) } } (order 0x8003 installIt) (by decide) (by decide +kernel)⟩

theorem test_meets_Attestation :
    let spdm (o : Outstanding) (u : State) :=
      (u.draw 32).2.spdmAnswer o.payload (u.draw 32).1 (tget {} u.wdn.spdm (o.port.index * 8 + o.session))
    Meets 0x7000 (fun o u => o.fits 32 [] ∧ u.draining dCrypto = false ∧ u.domainOn dCrypto = true)
    ∧ Meets 0x7000 (fun o u => o.fits 32 [] ∧ u.draining dCrypto = false ∧ u.domainOn dCrypto = false)
    ∧ Meets 0x7001 (fun o _ => o.fits 8 [(0, 4)])
    ∧ Meets 0x7002 (fun o u => o.fits 12 [(0, 4), (9, 3)] ∧ byteAt o.payload 8 = 3 ∧ u.flc.closed = false)
    ∧ Meets 0x7002 (fun o u => o.fits 12 [(0, 4), (9, 3)] ∧ byteAt o.payload 8 = 3 ∧ u.flc.closed = true)
    ∧ Meets 0x7002 (fun o _ => o.fits 12 [(0, 4), (9, 3)] ∧ byteAt o.payload 8 = 4)
    ∧ Meets 0x7003 (fun _ u => u.featureOff 3 = true)
    ∧ Meets 0x7003 (fun o u => u.featureOff 3 = false ∧ (spdm o u).signed = none)
    ∧ Meets 0x7003 (fun o u => u.featureOff 3 = false ∧ (spdm o u).signed.isSome = true ∧ u.draining dCrypto = false ∧ u.domainOn dCrypto = true) :=
  ⟨meets live (order 0x7000 (zeros 32)) (by decide) (by decide +kernel), meets (wired dCrypto {}) (order 0x7000 (zeros 32)) (by decide) (by decide +kernel),
   meets live (order 0x7001 (zeros 8)) (by decide) (by decide +kernel),
   meets { live with flc := {} } (order 0x7002 (patch 12 [(8, [3])])) (by decide) (by decide +kernel),
   meets live (order 0x7002 (patch 12 [(8, [3])])) (by decide) (by decide +kernel), meets live (order 0x7002 (patch 12 [(8, [4])])) (by decide) (by decide +kernel),
   meets (fused [(0x40, 8)] []) (order 0x7003 (zeros 4)) (by decide) (by decide +kernel),
   meets live (order 0x7003 (zeros 4)) (by decide) (by decide +kernel),
   meets { live with wdn := { live.wdn with spdm := [(32, { stage := 3 })] } } (order 0x7003 (patch 36 [(0, [0x12, 0x83])])) (by decide) (by decide +kernel)⟩

/-! ## Values that the spec works out -/

/-- R99: the check value of the CRC. -/
theorem test_crc_check : crc32c (ascii "123456789") = 0xE3069283 := by decide +kernel

/-- Worked example 3.1: the request frame of SYS.GET_VERSION with TAG 0x0031, before its CRC. -/
theorem test_frame_bytes : ({ opcode := 2, flags := 0, status := 0, tag := 0x31, payload := [] } : Frame).bytes = [2, 0, 0, 0, 0, 0, 0x31, 0] := by decide

/-- R120: a packet's COBS encoding has no zero but its delimiter, and decodes to the packet. -/
theorem test_cobs : svcPack 0 [2, 0, 3] = [1, 2, 2, 2, 3, 0] ∧ cobsDecode 9 [1, 2, 2, 2, 3] = some [0, 2, 0, 3] := by decide +kernel

/-- Worked example 5.1: a counter of three steps, its torn fourth, the bits of a bump to 5, and the hole. -/
theorem test_thermometer :
    thermoValue 0x3F = 3 ∧ thermoValue 0x7F = 4 ∧ stepTorn 0x7F 3 = true ∧ thermoHole 0x7F = false ∧ thermoHole 0x33F = true
    ∧ (bumpWords true 0x108 0x7F 5).map (fun w => (w.addr, w.data)) = [(0x108, 0x80), (0x108, 0x100), (0x108, 0x200)] := by decide +kernel

/-- Worked example 8.1: an AES-256-GCM job of 4 000 bytes, and an ECDSA P-384 signature. -/
theorem test_job_cycles : jobCycles 4 0 7 (zeros 28) 4000 = some 3804 ∧ jobCycles 0x21 0 11 [] 48 = some 420016 := by decide +kernel

/-- Worked example 10.1: a page program 34h of 256 bytes with 4 address bytes takes 552 periods, at 80 MHz 4 140 cycles; a poll takes 120. -/
theorem test_quad_program :
    let b := patch 64 [(1, [4]), (4, le 4 80000)]
    (builtin 0 0x34).map (fun x => sckPeriods b x.2 256) = some 552 ∧ sckCycles b 552 = 4140 ∧ sckCycles b 16 = 120 := by decide +kernel

/-- Worked example 13.1: the Lane program of a quad read takes 552 periods. -/
theorem test_lane_entry :
    entPeriods [0, 0, 6, 0, 4, 0, 0x23, 1, 8, 0, 0, 0, 0x18, 0, 0, 0, 8, 0x80, 1, 0, 0, 0xC8, 0, 0, 0, 0, 0, 0, 0, 1, 0, 0] = 552 := by decide +kernel

end Sys2Proof.Tests
end

section
/-! SUPPORT. The Steward watchdog (R52, R54): what an expiry does to the cores, what a kick does on the terminal edge and before it, and
the statement about both. -/

namespace Sys2Proof.Machine

/-! ## The present edge -/

@[simp] theorem modStw_now (f : StewardPort → StewardPort) (s : State) : (s.modStw f).now = s.now := rfl

/-! ## Records on their way to the Sillage -/

/-- Whether records are kept rests on the fuses and the power state alone. -/
theorem recording_eq_of_fus_pwr {s t : State} (hfus : t.fus = s.fus) (hpwr : t.pwr = s.pwr) : t.recording = s.recording := by
  simp only [State.recording, hfus, hpwr]

theorem putRec_flight {s : State} (h : s.recording = true) (r : Rec) :
    (s.putRec r).log.entry.flight = s.log.entry.flight ++ [(r.cycle + entryDelay r.slot, r)] := by
  simp [State.putRec, h]

/-- A late event puts one record of its slot, flagged LATE_AT_EXPIRY, behind those on their way. -/
theorem eventLate_flight {s : State} (h : s.recording = true) (slot src code a0 a1 a2 : Nat) :
    ∃ e x, (s.eventLate slot src code a0 a1 a2).log.entry.flight = s.log.entry.flight ++ [(e, x)] ∧ x.late = true ∧ x.slot = slot :=
  ⟨_, _, putRec_flight h _, rfl, rfl⟩

/-- A write that leaves every reserved bit zero logs nothing (R15). -/
@[simp] theorem logReserved_zero (core : CoreId) (addr : Nat) (s : State) : s.logReserved core addr 0 = s := if_pos rfl

/-! ## The expiry -/

/-- The edges of the expiries of the window of 2^30 cycles that ends with an expiry on the present edge, that one included. -/
def State.wdogRecent (s : State) : List Nat := (s.cores.expiries.filter fun t => s.now < t + 2 ^ 30) ++ [s.now]

/-- An expiry that is not yet the fourth of its window restarts the count (R52). -/
theorem wdogExpires_cores_restarts {s : State} (h : s.wdogRecent.length < 4) :
    s.wdogExpires.cores = { s.cores with expiries := s.wdogRecent, wdogStart := some s.now } := by
  have h4 : ¬ 4 ≤ s.wdogRecent.length := by omega
  simp only [State.wdogRecent] at h4 ⊢
  simp only [State.wdogExpires, if_neg h4, State.modCores_cores, State.modStw_cores, event_cores, modStw_now, event_now]

/-- The fourth expiry of a window holds the Steward core (R52). -/
theorem wdogExpires_cores_holds {s : State} (h : 4 ≤ s.wdogRecent.length) :
    s.wdogExpires.cores = { s.cores with expiries := s.wdogRecent, wdogStart := none, steward := .held } := by
  simp only [State.wdogRecent] at h ⊢
  simp only [State.wdogExpires, if_pos h, State.modCores_cores, State.modStw_cores, event_cores]

@[simp] theorem wdogExpires_fus (s : State) : s.wdogExpires.fus = s.fus := by
  unfold State.wdogExpires
  dsimp only
  split <;> simp

@[simp] theorem wdogExpires_pwr (s : State) : s.wdogExpires.pwr = s.pwr := by
  unfold State.wdogExpires
  dsimp only
  split <;> simp

@[simp] theorem wdogExpires_recording (s : State) : s.wdogExpires.recording = s.recording :=
  recording_eq_of_fus_pwr (wdogExpires_fus s) (wdogExpires_pwr s)

/-- The expiry comes on the terminal edge. -/
theorem exec_stwWdogExpiry_due {s : State} (h : s.wdogDue = some s.now) : exec .stwWdogExpiry s = .next s.wdogExpires := by
  change execStwWdogExpiry s = _
  simp only [execStwWdogExpiry, h, advanceTo_le (Nat.le_refl s.now)]

/-! ## The kick -/

/-- A kick whose reserved bits are zero, with the Steward core running: late from the terminal edge on, before it a restart or a record. -/
theorem exec_stwWdogKick_byte {s : State} {value : Word} {t : Nat} (hon : s.stewardOn = true) (hbyte : value.toNat < 256)
    (hdue : s.wdogDue = some t) :
    exec (.stwWdogKick value) s = .next (
      if t ≤ s.now then s.wdogExpires.eventLate 3 0 0x0008 0 value.toNat
      else if value.toNat = 0xA5 then s.modCores fun c => { c with wdogStart := c.wdogStart.map fun _ => s.now }
      else s.event 3 0 0x0008 0 value.toNat) := by
  have hmask : value.toNat / 256 * 256 = 0 := by omega
  change execStwWdogKick value s = _
  simp only [execStwWdogKick, hon, Bool.not_true, Bool.false_eq_true, if_false, hmask, logReserved_zero, hdue, decide_eq_true_eq,
    Nat.mod_eq_of_lt hbyte]

/-- A kick on the terminal edge comes after the expiry (R54). -/
theorem exec_stwWdogKick_due {s : State} {value : Word} (hon : s.stewardOn = true) (hbyte : value.toNat < 256)
    (hdue : s.wdogDue = some s.now) :
    exec (.stwWdogKick value) s = .next (s.wdogExpires.eventLate 3 0 0x0008 0 value.toNat) := by
  rw [exec_stwWdogKick_byte hon hbyte hdue, if_pos (Nat.le_refl _)]

/-- A valid kick before the terminal edge restarts the count (R52). -/
theorem exec_stwWdogKick_valid {s : State} {value : Word} {t : Nat} (hon : s.stewardOn = true) (hbyte : value.toNat < 256)
    (hdue : s.wdogDue = some t) (hbefore : s.now < t) (hvalid : value.toNat = 0xA5) :
    exec (.stwWdogKick value) s = .next (s.modCores fun c => { c with wdogStart := c.wdogStart.map fun _ => s.now }) := by
  rw [exec_stwWdogKick_byte hon hbyte hdue, if_neg (by omega), if_pos hvalid]

/-- An invalid kick before the terminal edge is only logged (R52). -/
theorem exec_stwWdogKick_invalid {s : State} {value : Word} {t : Nat} (hon : s.stewardOn = true) (hbyte : value.toNat < 256)
    (hdue : s.wdogDue = some t) (hbefore : s.now < t) (hinvalid : value.toNat ≠ 0xA5) :
    exec (.stwWdogKick value) s = .next (s.event 3 0 0x0008 0 value.toNat) := by
  rw [exec_stwWdogKick_byte hon hbyte hdue, if_neg (by omega), if_neg hinvalid]

/-- Settles O48: the kick's equation gives each case, and on the terminal edge its record follows what the expiry left. -/
theorem stewardWatchdog : Obligations.StewardWatchdog := by
  unfold Obligations.StewardWatchdog
  intro s value
  refine ⟨fun x => ⟨wdogExpires_cores_restarts, wdogExpires_cores_holds⟩, exec_stwWdogExpiry_due, fun hon hbyte => ⟨fun hdue => ?_, ?_⟩⟩
  · refine ⟨_, exec_stwWdogKick_due hon hbyte hdue, eventLate_cores .., fun hrec => ?_⟩
    have hkept : s.wdogExpires.recording = true := by rw [wdogExpires_recording, hrec]
    exact eventLate_flight hkept ..
  · exact fun t hdue hbefore =>
      ⟨exec_stwWdogKick_valid hon hbyte hdue hbefore, exec_stwWdogKick_invalid hon hbyte hdue hbefore⟩

end Sys2Proof.Machine
end

section
/-! SUPPORT. The acceptance edge of a frame (R81): what it leaves listed for its port, and the count it comes at. -/

namespace Sys2Proof.Machine

/-- What is listed after an insertion: the new entry at its key, every other as before. -/
theorem tfind_tins {α : Type} (m : Sparse α) (i j : Nat) (w : α) :
    tfind (tins m i w) j = if j = i then some w else tfind m j := by
  induction m with
  | nil => simp only [tins, tfind, eq_comm]
  | cons c m ih =>
    obtain ⟨k, v⟩ := c
    rcases Nat.lt_trichotomy i k with hlt | rfl | hgt
    · simp only [tins, if_pos hlt, tfind, eq_comm]
    · by_cases hj : i = j <;> simp [tins, tfind, hj, eq_comm]
    · have hne : k ≠ i := by omega
      simp only [tins, if_neg (Nat.lt_asymm hgt), if_neg hne.symm, tfind, ih]
      by_cases hk : k = j
      · subst hk; simp [hne]
      · simp [hk]

/-- The first frame of a port is accepted on the present edge. -/
theorem acceptEdge_first {p : Port} {s : State} (hp : p ≠ .kpr) (h : tfind s.paths.lastAccept p.index = none) :
    s.acceptEdge p = s.modPaths fun q => { q with lastAccept := tins q.lastAccept p.index s.now } := by
  simp only [State.acceptEdge, if_neg hp, h]

/-- A later frame waits for the edge after that of the frame before it. -/
theorem acceptEdge_later {p : Port} {s : State} {e : Nat} (hp : p ≠ .kpr) (h : tfind s.paths.lastAccept p.index = some e) :
    s.acceptEdge p = (s.advanceTo (e + 1)).modPaths fun q =>
      { q with lastAccept := tins q.lastAccept p.index (s.advanceTo (e + 1)).now } := by
  simp only [State.acceptEdge, if_neg hp, h]

/-- The edge of a later frame: the present one, or the next after that of the frame before it while the count can reach it. -/
theorem acceptEdge_later_now {p : Port} {s : State} {e : Nat} (hp : p ≠ .kpr) (h : tfind s.paths.lastAccept p.index = some e) :
    (s.acceptEdge p).now = max s.now (min maxCycle (e + 1)) := by
  rw [acceptEdge_later hp h, ← advanceTo_now]
  rfl

/-- The edge is kept as its port's last. -/
theorem acceptEdge_lastAccept {p : Port} {s : State} (hp : p ≠ .kpr) :
    (s.acceptEdge p).paths.lastAccept = tins s.paths.lastAccept p.index (s.acceptEdge p).now := by
  cases h : tfind s.paths.lastAccept p.index with
  | none => rw [acceptEdge_first hp h]; rfl
  | some e => rw [acceptEdge_later hp h]; rfl

/-- Acceptance alone makes no command outstanding. -/
theorem acceptEdge_outstanding {p : Port} {s : State} (hp : p ≠ .kpr) :
    (s.acceptEdge p).paths.outstanding = s.paths.outstanding := by
  cases h : tfind s.paths.lastAccept p.index with
  | none => rw [acceptEdge_first hp h, State.modPaths_paths]
  | some e => rw [acceptEdge_later hp h, State.modPaths_paths, advanceTo_paths]

/-- Settles O9: the port's last edge is listed as the present one, and a frame after it waits for the next edge. -/
theorem oneFramePerEdge : Obligations.OneFramePerEdge := by
  unfold Obligations.OneFramePerEdge
  intro p s hp
  refine ⟨?_, fun e he hbelow => ?_, acceptEdge_outstanding hp⟩
  · rw [acceptEdge_lastAccept hp, tfind_tins, if_pos rfl]
  · rw [acceptEdge_later_now hp he]
    omega

end Sys2Proof.Machine
end

section
/-! SUPPORT. A core's read of KPR.TK_NOW_LO (R88): the word it returns and the high bits it latches. -/

namespace Sys2Proof.Machine

/-- A result handed back leaves the Timekeeper alone. -/
@[simp] theorem readResult_clk (core : CoreId) (v : Nat) (s : State) : (s.readResult core v).clk = s.clk := by
  cases core <;> rfl

@[simp] theorem readResult_keeper_readKeeper (v : Nat) (s : State) :
    (s.readResult .keeper v).cores.readKeeper = BitVec.ofNat 32 v := rfl

@[simp] theorem readResult_steward_readSteward (v : Nat) (s : State) :
    (s.readResult .steward v).cores.readSteward = BitVec.ofNat 32 v := rfl

/-- The high bits and the word handed back make up the count again. -/
theorem highBits_add_lowWord (n : Nat) : n / 2 ^ 32 * 2 ^ 32 + (BitVec.ofNat 32 (n % 2 ^ 32)).toNat = n := by
  rw [BitVec.toNat_ofNat, Nat.mod_mod, Nat.div_add_mod']

/-- The Keeper's read latches the high bits in the Keeper's copy. -/
theorem exec_tkNowLoRead_keeper {s : State} (h : s.coreRuns .keeper = true) :
    exec (.tkNowLoRead .keeper) s
      = .next ((s.modClk fun c => { c with nowHiKeeper := s.now / 2 ^ 32 }).readResult .keeper (s.now % 2 ^ 32)) := by
  change execTkNowLoRead .keeper s = _
  simp only [execTkNowLoRead, h, Bool.not_true, Bool.false_eq_true, if_false]

/-- The Steward's read latches the high bits in the Steward's copy. -/
theorem exec_tkNowLoRead_steward {s : State} (h : s.coreRuns .steward = true) :
    exec (.tkNowLoRead .steward) s
      = .next ((s.modClk fun c => { c with nowHiSteward := s.now / 2 ^ 32 }).readResult .steward (s.now % 2 ^ 32)) := by
  change execTkNowLoRead .steward s = _
  simp only [execTkNowLoRead, h, Bool.not_true, Bool.false_eq_true, if_false]

/-- Settles O49: for each core, the count split into the latched high bits and the word read, the other core's latch untouched. -/
theorem timeRead : Obligations.TimeRead := by
  unfold Obligations.TimeRead
  intro core s hruns
  cases core with
  | keeper =>
    refine ⟨_, exec_tkNowLoRead_keeper hruns, fun _ => ⟨?_, ?_⟩, nofun⟩
    · simpa using highBits_add_lowWord s.now
    · simp
  | steward =>
    refine ⟨_, exec_tkNowLoRead_steward hruns, nofun, fun _ => ⟨?_, ?_⟩⟩
    · simpa using highBits_add_lowWord s.now
    · simp

end Sys2Proof.Machine
end

section
/-! SUPPORT. The receipt of a frame (R100, Table 3.4): what the checks read on the acceptance edge, and the outcome of each step from the
first that fails. -/

namespace Sys2Proof.Machine

/-! ## What the checks read on the acceptance edge -/

/-- Acceptance moves the clock and lists the edge; it leaves everything else alone. -/
theorem acceptEdge_frame {p : Port} {s : State} (hp : p ≠ .kpr) :
    s.acceptEdge p = { s with clk := (s.acceptEdge p).clk, paths := (s.acceptEdge p).paths } := by
  cases h : tfind s.paths.lastAccept p.index with
  | none => rw [acceptEdge_first hp h]; rfl
  | some e => rw [acceptEdge_later hp h]; rfl

theorem acceptEdge_frm {p : Port} {s : State} (hp : p ≠ .kpr) : (s.acceptEdge p).frm = s.frm := by rw [acceptEdge_frame hp]

theorem acceptEdge_svc {p : Port} {s : State} (hp : p ≠ .kpr) : (s.acceptEdge p).svc = s.svc := by rw [acceptEdge_frame hp]

theorem outCount_acceptEdge {p : Port} {s : State} (hp : p ≠ .kpr) (q : Port) (n : Nat) :
    (s.acceptEdge p).outCount q n = s.outCount q n := by
  simp only [State.outCount, acceptEdge_outstanding hp]

theorem findOut_acceptEdge {p : Port} {s : State} (hp : p ≠ .kpr) (q : Port) (n tag : Nat) :
    (s.acceptEdge p).findOut q n tag = s.findOut q n tag := by
  simp only [State.findOut, acceptEdge_outstanding hp]

theorem sect_acceptEdge {p : Port} {s : State} (hp : p ≠ .kpr) (type inst : Nat) :
    (s.acceptEdge p).sect type inst = s.sect type inst := by
  rw [State.sect, acceptEdge_frm hp]; rfl

theorem hasSect_acceptEdge {p : Port} {s : State} (hp : p ≠ .kpr) (type inst : Nat) :
    (s.acceptEdge p).hasSect type inst = s.hasSect type inst := by
  rw [State.hasSect, acceptEdge_frm hp]; rfl

/-- The rank table is the applied Formula's. -/
theorem rankAllows_acceptEdge {p : Port} {s : State} (hp : p ≠ .kpr) (q : Port) (op : Nat) :
    (s.acceptEdge p).rankAllows q op = s.rankAllows q op := by
  simp only [State.rankAllows, State.effectiveRanks, sect_acceptEdge hp]

/-- The one timeout class that is no constant is the applied Formula's. -/
theorem timeoutCycles_acceptEdge {p : Port} {s : State} (hp : p ≠ .kpr) (time : Nat) :
    (s.acceptEdge p).timeoutCycles time = s.timeoutCycles time := by
  simp only [State.timeoutCycles, hasSect_acceptEdge hp, sect_acceptEdge hp]

/-- A command accepted as an order stands behind those outstanding before it; its record in the Sillage takes none away. -/
theorem enrol_outstanding (o : Outstanding) (s : State) : (s.enrol o).paths.outstanding = s.paths.outstanding ++ [o] := by
  unfold State.enrol State.logAccepted
  split
  · rfl
  · rw [logAt_paths]; rfl

/-! ## The steps of Table 3.4 -/

section Steps

variable {p : Port} {n : Nat} {f : Frame} {s : State}

/-- Step 3: the port has its limit of commands outstanding. -/
theorem accept_full (hp : p ≠ .kpr) (hfull : p.limit ≤ s.outCount p n) :
    s.accept p n f = ((s.acceptEdge p).answerAtOnce p n f 1 cState (zeros 4), none) := by
  simp only [State.accept, if_neg hp, outCount_acceptEdge hp, if_pos hfull]

variable (hp : p ≠ .kpr) (hroom : s.outCount p n < p.limit)
include hp hroom

/-- Step 4: a fault of the head. -/
theorem accept_headFault {off : Nat} (hhead : headFault p f = some off) :
    s.accept p n f = ((s.acceptEdge p).answerAtOnce p n f 1 cMalformed (le 2 off ++ zeros 2), none) := by
  simp only [State.accept, if_neg hp, outCount_acceptEdge hp, if_neg hroom.not_ge, hhead]

variable (hhead : headFault p f = none)
include hhead

/-- Step 5: an opcode that the command index does not list. -/
theorem accept_unlisted (hinfo : cmdInfo f.opcode = none) :
    s.accept p n f = ((s.acceptEdge p).answerAtOnce p n f 1 cUnknown [], none) := by
  simp only [State.accept, if_neg hp, outCount_acceptEdge hp, if_neg hroom.not_ge, hhead, hinfo]

variable {i : CmdInfo} (hinfo : cmdInfo f.opcode = some i)
include hinfo

/-- Step 6: the TAG of a command that is outstanding. -/
theorem accept_tagTaken (htag : (s.findOut p n f.tag).isSome = true) :
    s.accept p n f = ((s.acceptEdge p).answerAtOnce p n f 9 cMalformed (le 2 6 ++ zeros 2), none) := by
  simp only [State.accept, if_neg hp, outCount_acceptEdge hp, if_neg hroom.not_ge, hhead, hinfo, findOut_acceptEdge hp, if_pos htag]

variable (htag : s.findOut p n f.tag = none)
include htag

/-- Step 7: a port whose rank may not issue the opcode. -/
theorem accept_rankBarred (hrank : s.rankAllows p f.opcode = false) :
    s.accept p n f = ((s.acceptEdge p).answerAtOnce p n f 1 cRank [], none) := by
  simp only [State.accept, if_neg hp, outCount_acceptEdge hp, if_neg hroom.not_ge, hhead, hinfo, findOut_acceptEdge hp, htag,
    rankAllows_acceptEdge hp, hrank, Option.isSome_none, Bool.false_eq_true, if_false, Bool.not_false, if_true]

variable (hrank : s.rankAllows p f.opcode = true)
include hrank

/-- Step 8: a service port that is not authenticated and a command that needs it. -/
theorem accept_serviceBarred (hsvc : p = .svc) (hauth : s.svc.auth = false) (hnarrow : neverNarrowed f.opcode = false) :
    s.accept p n f = ((s.acceptEdge p).answerAtOnce p n f 1 cState (zeros 4), none) := by
  have hbarred : p = .svc ∧ (!s.svc.auth) = true ∧ (!openToService f.opcode) = true := by simp [openToService, hsvc, hauth, hnarrow]
  simp only [State.accept, if_neg hp, outCount_acceptEdge hp, if_neg hroom.not_ge, hhead, hinfo, findOut_acceptEdge hp, htag,
    rankAllows_acceptEdge hp, hrank, Option.isSome_none, Bool.false_eq_true, if_false, Bool.not_true, acceptEdge_svc hp, if_pos hbarred]

/-- Past step 8 a command without bulk data is outstanding: its payload is looked at on its owner's turn (log entry 7). -/
theorem accept_passes (hserve : p = .svc → s.svc.auth = true ∨ neverNarrowed f.opcode = true) (hbulk : i.bulk = 0) :
    let a := s.acceptEdge p
    let o : Outstanding := { port := p, session := n, opcode := f.opcode, tag := f.tag, payload := f.payload, bulk := [],
                             edge := a.now, deadline := a.now + s.timeoutCycles i.time, progress := .accepted }
    s.accept p n f = (a.enrol o, some o) := by
  have hserved : ¬(p = .svc ∧ (!s.svc.auth) = true ∧ (!openToService f.opcode) = true) := by
    rintro ⟨hsvc, hauth, hnarrow⟩
    rcases hserve hsvc with h | h <;> simp_all [openToService]
  simp only [State.accept, if_neg hp, outCount_acceptEdge hp, if_neg hroom.not_ge, hhead, hinfo, findOut_acceptEdge hp, htag,
    rankAllows_acceptEdge hp, hrank, Option.isSome_none, Bool.false_eq_true, if_false, Bool.not_true, acceptEdge_svc hp, if_neg hserved,
    timeoutCycles_acceptEdge hp, if_pos hbulk]

end Steps

/-! ## Opcodes of class 0xF -/

/-- The command index ends below class 0xE. -/
theorem commandIndexHigh_below : ∀ e ∈ commandIndexHigh, e.1 < 0xE000 := by decide

/-- The command index lists no opcode of class 0xF. -/
theorem cmdInfo_classF {op : Nat} (hlow : 0xF000 ≤ op) (hhigh : op < 0x10000) : cmdInfo op = none := by
  have hext : ¬isExt op = true := by simp only [isExt, decide_eq_true_eq]; omega
  rw [cmdInfo, if_neg hext, if_neg (by omega), List.lookup_eq_none_iff]
  intro e he
  have hbelow := commandIndexHigh_below e he
  exact bne_iff_ne.2 (by omega)

/-- Settles O8: each step has its equation of the receipt, under the premise that the steps before it pass. -/
theorem receiptChecksInOrder : Obligations.ReceiptChecksInOrder := by
  unfold Obligations.ReceiptChecksInOrder
  refine ⟨fun p n f s hp => ⟨accept_full hp, fun hroom => ⟨fun off => accept_headFault hp hroom, fun hhead =>
      ⟨accept_unlisted hp hroom hhead, fun i hinfo => ⟨accept_tagTaken hp hroom hhead hinfo, fun htag =>
        ⟨accept_rankBarred hp hroom hhead hinfo htag, fun hrank =>
          ⟨accept_serviceBarred hp hroom hhead hinfo htag hrank, fun hserve hbulk => ⟨?_, ?_⟩⟩⟩⟩⟩⟩⟩,
    fun _ => cmdInfo_classF, fun p n f s => accept_unlisted⟩
  · exact accept_passes hp hroom hhead hinfo htag hrank hserve hbulk
  · rw [enrol_outstanding, acceptEdge_outstanding hp]

end Sys2Proof.Machine
end

section
/-! SUPPORT. MB0 READ and MB0 STATUS (R113, R115): what an open mailbox drives, and the four bytes of Table 3.7. -/

namespace Sys2Proof.Machine

variable {s : State}

/-! ## READ -/

/-- A READ of an open mailbox with nothing queued drives the idle byte. -/
theorem exec_mb0Read_idle {clocked : Nat} (hopen : s.mb.isOpen = true) (hqueue : s.mb.queue = []) :
    exec (.mb0Read clocked) s = .next (s.modMb fun m => { m with drove0 := List.replicate clocked 0xB7 }) := by
  change execMb0Read clocked s = _
  simp only [execMb0Read, hopen, hqueue, readBytes, Bool.not_true, Bool.false_eq_true, if_false]

/-- A READ of an open mailbox drives the marker, the head frame and zeros; the head goes when all of it was clocked. -/
theorem exec_mb0Read_frame {clocked : Nat} {f : Frame} {rest : List Frame} (hopen : s.mb.isOpen = true) (hqueue : s.mb.queue = f :: rest) :
    exec (.mb0Read clocked) s = .next (s.modMb fun m =>
      { m with drove0 := (0x5A#8 :: (withCrc f.bytes ++ zeros clocked)).take clocked,
               queue := if 1 + (withCrc f.bytes).length ≤ clocked then rest else f :: rest }) := by
  change execMb0Read clocked s = _
  simp only [execMb0Read, hopen, hqueue, readBytes, List.cons_append, Bool.not_true, Bool.false_eq_true, if_false]
  rfl

/-! ## STATUS -/

/-- A response slot is free while the frames queued and the slots reserved by outstanding commands leave one of 32 (R112). -/
theorem mb0Free_pos_iff : 0 < s.mb0Free ↔ s.mb.queue.length + s.outCount .mb0 0 < 32 := by
  unfold State.mb0Free
  omega

/-- Byte 0 of Table 3.7 on an open mailbox: OPEN, SLOT, RSP and ERR. -/
def statusByte0 (slot rsp err : Bool) : Byte := BitVec.ofNat 8 (1 + 2 * b2n slot + 4 * b2n rsp + 8 * b2n err)

/-- Each flag stands in its own bit of byte 0, and bits 7 to 4 are zero. -/
theorem statusByte0_bits : ∀ slot rsp err : Bool,
    (statusByte0 slot rsp err).getLsbD 0 = true ∧ (statusByte0 slot rsp err).getLsbD 1 = slot
      ∧ (statusByte0 slot rsp err).getLsbD 2 = rsp ∧ (statusByte0 slot rsp err).getLsbD 3 = err
      ∧ (statusByte0 slot rsp err).toNat < 16 := by decide

/-- STATUS of an open mailbox drives the flags and three counts, and clears the count of discards. -/
theorem exec_mb0Status_open (hopen : s.mb.isOpen = true) :
    exec .mb0Status s = .next (s.modMb fun m =>
      { m with drove0 := [statusByte0 (decide (s.mb.queue.length + s.outCount .mb0 0 < 32)) (!s.mb.queue.isEmpty) (decide (0 < s.mb.discards)),
                          BitVec.ofNat 8 s.mb.queue.length, BitVec.ofNat 8 (s.outCount .mb0 0), BitVec.ofNat 8 s.mb.discards],
               discards := 0 }) := by
  change execMb0Status s = _
  simp only [execMb0Status, hopen, mb0Free_pos_iff, Bool.not_true, Bool.false_eq_true, if_false]
  rfl

/-- Settles O15: READ by whether a frame is queued, STATUS byte by byte; the counts fit their bytes. -/
theorem mailboxReadAndStatus : Obligations.MailboxReadAndStatus := by
  unfold Obligations.MailboxReadAndStatus
  refine ⟨fun s clocked hopen => ⟨fun f rest hqueue => ?_, exec_mb0Read_idle hopen⟩, fun s hopen hqueue hout hdiscards => ?_⟩
  · exact ⟨_, exec_mb0Read_frame hopen hqueue, rfl, rfl, fun hwhole => if_pos hwhole, fun hpart => if_neg hpart.not_ge⟩
  · obtain ⟨hopenBit, hslot, hrsp, herr, hzero⟩ := statusByte0_bits (decide (s.mb.queue.length + s.outCount .mb0 0 < 32))
      (!s.mb.queue.isEmpty) (decide (0 < s.mb.discards))
    exact ⟨_, _, _, _, exec_mb0Status_open hopen, hopenBit, hslot, hrsp, herr, hzero, Nat.mod_eq_of_lt (by omega), Nat.mod_eq_of_lt (by omega),
      Nat.mod_eq_of_lt (by omega)⟩

end Sys2Proof.Machine
end

section
/-! SUPPORT. The decisions of a descriptor table (R410): the descriptor of lowest index that contains a granule, and the one of TYPE 2. -/

namespace Sys2Proof.Machine

/-- Where keys rise, the first entry found is the one of lowest key. -/
theorem find?_eq_some_of_lowest {α : Type} {t : Sparse α} {P : Nat × α → Bool} {n : Nat} {d : α} (hrising : t.Pairwise fun x y => x.1 < y.1)
    (hmem : (n, d) ∈ t) (hP : P (n, d) = true) (hlowest : ∀ m e, (m, e) ∈ t → m < n → ¬P (m, e) = true) : t.find? P = some (n, d) := by
  obtain ⟨before, after, rfl⟩ := List.append_of_mem hmem
  have hbelow : ∀ e ∈ before, e.1 < n := fun e he => (List.pairwise_append.1 hrising).2.2 e he (n, d) List.mem_cons_self
  refine List.find?_eq_some_iff_append.2 ⟨hP, before, after, rfl, fun e he => ?_⟩
  simpa using hlowest e.1 e.2 (List.mem_append_left _ he) (hbelow e he)

/-- The descriptor is of TYPE 1 and its BASE to LIMIT contain the address. -/
abbrev ContainsGranule (a : Nat) (d : Bytes) : Prop := dType d = 1 ∧ dBase d ≤ a ∧ a ≤ dLimit d

section Tables

variable {t : Sparse Bytes} {a n phase cls : Nat} {d : Bytes}

theorem descriptorOf_eq_none (h : ∀ n d, (n, d) ∈ t → ¬ContainsGranule a d) : descriptorOf t a = none := by
  have hnone : t.find? (fun e => decide (ContainsGranule a e.2)) = none :=
    List.find?_eq_none.2 fun e he => by simpa using h e.1 e.2 he
  rw [descriptorOf, hnone, Option.map_none]

theorem descriptorOf_eq_some (hrising : t.Pairwise fun x y => x.1 < y.1) (hmem : (n, d) ∈ t) (hd : ContainsGranule a d)
    (hlowest : ∀ m e, (m, e) ∈ t → m < n → ¬ContainsGranule a e) : descriptorOf t a = some d := by
  have hfound : t.find? (fun e => decide (ContainsGranule a e.2)) = some (n, d) :=
    find?_eq_some_of_lowest hrising hmem (decide_eq_true hd) fun m e he hm => by simpa using hlowest m e he hm
  rw [descriptorOf, hfound, Option.map_some]

/-- DENY for a granule that no TYPE 1 descriptor contains. -/
theorem decideAddr_of_none (h : descriptorOf t a = none) : decideAddr t phase cls a = 0 := by rw [decideAddr, h]

/-- A granule's decision is in the field of the port's phase of the descriptor that decides it. -/
theorem decideAddr_of_some (h : descriptorOf t a = some d) : decideAddr t phase cls a = dField d phase (addrPos cls) := by
  rw [decideAddr, h]

/-- DENY for a class-decided command where the table holds no TYPE 2 descriptor. -/
theorem decideClass_of_none (h : ∀ n d, (n, d) ∈ t → dType d ≠ 2) : decideClass t phase cls = 0 := by
  have hnone : t.find? (fun e => decide (dType e.2 = 2)) = none :=
    List.find?_eq_none.2 fun e he => by simpa using h e.1 e.2 he
  rw [decideClass, hnone]

/-- A class-decided command's decision is that of the one TYPE 2 descriptor. -/
theorem decideClass_of_unique (hmem : (n, d) ∈ t) (hd : dType d = 2) (hunique : ∀ m e, (m, e) ∈ t → dType e = 2 → (m, e) = (n, d)) :
    decideClass t phase cls = dField d phase (classPos cls) := by
  have hfound : t.find? (fun e => decide (dType e.2 = 2)) = some (n, d) := by
    obtain ⟨e, he⟩ := Option.isSome_iff_exists.1 (List.find?_isSome (p := fun e => decide (dType e.2 = 2)).2 ⟨(n, d), hmem, decide_eq_true hd⟩)
    rw [he, ← hunique e.1 e.2 (List.mem_of_find?_eq_some he) (by simpa using List.find?_some he)]
  rw [decideClass, hfound]

end Tables

/-- Settles O55: a granule by the descriptor of lowest index that contains it, a class by the TYPE 2 descriptor, and DENY without one. -/
theorem wardenDecisions : Obligations.WardenDecisions := by
  unfold Obligations.WardenDecisions
  intro t phase cls a hrising
  refine ⟨fun hnone => ?_, fun n d hmem hd hlowest => ?_, decideClass_of_none, fun n d => decideClass_of_unique⟩
  · exact decideAddr_of_none (descriptorOf_eq_none hnone)
  · exact decideAddr_of_some (descriptorOf_eq_some hrising hmem hd hlowest)

end Sys2Proof.Machine
end

section
/-! SUPPORT. Reviews (R420, R421, R430): what WDN.REVIEW_ANSWER does once its checks hold, an answer before the review timer's terminal edge
and from it on, and the expiry. -/

namespace Sys2Proof.Machine

/-! ## Reads of the ports -/

theorem wport_eq_of_wdn {s t : State} (h : t.wdn = s.wdn) (p : Nat) : t.wport p = s.wport p := by rw [State.wport, h]; rfl

@[simp] theorem wport_advanceTo (t p : Nat) (s : State) : (s.advanceTo t).wport p = s.wport p := rfl

@[simp] theorem wport_takesEffect (port : Port) (op : Nat) (x : List (Nat × Nat)) (p : Nat) (s : State) :
    (s.takesEffect port op x).wport p = s.wport p := rfl

/-- An event of a port is logged and leaves every port alone. -/
@[simp] theorem wport_wardenAt (t p code a0 a1 a2 q : Nat) (s : State) : (s.wardenAt t p code a0 a1 a2).wport q = s.wport q := by
  unfold State.wardenAt
  split <;> exact wport_eq_of_wdn (logAt_wdn ..) q

/-! ## A review resolves DENY -/

/-- With no command held behind it, a review that resolves DENY leaves its port without a review and the resolution counted. -/
theorem wport_denyReview {s : State} {p : Nat} {v : Review} (hopen : (s.wport p).review = some v) (hheld : (s.wport p).held = none)
    (code t : Nat) (byExpiry : Bool) :
    (s.denyReview p code t byExpiry).wport p =
      { s.wport p with review := none, wel := false, reviewExpired := byExpiry,
                       denied := if byExpiry then (s.wport p).denied else satInc 255 (s.wport p).denied,
                       expired := if byExpiry then satInc 255 (s.wport p).expired else (s.wport p).expired } := by
  simp only [State.denyReview, hopen, State.decideHeld, wport_wardenAt, wport_modPort_self, hheld]

/-- The expiry of an open review comes on its deadline. -/
theorem exec_reviewExpiry_open {s : State} {p : Nat} {v : Review} (hp : p < 4) (hopen : (s.wport p).review = some v) :
    exec (.reviewExpiry p) s
      = .next ((s.advanceTo v.deadline).denyReview p 0x070C (s.advanceTo v.deadline).now true) := by
  change execReviewExpiry p s = _
  simp only [execReviewExpiry, hopen, onObject, hp, decide_true, if_true]

/-! ## An answer to the open review -/

section Answers

variable {o : Outstanding} {p : Nat} {s : State} {v : Review}

/-- The record of an answer that comes after the expiry of the review it names. -/
def lateAnswer (p t no : Nat) (approve : Bool) (v : Review) : Rec :=
  { cycle := t, slot := 6, source := p, code := if approve then 0x070A else 0x070B, late := true, arg0 := v.cmd.opcode, arg1 := v.addr,
    arg2 := no }

/-- From the terminal edge on the expiry comes first, and the answer is refused (R430). -/
theorem answerReview_late (hlate : v.deadline ≤ s.relayEdge) (approve : Bool) :
    s.answerReview o p approve v =
      let d := s.denyReview p 0x070C v.deadline true
      (d.putRec (lateAnswer p s.relayEdge (d.wport p).reviewNo approve v)).refuse o 5 := if_pos hlate

/-- An approval before the terminal edge allows the reviewed command (R420). -/
theorem answerReview_approves (hbefore : s.relayEdge < v.deadline) :
    s.answerReview o p true v =
      let w := (s.takesEffect o.port o.opcode [objReview p (s.wport p).reviewNo]).modPort p fun q =>
        { q with review := none, allowed := some { v.cmd with edge := s.relayEdge }, approved := satInc 255 q.approved }
      (w.wardenAt s.relayEdge p 0x070A v.cmd.opcode v.addr (s.wport p).reviewNo).done o (le 8 (baton s.relayEdge 6)) := by
  simp only [State.answerReview, if_neg hbefore.not_ge, if_true, wport_modPort_self, wport_takesEffect]

/-- A denial before the terminal edge resolves the review DENY (R420). -/
theorem answerReview_denies (hbefore : s.relayEdge < v.deadline) :
    s.answerReview o p false v =
      ((s.takesEffect o.port o.opcode [objReview p (s.wport p).reviewNo]).denyReview p 0x070B s.relayEdge false).done o
        (le 8 (baton s.relayEdge 6)) := by
  simp only [State.answerReview, if_neg hbefore.not_ge, Bool.false_eq_true, if_false]

end Answers

/-! ## The review that an answer names -/

/-- What the Relay does with an answer whose checks hold: it resolves the open review it names, and is refused where it names none (R421). -/
def State.answerNamed (o : Outstanding) (p n : Nat) (approve : Bool) (s : State) : State :=
  match (s.wport p).review with
  | some v => if (s.wport p).reviewNo = n then s.answerReview o p approve v else s.refuse o 4
  | none => s.refuse o (if (s.wport p).reviewNo = n ∧ (s.wport p).reviewExpired ∧ n ≠ 0 then 5 else 4)

section Named

variable {o : Outstanding} {p n : Nat} {approve : Bool} {s : State} {v : Review}

theorem answerNamed_open (hopen : (s.wport p).review = some v) (hno : (s.wport p).reviewNo = n) :
    s.answerNamed o p n approve = s.answerReview o p approve v := by
  simp only [State.answerNamed, hopen, if_pos hno]

theorem answerNamed_other (hopen : (s.wport p).review = some v) (hno : (s.wport p).reviewNo ≠ n) :
    s.answerNamed o p n approve = s.refuse o 4 := by
  simp only [State.answerNamed, hopen, if_neg hno]

theorem answerNamed_expired (hnone : (s.wport p).review = none) (hlast : (s.wport p).reviewNo = n) (hexpired : (s.wport p).reviewExpired = true)
    (hn : n ≠ 0) : s.answerNamed o p n approve = s.refuse o 5 := by
  have hnames : (s.wport p).reviewNo = n ∧ (s.wport p).reviewExpired = true ∧ n ≠ 0 := ⟨hlast, hexpired, hn⟩
  simp only [State.answerNamed, hnone, if_pos hnames]

theorem answerNamed_unknown (hnone : (s.wport p).review = none) (hnot : (s.wport p).reviewNo ≠ n ∨ (s.wport p).reviewExpired = false) :
    s.answerNamed o p n approve = s.refuse o 4 := by
  have hno : ¬((s.wport p).reviewNo = n ∧ (s.wport p).reviewExpired = true ∧ n ≠ 0) := by
    rintro ⟨hlast, hexpired, _⟩
    rcases hnot with hother | hlive
    · exact hother hlast
    · simp [hexpired] at hlive
  simp only [State.answerNamed, hnone, if_neg hno]

end Named

/-- WDN.REVIEW_ANSWER on its owner's turn, its checks holding and no order opposing it. -/
theorem exec_wdnReviewAnswer_passes {r : Req} {o : Outstanding} {s u : State} (hruns : Runs 0x3003 r o s u) (hfits : o.fits 4 [])
    (hport : byteAt o.payload 0 ≤ 3) (hverdict : byteAt o.payload 1 ≤ 1) (hdeclared : u.portDeclared (byteAt o.payload 0) = true)
    (hlink : u.inSession 0 = true) (hred : byteAt o.payload 1 = 1 → u.redRefuses o = false)
    (hunopposed : u.unopposed (objReview (byteAt o.payload 0) (u16 o.payload 2) :: if byteAt o.payload 1 = 1 then o.lockObjs else [])) :
    exec (.wdnReviewAnswer r) s
      = .next (u.answerNamed o (byteAt o.payload 0) (u16 o.payload 2) (decide (byteAt o.payload 1 = 1))) := by
  have hfields : ∀ x ∈ [(decide (4 < byteAt o.payload 0), 0), (decide (1 < byteAt o.payload 1), 1)], x.1 = false := by
    simp only [List.forall_mem_cons, decide_eq_false_iff_not, List.not_mem_nil, false_imp_iff, implies_true, and_true]
    omega
  have hchecks : firstDetail [(decide (byteAt o.payload 0 = 4), 0x0002), (!u.portDeclared (byteAt o.payload 0), 0x0001),
      (decide (byteAt o.payload 1 = 1) && u.redRefuses o, 0x0040)] = none := by
    have hp4 : byteAt o.payload 0 ≠ 4 := by omega
    have hflag : (decide (byteAt o.payload 1 = 1) && u.redRefuses o) = false := by simpa using hred
    simp only [firstDetail, hp4, hdeclared, hflag, decide_false, Bool.not_true, Bool.false_eq_true, if_false]
  change execWdnReviewAnswer r s = _
  simp only [execWdnReviewAnswer, command_runs hruns, State.wdnCommand, formedBy_fits hfits hfields, checks_pass hchecks, State.viaLink, hlink,
    if_true, order_unopposed hunopposed]
  rfl

/-- Settles O58: the answer that passes its checks, by the review it names and by the side of the terminal edge it comes on; then the expiry. -/
theorem wardenReviews : Obligations.WardenReviews := by
  unfold Obligations.WardenReviews
  refine ⟨fun r o s u hruns hfits hport hverdict hdeclared hlink hred hunopposed => ?_, fun p s hp v hopen hheld => ?_⟩
  · rw [exec_wdnReviewAnswer_passes hruns hfits hport hverdict hdeclared hlink hred hunopposed]
    refine ⟨fun v hopen hno => ?_, fun v hopen hno => by rw [answerNamed_other hopen hno], fun hnone =>
      ⟨fun hlast hexpired hn => by rw [answerNamed_expired hnone hlast hexpired hn], fun hnot => by rw [answerNamed_unknown hnone hnot]⟩⟩
    rw [answerNamed_open hopen hno]
    refine ⟨fun hlate => ?_, fun hbefore happroves => ?_, fun hbefore hdenies => ?_⟩
    · rw [answerReview_late hlate]
      exact ⟨_, rfl, by simp only [lateAnswer, decide_eq_true_eq], rfl⟩
    · rw [decide_eq_true happroves, answerReview_approves hbefore, hno]; rfl
    · have hnotApproval : byteAt o.payload 1 ≠ 1 := by omega
      rw [decide_eq_false hnotApproval, answerReview_denies hbefore, hno]; rfl
  · refine ⟨_, exec_reviewExpiry_open hp hopen, ?_⟩
    rw [wport_denyReview (v := v) (by rwa [wport_advanceTo]) (by rwa [wport_advanceTo]), wport_advanceTo]
    exact ⟨rfl, rfl, rfl⟩

end Sys2Proof.Machine
end

section
/-! SUPPORT. PWR.SET_DOMAIN on a domain in DRAIN (R683): the form of the order, its checks, and the answer that names the drain's ticket. -/

namespace Sys2Proof.Machine

/-! ## The form of a payload -/

/-- A payload fits a form when it has the form's length and each of its zero ranges is zero. -/
theorem fits_iff {o : Outstanding} {len : Nat} {zs : List (Nat × Nat)} :
    o.fits len zs ↔ o.payload.length = len ∧ ∀ z ∈ zs, firstNonZero o.payload z.1 z.2 = none := by
  by_cases hlen : o.payload.length = len
  · simp only [Outstanding.fits, payloadFault, hlen, ne_eq, not_true_eq_false, if_false, List.findSome?_eq_none_iff, true_and]
  · simp only [Outstanding.fits, payloadFault, hlen, ne_eq, not_false_eq_true, if_true, reduceCtorEq, false_and]

/-- A payload of the right length without a fault lets the owner go on. -/
theorem formed_pass {o : Outstanding} {len : Nat} {fault : Option Nat} (hlen : o.payload.length = len) (hfault : fault = none)
    (body : State → State) (s : State) : s.formed o len fault body = body s := by
  simp only [State.formed, hlen, ne_eq, not_true_eq_false, if_false, hfault]

/-! ## The order -/

/-- PWR.SET_DOMAIN of a listed DOMAIN and OP, on its owner's turn, is the order on that domain. -/
theorem exec_pwrSetDomain_formed {r : Req} {o : Outstanding} {s u : State} (hruns : Runs 0x1002 r o s u) (hfits : o.fits 4 [(2, 2)])
    (hdomain : byteAt o.payload 0 ≤ 21) (hop : byteAt o.payload 1 ≤ 2) :
    exec (.pwrSetDomain r) s = .next (u.domainOrder o (byteAt o.payload 0) (byteAt o.payload 1)) := by
  obtain ⟨hlen, hzero⟩ := fits_iff.1 hfits
  have hfault : (firstDetail [(decide (21 < byteAt o.payload 0), 0), (decide (2 < byteAt o.payload 1), 1)]).or
      (firstNonZero o.payload 2 2) = none := by
    simp only [firstDetail, hdomain.not_gt, hop.not_gt, decide_false, Bool.false_eq_true, if_false, Option.none_or]
    exact hzero (2, 2) List.mem_cons_self
  change execPwrSetDomain r s = _
  simp only [execPwrSetDomain, command_runs hruns, formed_pass hlen hfault]

/-- An order that passes the checks before R683 and finds its domain in DRAIN only names the drain's ticket, whatever its OP. -/
theorem domainOrder_drain {o : Outstanding} {n op k : Nat} {s : State} (hclosed : s.flc.closed = true) (hvault : s.pwr.vaultDue = none)
    (hpresent : s.domainPresent n = true) (hallowed : ¬(n = dKcore ∨ op = 2 ∧ 17 ≤ n)) (hunopposed : s.unopposed [objDomain n])
    (hdrain : (s.domain n).condition = .drain) (hticket : (s.domain n).ticket = some k) :
    s.domainOrder o n op = s.busyDrain o k := by
  have hchecks : firstDetail [(!s.flc.closed, 0x0030), (s.pwr.vaultDue.isSome && !s.tookEffect 0x1001, 0x0011), (!s.domainPresent n, 0x0001),
      (decide (n = dKcore ∨ op = 2 ∧ 17 ≤ n), 0x0003)] = none := by
    simp only [firstDetail, hclosed, hvault, hpresent, hallowed, Option.isSome_none, Bool.false_and, Bool.not_true, decide_false,
      Bool.false_eq_true, if_false]
  simp only [State.domainOrder, checks_pass hchecks, order_unopposed hunopposed, if_pos hdrain, hticket, Option.getD_some]

/-- Settles O36: the payload is well formed, and the order on a domain in DRAIN is answered with the drain's ticket. -/
theorem drainAnswersBusy : Obligations.DrainAnswersBusy := by
  unfold Obligations.DrainAnswersBusy
  intro r o s u k hruns hfits n hdomain hop hallowed hclosed hvault hpresent hdrain hticket hunopposed
  rw [exec_pwrSetDomain_formed hruns hfits hdomain hop,
    domainOrder_drain hclosed hvault hpresent hallowed hunopposed hdrain hticket]
  rfl

end Sys2Proof.Machine
end

section
/-! SUPPORT. What every command keeps: the queue, the part, the bound on the cycle count (R59) and the canonical form of the memories. The updates of the
components, and the memories that a command may write. -/

namespace Sys2Proof.Machine

/-- What every command keeps on the way from `s` to `t`: the queue, the part, the bound on the cycle count (R59) and the canonical form of
the memories. -/
def Keeps (s t : State) : Prop :=
  t.pending = s.pending ∧ t.part = s.part ∧ (s.now ≤ maxCycle → t.now ≤ maxCycle) ∧ (s.memoriesWf = true → t.memoriesWf = true)

@[simp] theorem keeps_refl (s : State) : Keeps s s := ⟨rfl, rfl, id, id⟩

theorem keeps_trans {s t u : State} (h : Keeps s t) (hu : Keeps t u) : Keeps s u := by
  obtain ⟨hq, hp, hn, hm⟩ := h
  obtain ⟨hq', hp', hn', hm'⟩ := hu
  exact ⟨hq'.trans hq, hp'.trans hp, fun hs => hn' (hn hs), fun hs => hm' (hm hs)⟩

variable {s₀ : State}

theorem keeps_ite_of {c : Prop} [Decidable c] {s t : State} (hs : c → Keeps s₀ s) (ht : ¬c → Keeps s₀ t) : Keeps s₀ (if c then s else t) := by
  split
  · exact hs ‹_›
  · exact ht ‹_›

@[simp] theorem keeps_modPaths (f) (s : State) : Keeps s₀ (s.modPaths f) ↔ Keeps s₀ s := Iff.rfl
@[simp] theorem keeps_modMb (f) (s : State) : Keeps s₀ (s.modMb f) ↔ Keeps s₀ s := Iff.rfl
@[simp] theorem keeps_modSvc (f) (s : State) : Keeps s₀ (s.modSvc f) ↔ Keeps s₀ s := Iff.rfl
@[simp] theorem keeps_modStw (f) (s : State) : Keeps s₀ (s.modStw f) ↔ Keeps s₀ s := Iff.rfl
@[simp] theorem keeps_modCus (f) (s : State) : Keeps s₀ (s.modCus f) ↔ Keeps s₀ s := Iff.rfl
@[simp] theorem keeps_modLog (f) (s : State) : Keeps s₀ (s.modLog f) ↔ Keeps s₀ s := Iff.rfl
@[simp] theorem keeps_modPwr (f) (s : State) : Keeps s₀ (s.modPwr f) ↔ Keeps s₀ s := Iff.rfl
@[simp] theorem keeps_modNose (f) (s : State) : Keeps s₀ (s.modNose f) ↔ Keeps s₀ s := Iff.rfl
@[simp] theorem keeps_modFrm (f) (s : State) : Keeps s₀ (s.modFrm f) ↔ Keeps s₀ s := Iff.rfl
@[simp] theorem keeps_modFus (f) (s : State) : Keeps s₀ (s.modFus f) ↔ Keeps s₀ s := Iff.rfl
@[simp] theorem keeps_modVlt (f) (s : State) : Keeps s₀ (s.modVlt f) ↔ Keeps s₀ s := Iff.rfl
@[simp] theorem keeps_modFlc (f) (s : State) : Keeps s₀ (s.modFlc f) ↔ Keeps s₀ s := Iff.rfl
@[simp] theorem keeps_modBoot (f) (s : State) : Keeps s₀ (s.modBoot f) ↔ Keeps s₀ s := Iff.rfl
@[simp] theorem keeps_modCry (f) (s : State) : Keeps s₀ (s.modCry f) ↔ Keeps s₀ s := Iff.rfl

/-- An update of the clock that leaves the cycle count. -/
@[simp] theorem keeps_modClk {f : Clock → Clock} {s : State} (hf : ∀ c, (f c).now = c.now) : Keeps s₀ (s.modClk f) ↔ Keeps s₀ s := by
  simp [Keeps, State.now, State.memoriesWf, hf]

/-- An update of the cores that leaves their memories. -/
@[simp] theorem keeps_modCores {f : Cores → Cores} {s : State} (hA : ∀ c, (f c).nvmA = c.nvmA) (hB : ∀ c, (f c).nvmB = c.nvmB)
    (hs : ∀ c, (f c).tcmSteward = c.tcmSteward) (hk : ∀ c, (f c).tcmKeeper = c.tcmKeeper) :
    Keeps s₀ (s.modCores f) ↔ Keeps s₀ s := by
  simp [Keeps, State.now, State.memoriesWf, hA, hB, hs, hk]

/-- An update of the Warden that leaves the Infield pool and the flashes. -/
@[simp] theorem keeps_modWdn {f : Warden → Warden} {s : State} (hp : ∀ w, (f w).pool = w.pool) (hf : ∀ w, (f w).flash = w.flash) :
    Keeps s₀ (s.modWdn f) ↔ Keeps s₀ s := by
  simp [Keeps, State.now, State.memoriesWf, hp, hf]

@[simp] theorem keeps_ite (c : Prop) [Decidable c] (s t : State) : Keeps s₀ (if c then s else t) ↔ if c then Keeps s₀ s else Keeps s₀ t := by
  split <;> rfl

theorem keeps_modCores_of {f : Cores → Cores} {s : State} (h : Keeps s₀ s)
    (hA : Memory.wf 0xFF s.cores.nvmA = true → Memory.wf 0xFF (f s.cores).nvmA = true)
    (hB : Memory.wf 0xFF s.cores.nvmB = true → Memory.wf 0xFF (f s.cores).nvmB = true)
    (hs : Memory.wf 0 s.cores.tcmSteward = true → Memory.wf 0 (f s.cores).tcmSteward = true)
    (hk : Memory.wf 0 s.cores.tcmKeeper = true → Memory.wf 0 (f s.cores).tcmKeeper = true) : Keeps s₀ (s.modCores f) := by
  obtain ⟨hq, hp, hn, hm⟩ := h
  refine ⟨hq, hp, hn, fun hw => ?_⟩
  have := hm hw
  simp only [State.memoriesWf, Bool.and_eq_true, State.modCores_cores, State.modCores_wdn] at this ⊢
  tauto

/-- A bulk update over a list keeps what each of its steps keeps. -/
@[simp] theorem keeps_foldl {α : Type} {f : State → α → State} {l : List α} {s : State} (hf : ∀ s x, Keeps s₀ (f s x) ↔ Keeps s₀ s) :
    Keeps s₀ (l.foldl f s) ↔ Keeps s₀ s := by
  induction l generalizing s with
  | nil => rfl
  | cons x l ih => rw [List.foldl_cons, ih, hf]

theorem keeps_foldl_of {α : Type} {f : State → α → State} {l : List α} {s : State} (hf : ∀ u x, Keeps s₀ u → Keeps s₀ (f u x))
    (h : Keeps s₀ s) : Keeps s₀ (l.foldl f s) := by
  induction l generalizing s with
  | nil => exact h
  | cons x l ih => exact ih (hf s x h)

@[simp] theorem keeps_advanceTo (t : Nat) (s : State) : Keeps s₀ (s.advanceTo t) ↔ Keeps s₀ s := by
  have hle : max s.now (min maxCycle t) ≤ maxCycle ↔ s.now ≤ maxCycle := by omega
  simp only [Keeps, advanceTo_pending, advanceTo_part, advanceTo_now, hle]
  rfl



/-! ## Memories -/

theorem twf_nil {α : Type} [DecidableEq α] (d : α) : twf d [] = true := rfl

theorem wf_nor (m : Memory) (a : Nat) (bs : Bytes) (h : Memory.wf 0xFF m = true) : Memory.wf 0xFF (nor m a bs) = true := wf_mwrite _ _ _ _ h

theorem wf_programPage (page addr i : Nat) (bs : Bytes) (m : Memory) (h : Memory.wf 0xFF m = true) :
    Memory.wf 0xFF (programPage page addr i bs m) = true := by
  induction bs generalizing i m with
  | nil => exact h
  | cons b bs ih => exact ih _ _ (wf_nor _ _ _ h)

theorem wf_ownEffect {b : Bytes} {page : Nat} {c : Captured} {m : Memory} (h : Memory.wf 0xFF m = true) :
    Memory.wf 0xFF (ownEffect b page c m) = true := by
  unfold ownEffect; split
  · exact wf_programPage _ _ _ _ _ h
  · exact wf_mclear _ _ _ _ h
  · exact wf_mclear _ _ _ _ h
  · exact h

theorem wf_nvmEffect (op : NvmOp) {m : Memory} (h : Memory.wf 0xFF m = true) : Memory.wf 0xFF (nvmEffect op m) = true := by
  unfold nvmEffect; dsimp only; split
  · exact wf_nor _ _ _ h
  · exact wf_mclear _ _ _ _ h

theorem wf_foldl_mclear {d : Byte} (pages : List Nat) {m : Memory} (h : Memory.wf d m = true) :
    Memory.wf d (pages.foldl (fun m k => mclear m (4096 * k) 4096) m) = true := by
  induction pages generalizing m with
  | nil => exact h
  | cons k ks ih => exact ih (wf_mclear _ _ _ _ h)

/-- A property of the entries of a table and of what a table without them reads as holds of all that it reads. -/
theorem tget_of_all {α : Type} {p : α → Bool} {d : α} {m : Sparse α} (hm : (m.all fun x => p x.2) = true) (hd : p d = true) (i : Nat) :
    p (tget d m i) = true := by
  induction m with
  | nil => exact hd
  | cons c m ih =>
    obtain ⟨k, v⟩ := c
    simp only [List.all_cons, Bool.and_eq_true] at hm
    unfold tget; split
    · exact hm.1
    · exact ih hm.2

/-- A property of a table's entries holds after a write of a value that has it. -/
theorem all_tset {α : Type} [DecidableEq α] {p : α → Bool} {d : α} {m : Sparse α} {i : Nat} {w : α} (hm : (m.all fun x => p x.2) = true)
    (hw : p w = true) : ((tset d m i w).all fun x => p x.2) = true := by
  simp only [List.all_eq_true] at hm ⊢
  have hdel : ∀ x ∈ tdel m i, x ∈ m := by
    induction m with
    | nil => simp [tdel]
    | cons c m ih => unfold tdel; split <;> grind
  have hins : ∀ x ∈ tins m i w, x = (i, w) ∨ x ∈ m := by
    clear hdel
    induction m with
    | nil => simp [tins]
    | cons c m ih => unfold tins; repeat' split <;> grind
  unfold tset; split <;> intro x hx
  · exact hm x (hdel x hx)
  · obtain rfl | hx := hins x hx
    · exact hw
    · exact hm x hx

theorem flash_wf {p : Nat} {s : State} (h : s.memoriesWf = true) : Memory.wf 0xFF (s.flash p) = true := by
  simp only [State.memoriesWf, Bool.and_eq_true] at h
  exact tget_of_all (p := fun m => Memory.wf 0xFF m) h.2 rfl p

theorem keeps_modWdn_of {f : Warden → Warden} {s : State} (h : Keeps s₀ s)
    (hp : Memory.wf 0 s.wdn.pool = true → Memory.wf 0 (f s.wdn).pool = true) (hf : (f s.wdn).flash = s.wdn.flash) : Keeps s₀ (s.modWdn f) := by
  obtain ⟨hq, hpart, hn, hm⟩ := h
  refine ⟨hq, hpart, hn, fun hw => ?_⟩
  have := hm hw
  simp only [State.memoriesWf, Bool.and_eq_true, State.modWdn_cores, State.modWdn_wdn, hf] at this ⊢
  tauto

/-- A flash takes contents in canonical form. -/
theorem keeps_setFlash {p : Nat} {m : Memory} {s : State} (h : Keeps s₀ s) (hm : s.memoriesWf = true → Memory.wf 0xFF m = true) :
    Keeps s₀ (s.setFlash p m) := by
  obtain ⟨hq, hp, hn, hw⟩ := h
  refine ⟨hq, hp, hn, fun h₀ => ?_⟩
  have hm := hm (hw h₀)
  have hw := hw h₀
  simp only [State.memoriesWf, State.setFlash, Bool.and_eq_true, State.modWdn_cores, State.modWdn_wdn] at hw ⊢
  exact ⟨hw.1, all_tset (p := fun m => Memory.wf 0xFF m) hw.2 hm⟩

theorem keeps_free (n : Nat) (s : State) : Keeps s₀ { s with free := n } ↔ Keeps s₀ s := Iff.rfl
theorem keeps_links (k : Sparse Link) (s : State) : Keeps s₀ { s with links := k } ↔ Keeps s₀ s := Iff.rfl
theorem keeps_lanes (x : Sparse Lane) (s : State) : Keeps s₀ { s with lanes := x } ↔ Keeps s₀ s := Iff.rfl
theorem keeps_net (n : Net) (s : State) : Keeps s₀ { s with net := n } ↔ Keeps s₀ s := Iff.rfl

end Sys2Proof.Machine
end

section
/-! SUPPORT. The operations of every family keep what every command keeps: by ↔ where an operation writes no memory, by → where it writes one. -/

namespace Sys2Proof.Machine

variable {s₀ : State}

/-! ## Shared operations -/

@[simp] theorem keeps_tick (s : State) : Keeps s₀ s.tick ↔ Keeps s₀ s := by simp [State.tick]
@[simp] theorem keeps_atTick (p) (s : State) : Keeps s₀ (s.atTick p) ↔ Keeps s₀ s := by simp [State.atTick]
@[simp] theorem keeps_freeVal (s : State) : Keeps s₀ (s.freeVal).2 ↔ Keeps s₀ s := Iff.rfl
@[simp] theorem keeps_draw (n) (s : State) : Keeps s₀ (s.draw n).2 ↔ Keeps s₀ s := Iff.rfl
@[simp] theorem keeps_putRec (r) (s : State) : Keeps s₀ (s.putRec r) ↔ Keeps s₀ s := by simp [State.putRec]
@[simp] theorem keeps_logAt (t slot src code a0 a1 a2) (s : State) : Keeps s₀ (s.logAt t slot src code a0 a1 a2) ↔ Keeps s₀ s := by
  simp [State.logAt]
@[simp] theorem keeps_event (slot src code a0 a1 a2) (s : State) : Keeps s₀ (s.event slot src code a0 a1 a2) ↔ Keeps s₀ s := by
  simp [State.event]
@[simp] theorem keeps_eventLate (slot src code a0 a1 a2) (s : State) : Keeps s₀ (s.eventLate slot src code a0 a1 a2) ↔ Keeps s₀ s := by
  simp [State.eventLate]
@[simp] theorem keeps_discardAnswer (p session f) (s : State) : Keeps s₀ (s.discardAnswer p session f) ↔ Keeps s₀ s := by
  simp [State.discardAnswer]
@[simp] theorem keeps_answer (p session f) (s : State) : Keeps s₀ (s.answer p session f) ↔ Keeps s₀ s := by
  unfold State.answer; split <;> simp
@[simp] theorem keeps_notice (p session f) (s : State) : Keeps s₀ (s.notice p session f) ↔ Keeps s₀ s := by
  unfold State.notice; split <;> simp
@[simp] theorem keeps_dropOut (o) (s : State) : Keeps s₀ (s.dropOut o) ↔ Keeps s₀ s := by simp [State.dropOut]
@[simp] theorem keeps_logDone (late o code payload) (s : State) : Keeps s₀ (s.logDone late o code payload) ↔ Keeps s₀ s := by
  simp [State.logDone]
@[simp] theorem keeps_place (o code payload) (s : State) : Keeps s₀ (s.place o code payload) ↔ Keeps s₀ s := by simp [State.place]
@[simp] theorem keeps_respond (o code payload) (s : State) : Keeps s₀ (s.respond o code payload) ↔ Keeps s₀ s := by simp [State.respond]
@[simp] theorem keeps_done (o payload) (s : State) : Keeps s₀ (s.done o payload) ↔ Keeps s₀ s := by simp [State.done]
@[simp] theorem keeps_refuse (o detail) (s : State) : Keeps s₀ (s.refuse o detail) ↔ Keeps s₀ s := by simp [State.refuse]
@[simp] theorem keeps_malformed (o off) (s : State) : Keeps s₀ (s.malformed o off) ↔ Keeps s₀ s := by simp [State.malformed]
@[simp] theorem keeps_expire (o) (s : State) : Keeps s₀ (s.expire o) ↔ Keeps s₀ s := by simp [State.expire]
@[simp] theorem keeps_refuseLate (o detail) (s : State) : Keeps s₀ (s.refuseLate o detail) ↔ Keeps s₀ s := by simp [State.refuseLate]
@[simp] theorem keeps_expireLate (o) (s : State) : Keeps s₀ (s.expireLate o) ↔ Keeps s₀ s := by simp [State.expireLate]
@[simp] theorem keeps_busyDrain (o ticket) (s : State) : Keeps s₀ (s.busyDrain o ticket) ↔ Keeps s₀ s := by simp [State.busyDrain]
@[simp] theorem keeps_newTicket (o) (s : State) : Keeps s₀ (s.newTicket o).2 ↔ Keeps s₀ s := by simp [State.newTicket]
@[simp] theorem keeps_ticketed (o code payload) (s : State) : Keeps s₀ (s.ticketed o code payload).2 ↔ Keeps s₀ s := by
  simp [State.ticketed]
@[simp] theorem keeps_settleTicket (n code result) (s : State) : Keeps s₀ (s.settleTicket n code result) ↔ Keeps s₀ s := by
  unfold State.settleTicket; split <;> simp
@[simp] theorem keeps_answerAtOnce (p session f flags code payload) (s : State) :
    Keeps s₀ (s.answerAtOnce p session f flags code payload) ↔ Keeps s₀ s := by
  simp [State.answerAtOnce]
@[simp] theorem keeps_acceptEdge (p) (s : State) : Keeps s₀ (s.acceptEdge p) ↔ Keeps s₀ s := by
  unfold State.acceptEdge; dsimp only; repeat' split
  all_goals simp
@[simp] theorem keeps_importOpens (o) (s : State) : Keeps s₀ (s.importOpens o) ↔ Keeps s₀ s := by simp [State.importOpens]
@[simp] theorem keeps_logAccepted (o) (s : State) : Keeps s₀ (s.logAccepted o) ↔ Keeps s₀ s := by simp [State.logAccepted]
@[simp] theorem keeps_stand (o) (s : State) : Keeps s₀ (s.stand o) ↔ Keeps s₀ s := by simp [State.stand]
@[simp] theorem keeps_enrol (o) (s : State) : Keeps s₀ (s.enrol o) ↔ Keeps s₀ s := by simp [State.enrol]
@[simp] theorem keeps_accept (p session f) (s : State) : Keeps s₀ (s.accept p session f).1 ↔ Keeps s₀ s := by
  unfold State.accept
  rcases headFault p f with _ | off <;> rcases cmdInfo f.opcode with _ | i <;> simp [apply_ite Prod.fst]
@[simp] theorem keeps_closeBulk (p session inbound) (s : State) : Keeps s₀ (s.closeBulk p session inbound) ↔ Keeps s₀ s := by
  simp [State.closeBulk]
@[simp] theorem keeps_setOut (o) (s : State) : Keeps s₀ (s.setOut o) ↔ Keeps s₀ s := by simp [State.setOut]
@[simp] theorem keeps_take (op r) (s : State) : Keeps s₀ (s.take op r).1 ↔ Keeps s₀ s := by
  unfold State.take
  rcases s.findOut r.port r.session r.tag with _ | o
  · dsimp only
    generalize ({ opcode := op, flags := _, status := 0, tag := r.tag, payload := r.payload } : Frame) = f
    have hacc := keeps_accept (s₀ := s₀) r.port r.session f s
    rcases haccept : s.accept r.port r.session f with ⟨u, _ | o⟩ <;> rw [haccept] at hacc <;> simp [apply_ite Prod.fst, hacc]
  · simp [apply_ite Prod.fst]
theorem keeps_command {op r owner} {s : State} (h : Keeps s₀ s) (hown : ∀ o u, Keeps s₀ u → Keeps s₀ (owner o u)) :
    Keeps s₀ (s.command op r owner) := by
  have htake := (keeps_take op r s).2 h
  unfold State.command
  split <;> rename_i heq <;> rw [heq] at htake
  · exact htake
  · split
    · simpa using htake
    · split
      · simpa using htake
      · exact hown _ _ htake
@[simp] theorem keeps_takesEffect (p opcode objects) (s : State) : Keeps s₀ (s.takesEffect p opcode objects) ↔ Keeps s₀ s := by
  simp [State.takesEffect]
@[simp] theorem keeps_order {o objects body} {s : State} (h : Keeps s₀ s) :
    Keeps s₀ (s.order o objects body) ↔ (s.winner objects = none → Keeps s₀ (body s)) := by
  unfold State.order; split <;> simp_all
@[simp] theorem keeps_wellFormed {o len zs body} {s : State} (h : Keeps s₀ s) :
    Keeps s₀ (s.wellFormed o len zs body) ↔ (payloadFault o.payload len zs = none → Keeps s₀ (body s)) := by
  unfold State.wellFormed; split <;> simp_all
@[simp] theorem keeps_formedBy {o len fields zs body} {s : State} (h : Keeps s₀ s) :
    Keeps s₀ (s.formedBy o len fields zs body) ↔ (formFault o.payload len fields zs = none → Keeps s₀ (body s)) := by
  unfold State.formedBy; split <;> simp_all
@[simp] theorem keeps_checks {o cs body} {s : State} (h : Keeps s₀ s) :
    Keeps s₀ (s.checks o cs body) ↔ (firstDetail cs = none → Keeps s₀ (body s)) := by
  unfold State.checks; split <;> simp_all
@[simp] theorem keeps_bulkOut (o data ownerPayload) {s : State} (h : Keeps s₀ s) : Keeps s₀ (s.bulkOut o data ownerPayload) := by
  unfold State.bulkOut; dsimp only; repeat' split
  · simpa using h
  · rw [keeps_done]
    exact keeps_modCores_of h id id (wf_mwrite _ _ _ _) id
  · simpa using h

/-! ## Keys, links and platforms -/

@[simp] theorem keeps_fillSlot (n attr port key) (s : State) : Keeps s₀ (s.fillSlot n attr port key) ↔ Keeps s₀ s := by
  simp [State.fillSlot]
@[simp] theorem keeps_emptySlot (n) (s : State) : Keeps s₀ (s.emptySlot n) ↔ Keeps s₀ s := by simp [State.emptySlot]
@[simp] theorem keeps_derive (parent n attr bytes label ctx post) (s : State) :
    Keeps s₀ (s.derive parent n attr bytes label ctx post) ↔ Keeps s₀ s := by
  simp [State.derive]
@[simp] theorem keeps_needsCrypto {o body} {s : State} (h : Keeps s₀ s) :
    Keeps s₀ (s.needsCrypto o body) ↔ (s.draining dCrypto = false → s.domainOn dCrypto = true → Keeps s₀ (body s)) := by
  unfold State.needsCrypto; repeat' split
  all_goals simp_all
@[simp] theorem keeps_setLink (l k) (s : State) : Keeps s₀ (s.setLink l k) ↔ Keeps s₀ s := Iff.rfl
@[simp] theorem keeps_modLink (l f) (s : State) : Keeps s₀ (s.modLink l f) ↔ Keeps s₀ s := by simp [State.modLink]
@[simp] theorem keeps_modPlat (p f) (s : State) : Keeps s₀ (s.modPlat p f) ↔ Keeps s₀ s := by simp [State.modPlat]

/-! ## Fuses -/

@[simp] theorem keeps_respondRef (c code payload) (s : State) : Keeps s₀ (s.respondRef c code payload) ↔ Keeps s₀ s := by
  unfold State.respondRef; split <;> simp
@[simp] theorem keeps_refuseRef (c detail) (s : State) : Keeps s₀ (s.refuseRef c detail) ↔ Keeps s₀ s := by simp [State.refuseRef]
@[simp] theorem keeps_fuseWindow (s : State) : Keeps s₀ (s.fuseWindow).2 ↔ Keeps s₀ s := by simp [State.fuseWindow]
@[simp] theorem keeps_fuseTamper (s : State) : Keeps s₀ s.fuseTamper ↔ Keeps s₀ s := by simp [State.fuseTamper]
@[simp] theorem keeps_fusePower (s : State) : Keeps s₀ s.fusePower ↔ Keeps s₀ s := by simp [State.fusePower]
@[simp] theorem keeps_setFuse (w) (s : State) : Keeps s₀ (s.setFuse w) ↔ Keeps s₀ s := by simp [State.setFuse]
@[simp] theorem keeps_fuseEvent (code a0 a1 a2) (s : State) : Keeps s₀ (s.fuseEvent code a0 a1 a2) ↔ Keeps s₀ s := by simp [State.fuseEvent]
@[simp] theorem keeps_fuseFinish (op) (s : State) : Keeps s₀ (s.fuseFinish op) ↔ Keeps s₀ s := by simp [State.fuseFinish]
@[simp] theorem keeps_fuseStop (op code detail) (s : State) : Keeps s₀ (s.fuseStop op code detail) ↔ Keeps s₀ s := by simp [State.fuseStop]
@[simp] theorem keeps_fuseNext (op) (s : State) : Keeps s₀ (s.fuseNext op) ↔ Keeps s₀ s := by unfold State.fuseNext; split <;> simp
@[simp] theorem keeps_fuseBegin (o op) (s : State) : Keeps s₀ (s.fuseBegin o op) ↔ Keeps s₀ s := by simp [State.fuseBegin]
@[simp] theorem keeps_zeroizeNotes (s : State) : Keeps s₀ s.zeroizeNotes ↔ Keeps s₀ s := by simp [State.zeroizeNotes]
@[simp] theorem keeps_tornWord (w) (s : State) : Keeps s₀ (s.tornWord w) ↔ Keeps s₀ s := by simp [State.tornWord]
@[simp] theorem keeps_fuseRestart (s : State) : Keeps s₀ s.fuseRestart ↔ Keeps s₀ s := by unfold State.fuseRestart; split <;> simp
@[simp] theorem keeps_fuseCut (s : State) : Keeps s₀ s.fuseCut ↔ Keeps s₀ s := by unfold State.fuseCut; split <;> simp
@[simp] theorem keeps_logTorn (s : State) : Keeps s₀ s.logTorn ↔ Keeps s₀ s := by
  unfold State.logTorn
  refine (keeps_foldl fun u m => by split <;> simp).trans (keeps_foldl fun u m => by split <;> simp)
@[simp] theorem keeps_fuseCheck (senseFaults) (s : State) : Keeps s₀ (s.fuseCheck senseFaults) ↔ Keeps s₀ s := by simp [State.fuseCheck]

/-! ## The crypto cluster -/

@[simp] theorem keeps_reseed (s : State) : Keeps s₀ s.reseed ↔ Keeps s₀ s := by simp [State.reseed]
@[simp] theorem keeps_generate (n) (s : State) : Keeps s₀ (s.generate n).2 ↔ Keeps s₀ s := by simp [State.generate]
@[simp] theorem keeps_randomBytes (n) (s : State) : Keeps s₀ (s.randomBytes n).2 ↔ Keeps s₀ s := by unfold State.randomBytes; split <;> simp
theorem keeps_withDrbg {o resist body} {s : State} (h : Keeps s₀ s) (hbody : ∀ u, Keeps s₀ u → Keeps s₀ (body u)) :
    Keeps s₀ (s.withDrbg o resist body) := by
  unfold State.withDrbg; repeat' split
  all_goals simp [*]
@[simp] theorem keeps_placeKeeperJob (w j) (s : State) : Keeps s₀ (s.placeKeeperJob w j) ↔ Keeps s₀ s := by simp [State.placeKeeperJob]
@[simp] theorem keeps_keeperJob (w) (s : State) : Keeps s₀ (s.keeperJob w) ↔ Keeps s₀ s := by unfold State.keeperJob; split <;> simp
@[simp] theorem keeps_clearBusy (n) (s : State) : Keeps s₀ (s.clearBusy n) ↔ Keeps s₀ s := by simp [State.clearBusy]
@[simp] theorem keeps_endReservation (j) (s : State) : Keeps s₀ (s.endReservation j) ↔ Keeps s₀ s := by
  unfold State.endReservation; split <;> simp
@[simp] theorem keeps_freeJob (j) (s : State) : Keeps s₀ (s.freeJob j) ↔ Keeps s₀ s := by
  unfold State.freeJob; dsimp only; repeat' split
  all_goals simp
@[simp] theorem keeps_stopJob (j code payload) (s : State) : Keeps s₀ (s.stopJob j code payload) ↔ Keeps s₀ s := by
  unfold State.stopJob; dsimp only; repeat' split
  all_goals simp
@[simp] theorem keeps_stopJobs (test code payload) (s : State) : Keeps s₀ (s.stopJobs test code payload) ↔ Keeps s₀ s := by
  simp [State.stopJobs]
@[simp] theorem keeps_cryptoDq (s : State) : Keeps s₀ s.cryptoDq ↔ Keeps s₀ s := by simp [State.cryptoDq]
@[simp] theorem keeps_cryptoDestroyed (n) (s : State) : Keeps s₀ (s.cryptoDestroyed n) ↔ Keeps s₀ s := by simp [State.cryptoDestroyed]
@[simp] theorem keeps_cryptoDrain (ticket) (s : State) : Keeps s₀ (s.cryptoDrain ticket) ↔ Keeps s₀ s := by simp [State.cryptoDrain]
@[simp] theorem keeps_cryptoAbort (s : State) : Keeps s₀ s.cryptoAbort ↔ Keeps s₀ s := by simp [State.cryptoAbort]
@[simp] theorem keeps_finishJob (slot j start cycles c) {s : State} (h : Keeps s₀ s) : Keeps s₀ (s.finishJob slot j start cycles c) := by
  have hgen : Keeps s₀ (if (j.alg = 0x20 ∨ j.alg = 0x21) ∧ j.op = 0 then s.generate 48 else ([], s)).2 := by split <;> simpa using h
  unfold State.finishJob
  generalize (if (j.alg = 0x20 ∨ j.alg = 0x21) ∧ j.op = 0 then s.generate 48 else ([], s)) = g at hgen ⊢
  dsimp only
  rw [keeps_respondRef]
  split
  · refine keeps_modCores_of ?_ id id (wf_mwrite _ _ _ _) id
    split <;> [simpa using hgen; (split <;> simpa using hgen)]
  · split <;> [simpa using hgen; (split <;> simpa using hgen)]
@[simp] theorem keeps_setEs (es) (s : State) : Keeps s₀ (s.setEs es) ↔ Keeps s₀ s := by simp [State.setEs]
@[simp] theorem keeps_freshDrbg (block) (s : State) : Keeps s₀ (s.freshDrbg block) ↔ Keeps s₀ s := by simp [State.freshDrbg]
@[simp] theorem keeps_startupFails (s : State) : Keeps s₀ s.startupFails ↔ Keeps s₀ s := by simp [State.startupFails]
@[simp] theorem keeps_entropyBlock (raw knownAnswers) (s : State) : Keeps s₀ (s.entropyBlock raw knownAnswers) ↔ Keeps s₀ s := by
  simp [State.entropyBlock]

/-! ## Keys -/

@[simp] theorem keeps_appendEntry (e) (s : State) : Keeps s₀ (s.appendEntry e) ↔ Keeps s₀ s := by simp [State.appendEntry]
@[simp] theorem keeps_fillByCommand (o opcode n attr key) (s : State) : Keeps s₀ (s.fillByCommand o opcode n attr key) ↔ Keeps s₀ s := by
  simp [State.fillByCommand]
@[simp] theorem keeps_generated (o) (s : State) : Keeps s₀ (s.generated o).2 ↔ Keeps s₀ s := by
  unfold State.generated; dsimp only; repeat' split
  all_goals simp
@[simp] theorem keeps_keyGenerate (o) {s : State} (h : Keeps s₀ s) : Keeps s₀ (s.keyGenerate o) := by simp [State.keyGenerate, h]
@[simp] theorem keeps_importPlain (o) {s : State} (h : Keeps s₀ s) : Keeps s₀ (s.importPlain o) := by simp [State.importPlain, h]
@[simp] theorem keeps_importBlob (o) {s : State} (h : Keeps s₀ s) : Keeps s₀ (s.importBlob o) := by
  unfold State.importBlob; dsimp only; repeat' split
  all_goals simp [h]
@[simp] theorem keeps_setSwirl (n) (s : State) : Keeps s₀ (s.setSwirl n) ↔ Keeps s₀ s := by simp [State.setSwirl]

/-! ## The Sillage -/

@[simp] theorem keeps_alert (index) (s : State) : Keeps s₀ (s.alert index) ↔ Keeps s₀ s := by simp [State.alert]
@[simp] theorem keeps_sealBatch (s : State) : Keeps s₀ s.sealBatch ↔ Keeps s₀ s := by simp [State.sealBatch]
@[simp] theorem keeps_makeRoom (s : State) : Keeps s₀ s.makeRoom ↔ Keeps s₀ s := by
  unfold State.makeRoom; dsimp only; repeat' split
  all_goals simp
@[simp] theorem keeps_placeRec (r) (s : State) : Keeps s₀ (s.placeRec r) ↔ Keeps s₀ s := by
  unfold State.placeRec; dsimp only; repeat' split
  all_goals simp
@[simp] theorem keeps_dropRec (held r) (s : State) : Keeps s₀ (s.dropRec held r) ↔ Keeps s₀ s := by simp [State.dropRec]
@[simp] theorem keeps_commitRec (r) (s : State) : Keeps s₀ (s.commitRec r) ↔ Keeps s₀ s := by simp [State.commitRec]
@[simp] theorem keeps_enterRec (r) (s : State) : Keeps s₀ (s.enterRec r) ↔ Keeps s₀ s := by simp [State.enterRec]
@[simp] theorem keeps_enterDue (s : State) : Keeps s₀ s.enterDue ↔ Keeps s₀ s := by simp [State.enterDue]
@[simp] theorem keeps_commitDue (s : State) : Keeps s₀ s.commitDue ↔ Keeps s₀ s := by simp [State.commitDue]
@[simp] theorem keeps_beginCommit (s : State) : Keeps s₀ s.beginCommit ↔ Keeps s₀ s := by simp [State.beginCommit]
@[simp] theorem keeps_answerSeals (first) (s : State) : Keeps s₀ (s.answerSeals first) ↔ Keeps s₀ s := by
  unfold State.answerSeals; split <;> simp
@[simp] theorem keeps_endSeal (first sig) (s : State) : Keeps s₀ (s.endSeal first sig) ↔ Keeps s₀ s := by
  unfold State.endSeal; split <;> simp
@[simp] theorem keeps_dropSeals (s : State) : Keeps s₀ s.dropSeals ↔ Keeps s₀ s := by simp [State.dropSeals]
@[simp] theorem keeps_cryptoTimerEnds (s : State) : Keeps s₀ s.cryptoTimerEnds ↔ Keeps s₀ s := by simp [State.cryptoTimerEnds]
@[simp] theorem keeps_unsubscribe (p session) (s : State) : Keeps s₀ (s.unsubscribe p session) ↔ Keeps s₀ s := by simp [State.unsubscribe]

/-! ## Ports -/

@[simp] theorem keeps_logDiscard (p session opcode) (s : State) : Keeps s₀ (s.logDiscard p session opcode) ↔ Keeps s₀ s := by
  simp [State.logDiscard]
@[simp] theorem keeps_logDiscardLate (p session opcode) (s : State) : Keeps s₀ (s.logDiscardLate p session opcode) ↔ Keeps s₀ s := by
  simp [State.logDiscardLate]
@[simp] theorem keeps_mbDiscard (f) (s : State) : Keeps s₀ (s.mbDiscard f) ↔ Keeps s₀ s := by simp [State.mbDiscard]
@[simp] theorem keeps_queueSteward (f) (s : State) : Keeps s₀ (s.queueSteward f) ↔ Keeps s₀ s := by simp [State.queueSteward]
@[simp] theorem keeps_forwardExt (o) (s : State) : Keeps s₀ (s.forwardExt o) ↔ Keeps s₀ s := by simp [State.forwardExt]
@[simp] theorem keeps_endForward (n) (s : State) : Keeps s₀ (s.endForward n) ↔ Keeps s₀ s := by simp [State.endForward]
@[simp] theorem keeps_withdrawForward (n) (s : State) : Keeps s₀ (s.withdrawForward n) ↔ Keeps s₀ s := by simp [State.withdrawForward]
@[simp] theorem keeps_extAnswered (opcode number status payload) (s : State) :
    Keeps s₀ (s.extAnswered opcode number status payload) ↔ Keeps s₀ s := by
  unfold State.extAnswered; repeat' split
  all_goals simp
@[simp] theorem keeps_receive (p session f) (s : State) : Keeps s₀ (s.receive p session f) ↔ Keeps s₀ s := by
  have hacc := keeps_accept (s₀ := s₀) p session f s
  unfold State.receive
  rcases haccept : s.accept p session f with ⟨u, _ | o⟩ <;> rw [haccept] at hacc <;> simpa using hacc
@[simp] theorem keeps_mb0Frame (data extraBits) (s : State) : Keeps s₀ (s.mb0Frame data extraBits) ↔ Keeps s₀ s := by simp [State.mb0Frame]
@[simp] theorem keeps_setTransfer (b) (s : State) : Keeps s₀ (s.setTransfer b) ↔ Keeps s₀ s := by simp [State.setTransfer]
@[simp] theorem keeps_consumeOut (p session) (s : State) : Keeps s₀ (s.consumeOut p session) ↔ Keeps s₀ s := by
  unfold State.consumeOut; dsimp only; repeat' split
  all_goals simp
@[simp] theorem keeps_takeSlot (p session) (s : State) : Keeps s₀ (s.takeSlot p session).2 ↔ Keeps s₀ s := by
  unfold State.takeSlot; split <;> simp
@[simp] theorem keeps_bulkDiscard (p session crc) (s : State) : Keeps s₀ (s.bulkDiscard p session crc) ↔ Keeps s₀ s := by
  unfold State.bulkDiscard; split <;> simp
@[simp] theorem keeps_expireBulk (b) (s : State) : Keeps s₀ (s.expireBulk b) ↔ Keeps s₀ s := by
  unfold State.expireBulk; dsimp only; repeat' split
  all_goals simp
@[simp] theorem keeps_timerEnds (o) (s : State) : Keeps s₀ (s.timerEnds o) ↔ Keeps s₀ s := by
  unfold State.timerEnds; dsimp only; repeat' split
  all_goals simp
@[simp] theorem keeps_settleLost (l detail) (s : State) : Keeps s₀ (s.settleLost l detail) ↔ Keeps s₀ s := by simp [State.settleLost]
@[simp] theorem keeps_svcDiscard (s : State) : Keeps s₀ s.svcDiscard ↔ Keeps s₀ s := by simp [State.svcDiscard]
@[simp] theorem keeps_romAnswers (f) (s : State) : Keeps s₀ (s.romAnswers f) ↔ Keeps s₀ s := by simp [State.romAnswers]
@[simp] theorem keeps_svcPacketLate (packet) (s : State) : Keeps s₀ (s.svcPacketLate packet) ↔ Keeps s₀ s := by
  unfold State.svcPacketLate; split <;> simp
@[simp] theorem keeps_closeTransfers (p session) (s : State) : Keeps s₀ (s.closeTransfers p session) ↔ Keeps s₀ s := by
  unfold State.closeTransfers
  refine (keeps_foldl fun u b => ?_).trans (by simp)
  dsimp only; repeat' split
  all_goals simp
@[simp] theorem keeps_logRefusedWrite (core addr value) (s : State) : Keeps s₀ (s.logRefusedWrite core addr value) ↔ Keeps s₀ s := by
  simp [State.logRefusedWrite]
@[simp] theorem keeps_refillSteward (s : State) : Keeps s₀ s.refillSteward ↔ Keeps s₀ s := by unfold State.refillSteward; split <;> simp
@[simp] theorem keeps_authFails (o detail) (s : State) : Keeps s₀ (s.authFails o detail) ↔ Keeps s₀ s := by simp [State.authFails]
@[simp] theorem keeps_authLockOver (s : State) : Keeps s₀ s.authLockOver ↔ Keeps s₀ s := by unfold State.authLockOver; split <;> simp

/-! ## The Warden -/

@[simp] theorem keeps_modPort (p f) (s : State) : Keeps s₀ (s.modPort p f) ↔ Keeps s₀ s := by simp [State.modPort]
@[simp] theorem keeps_wardenAt (t p code a0 a1 a2) (s : State) : Keeps s₀ (s.wardenAt t p code a0 a1 a2) ↔ Keeps s₀ s := by
  simp [State.wardenAt]
@[simp] theorem keeps_wardenEvent (p code a0 a1 a2) (s : State) : Keeps s₀ (s.wardenEvent p code a0 a1 a2) ↔ Keeps s₀ s := by
  simp [State.wardenEvent]
@[simp] theorem keeps_setPhase (p phase t) (s : State) : Keeps s₀ (s.setPhase p phase t) ↔ Keeps s₀ s := by simp [State.setPhase]
@[simp] theorem keeps_decideCapture (p c t) (s : State) : Keeps s₀ (s.decideCapture p c t) ↔ Keeps s₀ s := by
  unfold State.decideCapture; split <;> simp
@[simp] theorem keeps_decideHeld (p t) (s : State) : Keeps s₀ (s.decideHeld p t) ↔ Keeps s₀ s := by
  unfold State.decideHeld; dsimp only; repeat' split
  all_goals simp
@[simp] theorem keeps_denyOpcode (p op) (s : State) : Keeps s₀ (s.denyOpcode p op) ↔ Keeps s₀ s := by simp [State.denyOpcode]
@[simp] theorem keeps_busyReads (p op any) (s : State) : Keeps s₀ (s.busyReads p op any) ↔ Keeps s₀ s := by simp [State.busyReads]
@[simp] theorem keeps_deniedReads (p op first) (s : State) : Keeps s₀ (s.deniedReads p op first) ↔ Keeps s₀ s := by
  unfold State.deniedReads; split <;> simp
@[simp] theorem keeps_passData (p x sh) (s : State) : Keeps s₀ (s.passData p x sh) ↔ Keeps s₀ s := by simp [State.passData]
@[simp] theorem keeps_passReg (p x sh) (s : State) : Keeps s₀ (s.passReg p x sh) ↔ Keeps s₀ s := by
  unfold State.passReg; dsimp only; repeat' split
  · simp
  · simp
  · simp
  · exact Iff.rfl
@[simp] theorem keeps_capture (p x sh wasArmed) (s : State) : Keeps s₀ (s.capture p x sh wasArmed) ↔ Keeps s₀ s := by simp [State.capture]
@[simp] theorem keeps_hostTransaction (p x) (s : State) : Keeps s₀ (s.hostTransaction p x) ↔ Keeps s₀ s := by
  unfold State.hostTransaction; dsimp only; repeat' split
  all_goals simp
@[simp] theorem keeps_makeStale (p c) (s : State) : Keeps s₀ (s.makeStale p c) ↔ Keeps s₀ s := by simp [State.makeStale]
@[simp] theorem keeps_landOp (p) {s : State} (h : Keeps s₀ s) : Keeps s₀ (s.landOp p) := by
  unfold State.landOp; dsimp only; repeat' split
  · exact h
  · exact h
  · exact keeps_setFlash (by simpa using h) fun hw => wf_ownEffect (flash_wf hw)
@[simp] theorem keeps_busyExpires (p o) {s : State} (h : Keeps s₀ s) : Keeps s₀ (s.busyExpires p o) := by
  unfold State.busyExpires
  dsimp only
  rw [keeps_wardenEvent, keeps_modPort, keeps_free]
  exact keeps_setFlash (by simp [h]) fun hw => wf_mwrite _ _ _ _ (flash_wf hw)
@[simp] theorem keeps_denyReview (p code t byExpiry) (s : State) : Keeps s₀ (s.denyReview p code t byExpiry) ↔ Keeps s₀ s := by
  unfold State.denyReview; split <;> simp
@[simp] theorem keeps_denyReviews (s : State) : Keeps s₀ s.denyReviews ↔ Keeps s₀ s := by simp [State.denyReviews]
@[simp] theorem keeps_enterHold (p t) (s : State) : Keeps s₀ (s.enterHold p t) ↔ Keeps s₀ s := by simp [State.enterHold]
@[simp] theorem keeps_holdSteps (p r) (s : State) : Keeps s₀ (s.holdSteps p r) ↔ Keeps s₀ s := by simp [State.holdSteps]
@[simp] theorem keeps_viaLink {o l body} {s : State} (h : Keeps s₀ s) :
    Keeps s₀ (s.viaLink o l body) ↔ (s.inSession l = true → Keeps s₀ (body s)) := by
  unfold State.viaLink; split <;> simp_all
@[simp] theorem keeps_wdnCommand {o len fields zs body} {s : State} (h : Keeps s₀ s) (hbody : Keeps s₀ (body (byteAt o.payload 0) s)) :
    Keeps s₀ (s.wdnCommand o len fields zs body) := by simp [State.wdnCommand, h, hbody]
@[simp] theorem keeps_answerReview (o p approve r) (s : State) : Keeps s₀ (s.answerReview o p approve r) ↔ Keeps s₀ s := by
  simp [State.answerReview]

/-! ## Domains -/

@[simp] theorem keeps_setDomain (n d) (s : State) : Keeps s₀ (s.setDomain n d) ↔ Keeps s₀ s := by simp [State.setDomain]
@[simp] theorem keeps_drainEnds (n t reachedT) (s : State) : Keeps s₀ (s.drainEnds n t reachedT) ↔ Keeps s₀ s := by simp [State.drainEnds]
@[simp] theorem keeps_poolWrite (a bs) {s : State} (h : Keeps s₀ s) : Keeps s₀ (s.poolWrite a bs) :=
  keeps_modWdn_of h (wf_mwrite _ _ _ _) rfl
@[simp] theorem keeps_accessFault (core addr) (s : State) : Keeps s₀ (s.accessFault core addr) ↔ Keeps s₀ s := by
  unfold State.accessFault; split <;> simp
@[simp] theorem keeps_logReserved (core addr mask) (s : State) : Keeps s₀ (s.logReserved core addr mask) ↔ Keeps s₀ s := by
  simp [State.logReserved]
@[simp] theorem keeps_relayAccess {core addr body} {s : State} (h : Keeps s₀ s) :
    Keeps s₀ (s.relayAccess core addr body) ↔ (s.reachesRelay core → Keeps s₀ (body s)) := by
  unfold State.relayAccess State.reachesRelay; repeat' split
  all_goals simp_all
@[simp] theorem keeps_readResult (core v) (s : State) : Keeps s₀ (s.readResult core v) ↔ Keeps s₀ s := by
  unfold State.readResult; split <;> simp

/-! ## The Pacer -/

@[simp] theorem keeps_modBank (b f) (s : State) : Keeps s₀ (s.modBank b f) ↔ Keeps s₀ s := Iff.rfl
@[simp] theorem keeps_modComp (n f) (s : State) : Keeps s₀ (s.modComp n f) ↔ Keeps s₀ s := Iff.rfl
@[simp] theorem keeps_bankLog (b t src code a0 a1 a2 late) (s : State) : Keeps s₀ (s.bankLog b t src code a0 a1 a2 late) ↔ Keeps s₀ s := by
  simp [State.bankLog]
@[simp] theorem keeps_bankAnswer (b ticket code result) (s : State) : Keeps s₀ (s.bankAnswer b ticket code result) ↔ Keeps s₀ s := by
  simp [State.bankAnswer]
@[simp] theorem keeps_bankDeliver (b) (s : State) : Keeps s₀ (s.bankDeliver b) ↔ Keeps s₀ s := by simp [State.bankDeliver]
@[simp] theorem keeps_setBucket (die n k) (s : State) : Keeps s₀ (s.setBucket die n k) ↔ Keeps s₀ s := Iff.rfl
@[simp] theorem keeps_applyPacer (die) (s : State) : Keeps s₀ (s.applyPacer die) ↔ Keeps s₀ s :=
  keeps_foldl fun _ _ => Iff.rfl
@[simp] theorem keeps_pacerLog (die t code n before after) (s : State) : Keeps s₀ (s.pacerLog die t code n before after) ↔ Keeps s₀ s := by
  simp [State.pacerLog]
@[simp] theorem keeps_debitUnit (b unit total refused) (s : State) : Keeps s₀ (s.debitUnit b unit total refused) ↔ Keeps s₀ s := by
  simp [State.debitUnit]
@[simp] theorem keeps_endSkips (b) (s : State) : Keeps s₀ (s.endSkips b) ↔ Keeps s₀ s := by simp [State.endSkips]
@[simp] theorem keeps_skipHeat (b reason) (s : State) : Keeps s₀ (s.skipHeat b reason) ↔ Keeps s₀ s := by simp [State.skipHeat]
@[simp] theorem keeps_dispatch (b a) (s : State) : Keeps s₀ (s.dispatch b a) ↔ Keeps s₀ s := by simp [State.dispatch]
@[simp] theorem keeps_heat (b pend) (s : State) : Keeps s₀ (s.heat b pend) ↔ Keeps s₀ s := by
  unfold State.heat; dsimp only; repeat' split
  all_goals simp
@[simp] theorem keeps_heatBarred (b pend) (s : State) : Keeps s₀ (s.heatBarred b pend) ↔ Keeps s₀ s := by simp [State.heatBarred]
@[simp] theorem keeps_setPcrStage (die i v) (s : State) : Keeps s₀ (s.setPcrStage die i v) ↔ Keeps s₀ s := Iff.rfl
theorem keeps_pcrGo {core die v body} {s : State} (h : Keeps s₀ s) (hbody : ∀ n r u, Keeps s₀ u → Keeps s₀ (body n r u)) :
    Keeps s₀ (s.pcrGo core die v body) := by
  unfold State.pcrGo; dsimp only; repeat' split
  · simpa using h
  · exact h
  · simpa using h
  · exact hbody _ _ _ (by simpa using h)
@[simp] theorem keeps_bucketChecks {o die n body} {s : State} (h : Keeps s₀ s) :
    Keeps s₀ (s.bucketChecks o die n body) ↔ ∀ r, s.bucketRec die n = some r → s.inSession die = true → Keeps s₀ (body r s) := by
  unfold State.bucketChecks; repeat' split
  all_goals simp_all

/-! ## Compartments -/

@[simp] theorem keeps_applyWatch (b t watch) (s : State) : Keeps s₀ (s.applyWatch b t watch) ↔ Keeps s₀ s := by simp [State.applyWatch]
@[simp] theorem keeps_compLog (n t code a0 a1 cause late) (s : State) : Keeps s₀ (s.compLog n t code a0 a1 cause late) ↔ Keeps s₀ s := by
  simp [State.compLog]
@[simp] theorem keeps_issueReq (n unlock t cause) (s : State) : Keeps s₀ (s.issueReq n unlock t cause) ↔ Keeps s₀ s := by
  simp [State.issueReq]
@[simp] theorem keeps_reportState (n) (s : State) : Keeps s₀ (s.reportState n) ↔ Keeps s₀ s := by simp [State.reportState]
@[simp] theorem keeps_setComp (n st fault t cause) (s : State) : Keeps s₀ (s.setComp n st fault t cause) ↔ Keeps s₀ s := by
  simp [State.setComp]
@[simp] theorem keeps_enterUnlatched (n t cause) (s : State) : Keeps s₀ (s.enterUnlatched n t cause) ↔ Keeps s₀ s := by
  simp [State.enterUnlatched]
@[simp] theorem keeps_deriveComp (n t cause) (s : State) : Keeps s₀ (s.deriveComp n t cause) ↔ Keeps s₀ s := by simp [State.deriveComp]
@[simp] theorem keeps_openNotice (n code result) (s : State) : Keeps s₀ (s.openNotice n code result) ↔ Keeps s₀ s := by
  unfold State.openNotice; split <;> simp
@[simp] theorem keeps_relockNotice (n code result) (s : State) : Keeps s₀ (s.relockNotice n code result) ↔ Keeps s₀ s := by
  simp [State.relockNotice]
@[simp] theorem keeps_openOk (n result t) (s : State) : Keeps s₀ (s.openOk n result t) ↔ Keeps s₀ s := by simp [State.openOk]
@[simp] theorem keeps_openRefused (n detail) (s : State) : Keeps s₀ (s.openRefused n detail) ↔ Keeps s₀ s := by simp [State.openRefused]
@[simp] theorem keeps_relockOk (n result t) (s : State) : Keeps s₀ (s.relockOk n result t) ↔ Keeps s₀ s := by simp [State.relockOk]
@[simp] theorem keeps_relockRefused (n detail) (s : State) : Keeps s₀ (s.relockRefused n detail) ↔ Keeps s₀ s := by
  simp [State.relockRefused]
@[simp] theorem keeps_cancelUnlock (n t cause code result) (s : State) : Keeps s₀ (s.cancelUnlock n t cause code result) ↔ Keeps s₀ s := by
  simp [State.cancelUnlock]
@[simp] theorem keeps_relockUnlocked (n t cause) (s : State) : Keeps s₀ (s.relockUnlocked n t cause) ↔ Keeps s₀ s := by
  simp [State.relockUnlocked]
@[simp] theorem keeps_relockIfOpenable (n t cause) (s : State) : Keeps s₀ (s.relockIfOpenable n t cause) ↔ Keeps s₀ s := by
  simp [State.relockIfOpenable]
@[simp] theorem keeps_verifyExpires (n) (s : State) : Keeps s₀ (s.verifyExpires n) ↔ Keeps s₀ s := by
  unfold State.verifyExpires; split <;> simp
@[simp] theorem keeps_relockExpires (n) (s : State) : Keeps s₀ (s.relockExpires n) ↔ Keeps s₀ s := by
  unfold State.relockExpires; split <;> simp
@[simp] theorem keeps_ajarExpires (n) (s : State) : Keeps s₀ (s.ajarExpires n) ↔ Keeps s₀ s := by unfold State.ajarExpires; split <;> simp
@[simp] theorem keeps_settleTimers (n t) (s : State) : Keeps s₀ (s.settleTimers n t) ↔ Keeps s₀ s := by simp [State.settleTimers]
@[simp] theorem keeps_doorOpens (n t) (s : State) : Keeps s₀ (s.doorOpens n t) ↔ Keeps s₀ s := by simp [State.doorOpens]
@[simp] theorem keeps_doorCloses (n t) (s : State) : Keeps s₀ (s.doorCloses n t) ↔ Keeps s₀ s := by simp [State.doorCloses]
@[simp] theorem keeps_boltWithdrawn (n t) (s : State) : Keeps s₀ (s.boltWithdrawn n t) ↔ Keeps s₀ s := by simp [State.boltWithdrawn]
@[simp] theorem keeps_boltThrows (n t) (s : State) : Keeps s₀ (s.boltThrows n t) ↔ Keeps s₀ s := by simp [State.boltThrows]
@[simp] theorem keeps_contactChange (n t bolt v) (s : State) : Keeps s₀ (s.contactChange n t bolt v) ↔ Keeps s₀ s := by
  unfold State.contactChange; dsimp only; repeat' split
  all_goals simp
@[simp] theorem keeps_debounceEnds (n bolt) (s : State) : Keeps s₀ (s.debounceEnds n bolt) ↔ Keeps s₀ s := by
  unfold State.debounceEnds; split <;> simp
@[simp] theorem keeps_stopSample (n thrown) (s : State) : Keeps s₀ (s.stopSample n thrown) ↔ Keeps s₀ s := by simp [State.stopSample]
@[simp] theorem keeps_takeSample (n bolt v) (s : State) : Keeps s₀ (s.takeSample n bolt v) ↔ Keeps s₀ s := by simp [State.takeSample]
@[simp] theorem keeps_senseComp (n returns) (s : State) : Keeps s₀ (s.senseComp n returns) ↔ Keeps s₀ s := by simp [State.senseComp]
@[simp] theorem keeps_completeScan (b) (s : State) : Keeps s₀ (s.completeScan b) ↔ Keeps s₀ s := by simp [State.completeScan]
@[simp] theorem keeps_bankClaim (b) (s : State) : Keeps s₀ (s.bankClaim b) ↔ Keeps s₀ s := by simp [State.bankClaim]
@[simp] theorem keeps_pulseEnds (n r) (s : State) : Keeps s₀ (s.pulseEnds n r) ↔ Keeps s₀ s := by simp [State.pulseEnds]
@[simp] theorem keeps_cutPulse (n cause detail) (s : State) : Keeps s₀ (s.cutPulse n cause detail) ↔ Keeps s₀ s := by simp [State.cutPulse]
@[simp] theorem keeps_endPending (n code result) (s : State) : Keeps s₀ (s.endPending n code result) ↔ Keeps s₀ s := by
  simp [State.endPending]
@[simp] theorem keeps_bankTimerEnds (b) (s : State) : Keeps s₀ (s.bankTimerEnds b) ↔ Keeps s₀ s := by simp [State.bankTimerEnds]
@[simp] theorem keeps_bankDrains (b ticket) (s : State) : Keeps s₀ (s.bankDrains b ticket) ↔ Keeps s₀ s := by simp [State.bankDrains]
@[simp] theorem keeps_applyLockdown (b t) (s : State) : Keeps s₀ (s.applyLockdown b t) ↔ Keeps s₀ s := by simp [State.applyLockdown]
@[simp] theorem keeps_applyLift (b) (s : State) : Keeps s₀ (s.applyLift b) ↔ Keeps s₀ s := by simp [State.applyLift]
@[simp] theorem keeps_endStage (n code result) (s : State) : Keeps s₀ (s.endStage n code result) ↔ Keeps s₀ s := by
  unfold State.endStage; split <;> simp
@[simp] theorem keeps_endStages (detail) (s : State) : Keeps s₀ (s.endStages detail) ↔ Keeps s₀ s := by simp [State.endStages]
@[simp] theorem keeps_resyncBank (b) (s : State) : Keeps s₀ (s.resyncBank b) ↔ Keeps s₀ s := by simp [State.resyncBank]
@[simp] theorem keeps_applyBank (b) (s : State) : Keeps s₀ (s.applyBank b) ↔ Keeps s₀ s := by
  unfold State.applyBank; dsimp only
  rw [keeps_resyncBank, keeps_applyPacer, keeps_modBank]; exact Iff.rfl
@[simp] theorem keeps_applyAnswer (n ticket code result) (s : State) : Keeps s₀ (s.applyAnswer n ticket code result) ↔ Keeps s₀ s := by
  unfold State.applyAnswer; split <;> simp
@[simp] theorem keeps_applyOpen (n ticket t cause) (s : State) : Keeps s₀ (s.applyOpen n ticket t cause) ↔ Keeps s₀ s := by
  unfold State.applyOpen; dsimp only; repeat' split
  all_goals simp
@[simp] theorem keeps_joinRelock (n ticket) (s : State) : Keeps s₀ (s.joinRelock n ticket) ↔ Keeps s₀ s := by simp [State.joinRelock]
@[simp] theorem keeps_applyRelock (n ticket t cause) (s : State) : Keeps s₀ (s.applyRelock n ticket t cause) ↔ Keeps s₀ s := by
  unfold State.applyRelock; dsimp only; repeat' split
  all_goals simp
@[simp] theorem keeps_actuate (n ticket cause) (s : State) : Keeps s₀ (s.actuate n ticket cause) ↔ Keeps s₀ s := by simp [State.actuate]
@[simp] theorem keeps_afterDual (n t g) (s : State) : Keeps s₀ (s.afterDual n t g) ↔ Keeps s₀ s := by simp [State.afterDual]
@[simp] theorem keeps_stageEnds (n) (s : State) : Keeps s₀ (s.stageEnds n) ↔ Keeps s₀ s := by unfold State.stageEnds; split <;> simp
@[simp] theorem keeps_stageExpiry (n kind) (s : State) : Keeps s₀ (s.stageExpiry n kind) ↔ Keeps s₀ s := by simp [State.stageExpiry]
@[simp] theorem keeps_settleStage (n) (s : State) : Keeps s₀ (s.settleStage n) ↔ Keeps s₀ s := by simp [State.settleStage]
@[simp] theorem keeps_compCommand {o body} {s : State} (h : Keeps s₀ s) (hbody : Keeps s₀ (body (u16 o.payload 0) s)) :
    Keeps s₀ (s.compCommand o body) := by simp [State.compCommand, h, hbody]
@[simp] theorem keeps_compReach {o ns body} {s : State} (h : Keeps s₀ s) (hbody : Keeps s₀ (body s)) :
    Keeps s₀ (s.compReach o ns body) := by
  unfold State.compReach; repeat' split
  all_goals simp_all
@[simp] theorem keeps_openStages (o n) (s : State) : Keeps s₀ (s.openStages o n) ↔ Keeps s₀ s := by simp [State.openStages]
@[simp] theorem keeps_confirmOpen (o n) (s : State) : Keeps s₀ (s.confirmOpen o n) ↔ Keeps s₀ s := by simp [State.confirmOpen]
@[simp] theorem keeps_targetCommand {o len fields lock refusals each} {s : State} (h : Keeps s₀ s)
    (heach : ∀ n u, Keeps s₀ (each n u) ↔ Keeps s₀ u) : Keeps s₀ (s.targetCommand o len fields lock refusals each) := by
  simp [State.targetCommand, h, heach]
@[simp] theorem keeps_setFreeze (n t cause v) (s : State) : Keeps s₀ (s.setFreeze n t cause v) ↔ Keeps s₀ s := by simp [State.setFreeze]

/-! ## Custody -/

@[simp] theorem keeps_setSession (n x) (s : State) : Keeps s₀ (s.setSession n x) ↔ Keeps s₀ s := by simp [State.setSession]
@[simp] theorem keeps_cusDrop (s : State) : Keeps s₀ s.cusDrop ↔ Keeps s₀ s := by simp [State.cusDrop]
@[simp] theorem keeps_cusTagFail (s : State) : Keeps s₀ s.cusTagFail ↔ Keeps s₀ s := by simp [State.cusTagFail]
@[simp] theorem keeps_cusSend (session type body address) (s : State) : Keeps s₀ (s.cusSend session type body address) ↔ Keeps s₀ s := by
  simp [State.cusSend]
@[simp] theorem keeps_closeSession (n) (s : State) : Keeps s₀ (s.closeSession n) ↔ Keeps s₀ s := by simp [State.closeSession]
@[simp] theorem keeps_closeSessions (s : State) : Keeps s₀ s.closeSessions ↔ Keeps s₀ s := keeps_foldl fun _ _ => by simp
@[simp] theorem keeps_endHandshake (keep) (s : State) : Keeps s₀ (s.endHandshake keep) ↔ Keeps s₀ s := by
  unfold State.endHandshake; split <;> simp
@[simp] theorem keeps_cusReject (reason address) (s : State) : Keeps s₀ (s.cusReject reason address) ↔ Keeps s₀ s := by
  simp [State.cusReject]
@[simp] theorem keeps_rejectHandshake (reason address) (s : State) : Keeps s₀ (s.rejectHandshake reason address) ↔ Keeps s₀ s := by
  simp [State.rejectHandshake]
@[simp] theorem keeps_answerHello (body address) (s : State) : Keeps s₀ (s.answerHello body address) ↔ Keeps s₀ s := by
  simp [State.answerHello]
@[simp] theorem keeps_checkHello (body address) (s : State) : Keeps s₀ (s.checkHello body address) ↔ Keeps s₀ s := by
  simp [State.checkHello]
@[simp] theorem keeps_helloFragment (source index count body) (s : State) :
    Keeps s₀ (s.helloFragment source index count body) ↔ Keeps s₀ s := by
  unfold State.helloFragment; dsimp only; repeat' split
  all_goals simp
@[simp] theorem keeps_openSession (h source finish) (s : State) : Keeps s₀ (s.openSession h source finish) ↔ Keeps s₀ s := by
  simp [State.openSession]
@[simp] theorem keeps_finishFragment (source session index count body) (s : State) :
    Keeps s₀ (s.finishFragment source session index count body) ↔ Keeps s₀ s := by
  unfold State.finishFragment; dsimp only; repeat' split
  all_goals simp
@[simp] theorem keeps_cusMessage (n msg) (s : State) : Keeps s₀ (s.cusMessage n msg) ↔ Keeps s₀ s := by
  unfold State.cusMessage; split <;> simp
@[simp] theorem keeps_dataFragment (n seq index count text prev) (s : State) :
    Keeps s₀ (s.dataFragment n seq index count text prev) ↔ Keeps s₀ s := by
  unfold State.dataFragment; dsimp only; repeat' split
  all_goals simp
@[simp] theorem keeps_protectedRecord (source n type seq index count header ct tag) (s : State) :
    Keeps s₀ (s.protectedRecord source n type seq index count header ct tag) ↔ Keeps s₀ s := by
  unfold State.protectedRecord; dsimp only; repeat' split
  all_goals simp
@[simp] theorem keeps_handshakeOver (type) (s : State) : Keeps s₀ (s.handshakeOver type) ↔ Keeps s₀ s := by
  unfold State.handshakeOver; split <;> simp

/-! ## The Marshal -/

@[simp] theorem keeps_redFlagBit (t bitNo response) (s : State) : Keeps s₀ (s.redFlagBit t bitNo response) ↔ Keeps s₀ s := by
  simp [State.redFlagBit]
@[simp] theorem keeps_redFlagEffects (t) (s : State) : Keeps s₀ (s.redFlagEffects t) ↔ Keeps s₀ s := by simp [State.redFlagEffects]
@[simp] theorem keeps_enterRedFlag (by_) (s : State) : Keeps s₀ (s.enterRedFlag by_) ↔ Keeps s₀ s := by simp [State.enterRedFlag]
@[simp] theorem keeps_lockdownOrder (p opcode bitNo) (s : State) : Keeps s₀ (s.lockdownOrder p opcode bitNo) ↔ Keeps s₀ s := by
  simp [State.lockdownOrder]

/-! ## Frames -/

@[simp] theorem keeps_modNet (f) (s : State) : Keeps s₀ (s.modNet f) ↔ Keeps s₀ s := Iff.rfl
@[simp] theorem keeps_modMac (m f) (s : State) : Keeps s₀ (s.modMac m f) ↔ Keeps s₀ s := by simp [State.modMac]
@[simp] theorem keeps_drop (m reason frameBaton rule late) (s : State) : Keeps s₀ (s.drop m reason frameBaton rule late) ↔ Keeps s₀ s := by
  unfold State.drop; dsimp only; repeat' split
  all_goals simp
@[simp] theorem keeps_removeFrame (f) (s : State) : Keeps s₀ (s.removeFrame f) ↔ Keeps s₀ s := by simp [State.removeFrame]
@[simp] theorem keeps_replaceFrame (f g) (s : State) : Keeps s₀ (s.replaceFrame f g) ↔ Keeps s₀ s := by simp [State.replaceFrame]
@[simp] theorem keeps_frameLeaves (f) (s : State) : Keeps s₀ (s.frameLeaves f) ↔ Keeps s₀ s := by unfold State.frameLeaves; split <;> simp
@[simp] theorem keeps_dropFrame (f m reason late) (s : State) : Keeps s₀ (s.dropFrame f m reason late) ↔ Keeps s₀ s := by
  simp [State.dropFrame]
@[simp] theorem keeps_dropByRule (f m reason rule) (s : State) : Keeps s₀ (s.dropByRule f m reason rule) ↔ Keeps s₀ s := by
  simp [State.dropByRule]
@[simp] theorem keeps_mirrorStart (f) (s : State) : Keeps s₀ (s.mirrorStart f) ↔ Keeps s₀ s := by simp [State.mirrorStart]
@[simp] theorem keeps_dropQueued (m) (s : State) : Keeps s₀ (s.dropQueued m) ↔ Keeps s₀ s := by simp [State.dropQueued]
@[simp] theorem keeps_sfd (m) (s : State) : Keeps s₀ (s.sfd m) ↔ Keeps s₀ s := by simp [State.sfd]
@[simp] theorem keeps_pause (quanta) (s : State) : Keeps s₀ (s.pause quanta) ↔ Keeps s₀ s := by simp [State.pause]
@[simp] theorem keeps_macControl (m frame) (s : State) : Keeps s₀ (s.macControl m frame) ↔ Keeps s₀ s := by simp [State.macControl]
@[simp] theorem keeps_storeFrame (m frame injected) (s : State) : Keeps s₀ (s.storeFrame m frame injected) ↔ Keeps s₀ s := by
  simp [State.storeFrame]
@[simp] theorem keeps_received (m frame bad) (s : State) : Keeps s₀ (s.received m frame bad) ↔ Keeps s₀ s := by simp [State.received]
@[simp] theorem keeps_dispatchOrStale {f body} {s : State} (h : Keeps s₀ s) (hbody : Keeps s₀ (body s)) :
    Keeps s₀ (s.dispatchOrStale f body) := by
  unfold State.dispatchOrStale; split <;> simp_all
@[simp] theorem keeps_sendOn (m f g) (s : State) : Keeps s₀ (s.sendOn m f g) ↔ Keeps s₀ s := by simp [State.sendOn]

/-! ## The classifier -/

@[simp] theorem keeps_modCls (f) (s : State) : Keeps s₀ (s.modCls f) ↔ Keeps s₀ s := by simp [State.modCls]
@[simp] theorem keeps_toSteward (f reason rule epoch) (s : State) : Keeps s₀ (s.toSteward f reason rule epoch) ↔ Keeps s₀ s := by
  simp [State.toSteward]
@[simp] theorem keeps_act (f action rule epoch refused) (s : State) : Keeps s₀ (s.act f action rule epoch refused) ↔ Keeps s₀ s := by
  unfold State.act; split <;> simp
@[simp] theorem keeps_meetRules (f) (s : State) : Keeps s₀ (s.meetRules f) ↔ Keeps s₀ s := by
  unfold State.meetRules; dsimp only; repeat' split
  all_goals simp
@[simp] theorem keeps_siteFrame (bs) (s : State) : Keeps s₀ (s.siteFrame bs) ↔ Keeps s₀ s := by simp [State.siteFrame]
@[simp] theorem keeps_commitTakes (e) (s : State) : Keeps s₀ (s.commitTakes e) ↔ Keeps s₀ s := by simp [State.commitTakes]
@[simp] theorem keeps_pendingTakes (e) (s : State) : Keeps s₀ (s.pendingTakes e) ↔ Keeps s₀ s := by
  unfold State.pendingTakes; split <;> simp
@[simp] theorem keeps_writeShadow (both f) (s : State) : Keeps s₀ (s.writeShadow both f) ↔ Keeps s₀ s := by simp [State.writeShadow]
@[simp] theorem keeps_clearsCounter (both i) (s : State) : Keeps s₀ (s.clearsCounter both i) ↔ Keeps s₀ s := by simp [State.clearsCounter]
@[simp] theorem keeps_applyNet (s : State) : Keeps s₀ s.applyNet ↔ Keeps s₀ s := by simp [State.applyNet]
@[simp] theorem keeps_netOff (s : State) : Keeps s₀ s.netOff ↔ Keeps s₀ s := by simp [State.netOff]
@[simp] theorem keeps_netBack (s : State) : Keeps s₀ s.netBack ↔ Keeps s₀ s := by simp [State.netBack]

/-! ## The Nose -/

@[simp] theorem keeps_startScrub (t) (s : State) : Keeps s₀ (s.startScrub t) ↔ Keeps s₀ s := by simp [State.startScrub]
@[simp] theorem keeps_endTenant (t cause) (s : State) : Keeps s₀ (s.endTenant t cause) ↔ Keeps s₀ s := by simp [State.endTenant]
@[simp] theorem keeps_noseDq (s : State) : Keeps s₀ s.noseDq ↔ Keeps s₀ s := by simp [State.noseDq]
@[simp] theorem keeps_spoil (s : State) : Keeps s₀ s.spoil ↔ Keeps s₀ s := by
  unfold State.spoil; split
  · rfl
  · exact keeps_foldl fun u l => Iff.rfl
@[simp] theorem keeps_dropLoad (t) (s : State) : Keeps s₀ (s.dropLoad t) ↔ Keeps s₀ s := by simp [State.dropLoad]
@[simp] theorem keeps_closeImport (s : State) : Keeps s₀ s.closeImport ↔ Keeps s₀ s := by unfold State.closeImport; split <;> simp
@[simp] theorem keeps_noseDrainEnd (t reachedT) (s : State) : Keeps s₀ (s.noseDrainEnd t reachedT) ↔ Keeps s₀ s := by
  simp [State.noseDrainEnd]
@[simp] theorem keeps_noseDrains (ticket) (s : State) : Keeps s₀ (s.noseDrains ticket) ↔ Keeps s₀ s := by
  unfold State.noseDrains; dsimp only; repeat' split
  all_goals simp
@[simp] theorem keeps_noseTimerEnds (s : State) : Keeps s₀ s.noseTimerEnds ↔ Keeps s₀ s := by
  unfold State.noseTimerEnds; dsimp only; repeat' split
  all_goals simp
@[simp] theorem keeps_pushSample (source start ready value) (s : State) :
    Keeps s₀ (s.pushSample source start ready value) ↔ Keeps s₀ s := by
  simp [State.pushSample]
@[simp] theorem keeps_startCompute (s : State) : Keeps s₀ s.startCompute ↔ Keeps s₀ s := by unfold State.startCompute; split <;> simp
@[simp] theorem keeps_dropWindow (s : State) : Keeps s₀ s.dropWindow ↔ Keeps s₀ s := by
  unfold State.dropWindow; dsimp only; repeat' split
  all_goals simp
@[simp] theorem keeps_windowEdge (s : State) : Keeps s₀ s.windowEdge ↔ Keeps s₀ s := by simp [State.windowEdge]
@[simp] theorem keeps_classActive (n) (s : State) : Keeps s₀ (s.classActive n) ↔ Keeps s₀ s := by simp [State.classActive]
@[simp] theorem keeps_inferenceEnds (w) (s : State) : Keeps s₀ (s.inferenceEnds w) ↔ Keeps s₀ s := by simp [State.inferenceEnds]
@[simp] theorem keeps_settleCompute (s : State) : Keeps s₀ s.settleCompute ↔ Keeps s₀ s := by unfold State.settleCompute; split <;> simp
@[simp] theorem keeps_openTenant (i) (s : State) : Keeps s₀ (s.openTenant i) ↔ Keeps s₀ s := by simp [State.openTenant]
@[simp] theorem keeps_importRuns (o) (s : State) : Keeps s₀ (s.importRuns o) ↔ Keeps s₀ s := by
  unfold State.importRuns; dsimp only; repeat' split
  all_goals simp
@[simp] theorem keeps_noseCommand {o query body} {s : State} (h : Keeps s₀ s) (hbody : Keeps s₀ (body s)) :
    Keeps s₀ (s.noseCommand o query body) := by
  unfold State.noseCommand; repeat' split
  all_goals simp_all

/-! ## Images -/

@[simp] theorem keeps_fillPages (p i window) {s : State} (h : Keeps s₀ s) : Keeps s₀ (s.fillPages p i window) := by
  simp [State.fillPages, h]
@[simp] theorem keeps_commitPages (p i) (s : State) : Keeps s₀ (s.commitPages p i) ↔ Keeps s₀ s := by simp [State.commitPages]
@[simp] theorem keeps_discardPages (p i) {s : State} (h : Keeps s₀ s) : Keeps s₀ (s.discardPages p i) := by
  unfold State.discardPages; dsimp only
  rw [keeps_logAt]
  exact keeps_modWdn_of h (wf_foldl_mclear _) rfl
@[simp] theorem keeps_readDirectory (s : State) : Keeps s₀ s.readDirectory ↔ Keeps s₀ s := by unfold State.readDirectory; split <;> simp

/-! ## Platforms -/

@[simp] theorem keeps_modImage (p i f) (s : State) : Keeps s₀ (s.modImage p i f) ↔ Keeps s₀ s := by simp [State.modImage]
@[simp] theorem keeps_againDone (s : State) : Keeps s₀ s.againDone ↔ Keeps s₀ s := by simp [State.againDone]
@[simp] theorem keeps_settlePlat (p) (s : State) : Keeps s₀ (s.settlePlat p) ↔ Keeps s₀ s := by simp [State.settlePlat]
@[simp] theorem keeps_measureImage (p i) (s : State) : Keeps s₀ (s.measureImage p i) ↔ Keeps s₀ s := by simp [State.measureImage]
@[simp] theorem keeps_tryMeasure (p) (s : State) : Keeps s₀ (s.tryMeasure p) ↔ Keeps s₀ s := by simp [State.tryMeasure]
@[simp] theorem keeps_queueRecovery (p i policy) (s : State) : Keeps s₀ (s.queueRecovery p i policy) ↔ Keeps s₀ s := by
  simp [State.queueRecovery]
@[simp] theorem keeps_giveVerdict (p i v) {s : State} (h : Keeps s₀ s) : Keeps s₀ (s.giveVerdict p i v) := by simp [State.giveVerdict, h]
@[simp] theorem keeps_readAll (p) {s : State} (h : Keeps s₀ s) : Keeps s₀ (s.readAll p) := by
  refine keeps_foldl_of (fun u i hu => ?_) (by simpa using h)
  split <;> simp [hu]
@[simp] theorem keeps_remeasure (p kind) (s : State) : Keeps s₀ (s.remeasure p kind) ↔ Keeps s₀ s := by simp [State.remeasure]
@[simp] theorem keeps_endImageJob (p i) (s : State) : Keeps s₀ (s.endImageJob p i) ↔ Keeps s₀ s := by
  unfold State.endImageJob; split <;> simp
@[simp] theorem keeps_sendLaunch (p t) (s : State) : Keeps s₀ (s.sendLaunch p t) ↔ Keeps s₀ s := by simp [State.sendLaunch]
@[simp] theorem keeps_skipPlat (p t) (s : State) : Keeps s₀ (s.skipPlat p t) ↔ Keeps s₀ s := by simp [State.skipPlat]
@[simp] theorem keeps_orderDone (t) (s : State) : Keeps s₀ (s.orderDone t) ↔ Keeps s₀ s := by
  unfold State.orderDone; dsimp only; repeat' split
  all_goals simp
@[simp] theorem keeps_releasePlat (p) (s : State) : Keeps s₀ (s.releasePlat p) ↔ Keeps s₀ s := by simp [State.releasePlat]
@[simp] theorem keeps_orderWaits (s : State) : Keeps s₀ s.orderWaits ↔ Keeps s₀ s := by simp [State.orderWaits]
@[simp] theorem keeps_closeOrder (s : State) : Keeps s₀ s.closeOrder ↔ Keeps s₀ s := by unfold State.closeOrder; split <;> simp
@[simp] theorem keeps_orderedRelease (p) (s : State) : Keeps s₀ (s.orderedRelease p) ↔ Keeps s₀ s := by simp [State.orderedRelease]
@[simp] theorem keeps_commandedRelease (p c) (s : State) : Keeps s₀ (s.commandedRelease p c) ↔ Keeps s₀ s := by
  unfold State.commandedRelease; dsimp only; repeat' split
  all_goals simp
@[simp] theorem keeps_holdByCommand (p) (s : State) : Keeps s₀ (s.holdByCommand p) ↔ Keeps s₀ s := by simp [State.holdByCommand]
@[simp] theorem keeps_phaseHold (o port) (s : State) : Keeps s₀ (s.phaseHold o port) ↔ Keeps s₀ s := by
  unfold State.phaseHold; split <;> simp

/-! ## The Formula -/

@[simp] theorem keeps_eraseSlot (k) {s : State} (h : Keeps s₀ s) : Keeps s₀ (s.eraseSlot k) :=
  keeps_modCores_of h (wf_mclear _ _ _ _) id id id
@[simp] theorem keeps_writeSlot (k b) {s : State} (h : Keeps s₀ s) : Keeps s₀ (s.writeSlot k b) :=
  keeps_modCores_of (keeps_eraseSlot k h) (wf_mwrite _ _ _ _) id id id
@[simp] theorem keeps_rejectFormula (code off) (s : State) : Keeps s₀ (s.rejectFormula code off) ↔ Keeps s₀ s := by
  simp [State.rejectFormula]
@[simp] theorem keeps_setResponses (v) (s : State) : Keeps s₀ (s.setResponses v) ↔ Keeps s₀ s := by simp [State.setResponses]
@[simp] theorem keeps_setStage (k) (s : State) : Keeps s₀ (s.setStage k) ↔ Keeps s₀ s := by simp [State.setStage]
@[simp] theorem keeps_noFormulaOperation (s : State) : Keeps s₀ s.noFormulaOperation ↔ Keeps s₀ s := by
  unfold State.noFormulaOperation; dsimp only
  simp only [keeps_beginCommit, keeps_modSvc, keeps_modMb, keeps_setStage, keeps_modBoot, keeps_modFrm]
  exact (keeps_foldl fun u l => by simp).trans Iff.rfl
@[simp] theorem keeps_verifySteward (f) (s : State) : Keeps s₀ (s.verifySteward f) ↔ Keeps s₀ s := by
  unfold State.verifySteward; split; simp
@[simp] theorem keeps_trainLinks (f) (s : State) : Keeps s₀ (s.trainLinks f) ↔ Keeps s₀ s := by
  refine keeps_foldl fun u l => ?_
  dsimp only; split <;> simp
@[simp] theorem keeps_tryFormula (n) (s : State) : Keeps s₀ (s.tryFormula n) ↔ Keeps s₀ s := by
  induction n generalizing s with
  | zero => exact keeps_noFormulaOperation s
  | succ n ih =>
    unfold State.tryFormula; dsimp only; repeat' split
    all_goals simp [ih]
@[simp] theorem keeps_startFormula (s : State) : Keeps s₀ s.startFormula ↔ Keeps s₀ s := by simp [State.startFormula]
@[simp] theorem keeps_failApplication (code off) (s : State) : Keeps s₀ (s.failApplication code off) ↔ Keeps s₀ s := by
  unfold State.failApplication; dsimp only
  split
  all_goals
    simp only [keeps_noFormulaOperation, keeps_tryFormula, keeps_setStage, keeps_modBoot, keeps_modFrm]
    refine (keeps_foldl fun u l => by simp).trans ((keeps_links _ _).trans ?_)
    simp only [keeps_setResponses, keeps_rejectFormula]
@[simp] theorem keeps_applyKeeper (f) (s : State) : Keeps s₀ (s.applyKeeper f) ↔ Keeps s₀ s := by simp [State.applyKeeper]
@[simp] theorem keeps_unstage (s : State) : Keeps s₀ s.unstage ↔ Keeps s₀ s := by simp [State.unstage]

/-! ## Lane engines -/

@[simp] theorem keeps_modLane (e f) (s : State) : Keeps s₀ (s.modLane e f) ↔ Keeps s₀ s := Iff.rfl
@[simp] theorem keeps_laneEvent (e code a0 a1) (s : State) : Keeps s₀ (s.laneEvent e code a0 a1) ↔ Keeps s₀ s := by simp [State.laneEvent]
@[simp] theorem keeps_laneRecordAt (t e tag type code phase late) (s : State) :
    Keeps s₀ (s.laneRecordAt t e tag type code phase late) ↔ Keeps s₀ s := by
  simp [State.laneRecordAt]
@[simp] theorem keeps_laneRecord (e tag type code phase) (s : State) : Keeps s₀ (s.laneRecord e tag type code phase) ↔ Keeps s₀ s := by
  simp [State.laneRecord]
@[simp] theorem keeps_endEntry (e b code phase t late) (s : State) : Keeps s₀ (s.endEntry e b code phase t late) ↔ Keeps s₀ s := by
  simp [State.endEntry]
@[simp] theorem keeps_flushQueue (e code t) (s : State) : Keeps s₀ (s.flushQueue e code t) ↔ Keeps s₀ s := by simp [State.flushQueue]
@[simp] theorem keeps_openBytes (a n) {s : State} (h : Keeps s₀ s) : Keeps s₀ (s.openBytes a n) := by
  unfold State.openBytes; dsimp only
  rw [keeps_free]
  exact keeps_poolWrite _ _ h
@[simp] theorem keeps_spoilInput (e b) {s : State} (h : Keeps s₀ s) : Keeps s₀ (s.spoilInput e b) := by simp [State.spoilInput, h]
@[simp] theorem keeps_pushOutcome (e result detail offset) (s : State) : Keeps s₀ (s.pushOutcome e result detail offset) ↔ Keeps s₀ s := by
  simp [State.pushOutcome]
@[simp] theorem keeps_pushEntry (e) (s : State) : Keeps s₀ (s.pushEntry e) ↔ Keeps s₀ s := by
  unfold State.pushEntry; dsimp only; repeat' split
  all_goals simp
@[simp] theorem keeps_breakEntry (e b late) (s : State) : Keeps s₀ (s.breakEntry e b late) ↔ Keeps s₀ s := by simp [State.breakEntry]
@[simp] theorem keeps_contTimeout (e) (s : State) : Keeps s₀ (s.contTimeout e) ↔ Keeps s₀ s := by unfold State.contTimeout; split <;> simp
@[simp] theorem keeps_laneOther (e) (s : State) : Keeps s₀ (s.laneOther e) ↔ Keeps s₀ s := by simp [State.laneOther]
@[simp] theorem keeps_laneDiscard (e aborted) (s : State) : Keeps s₀ (s.laneDiscard e aborted) ↔ Keeps s₀ s := by simp [State.laneDiscard]
@[simp] theorem keeps_laneDrain (e a) (s : State) : Keeps s₀ (s.laneDrain e a) ↔ Keeps s₀ s := by simp [State.laneDrain]
@[simp] theorem keeps_laneTimerEnds (e) {s : State} (h : Keeps s₀ s) : Keeps s₀ (s.laneTimerEnds e) := by
  unfold State.laneTimerEnds; dsimp only; repeat' split
  all_goals simp [h]
@[simp] theorem keeps_resetLanes (s : State) : Keeps s₀ s.resetLanes ↔ Keeps s₀ s := Iff.rfl

/-! ## Links -/

@[simp] theorem keeps_keeperSends (l now count kind) (s : State) : Keeps s₀ (s.keeperSends l now count kind) ↔ Keeps s₀ s := by
  simp [State.keeperSends]
@[simp] theorem keeps_applyRegions (s : State) : Keeps s₀ s.applyRegions ↔ Keeps s₀ s := by simp [State.applyRegions]
@[simp] theorem keeps_applyRelay (s : State) : Keeps s₀ s.applyRelay ↔ Keeps s₀ s := by simp [State.applyRelay]
@[simp] theorem keeps_restoreLevels (die) (s : State) : Keeps s₀ (s.restoreLevels die) ↔ Keeps s₀ s := by
  refine keeps_foldl fun u r => ?_
  dsimp only; split <;> rfl
@[simp] theorem keeps_reapplyBank (b) (s : State) : Keeps s₀ (s.reapplyBank b) ↔ Keeps s₀ s := by simp [State.reapplyBank]
@[simp] theorem keeps_relayLost {s : State} (h : Keeps s₀ s) : Keeps s₀ s.relayLost := by
  unfold State.relayLost; dsimp only
  refine (keeps_foldl fun u p => ?_).2 ?_
  · rw [keeps_modPlat]; split <;> simp
  · rw [keeps_orderWaits, keeps_resetLanes, keeps_net]
    exact keeps_modWdn_of h (fun _ => rfl) rfl
@[simp] theorem keeps_holdPorts (s : State) : Keeps s₀ s.holdPorts ↔ Keeps s₀ s := by simp [State.holdPorts]
@[simp] theorem keeps_relayBack (s : State) : Keeps s₀ s.relayBack ↔ Keeps s₀ s := by simp [State.relayBack]
@[simp] theorem keeps_readFinal (p i) (s : State) : Keeps s₀ (s.readFinal p i) ↔ Keeps s₀ s := by simp [State.readFinal]
@[simp] theorem keeps_readEverything (s : State) : Keeps s₀ s.readEverything ↔ Keeps s₀ s := by simp [State.readEverything]
@[simp] theorem keeps_relayHeld {s : State} (h : Keeps s₀ s) : Keeps s₀ s.relayHeld := by simp [State.relayHeld, h]
@[simp] theorem keeps_relayGone (s : State) : Keeps s₀ s.relayGone ↔ Keeps s₀ s := by simp [State.relayGone]
@[simp] theorem keeps_holdDie (l slot) {s : State} (h : Keeps s₀ s) : Keeps s₀ (s.holdDie l slot) := by simp [State.holdDie, h]
@[simp] theorem keeps_nextAttempt (l) {s : State} (h : Keeps s₀ s) : Keeps s₀ (s.nextAttempt l) := by simp [State.nextAttempt, h]
@[simp] theorem keeps_loseLink (l) {s : State} (h : Keeps s₀ s) : Keeps s₀ (s.loseLink l) := by simp [State.loseLink, h]
@[simp] theorem keeps_reinit (l) {s : State} (h : Keeps s₀ s) : Keeps s₀ (s.reinit l) := by simp [State.reinit, h]
@[simp] theorem keeps_sendCheck (l first) (s : State) : Keeps s₀ (s.sendCheck l first) ↔ Keeps s₀ s := by simp [State.sendCheck]
@[simp] theorem keeps_singleGun (l) (s : State) : Keeps s₀ (s.singleGun l) ↔ Keeps s₀ s := by simp [State.singleGun]
@[simp] theorem keeps_fireGun (s : State) : Keeps s₀ s.fireGun ↔ Keeps s₀ s := by simp [State.fireGun]
@[simp] theorem keeps_startKeyx (l) {s : State} (h : Keeps s₀ s) : Keeps s₀ (s.startKeyx l) := by simp [State.startKeyx, h]
@[simp] theorem keeps_syncLockdown (b) (s : State) : Keeps s₀ (s.syncLockdown b) ↔ Keeps s₀ s := by simp [State.syncLockdown]
@[simp] theorem keeps_enterSession (l) (s : State) : Keeps s₀ (s.enterSession l) ↔ Keeps s₀ s := by simp [State.enterSession]
@[simp] theorem keeps_resumePartner (l) (s : State) : Keeps s₀ (s.resumePartner l) ↔ Keeps s₀ s := by
  unfold State.resumePartner; dsimp only; repeat' split
  all_goals simp
@[simp] theorem keeps_checkEnds (l counter ok) {s : State} (h : Keeps s₀ s) : Keeps s₀ (s.checkEnds l counter ok) := by
  simp [State.checkEnds, h]
@[simp] theorem keeps_checkAnswer (l counter) {s : State} (h : Keeps s₀ s) : Keeps s₀ (s.checkAnswer l counter) := by
  unfold State.checkAnswer; split <;> simp [h]
@[simp] theorem keeps_sendSection (l) (s : State) : Keeps s₀ (s.sendSection l) ↔ Keeps s₀ s := by unfold State.sendSection; split <;> simp
@[simp] theorem keeps_startSections (l) (s : State) : Keeps s₀ (s.startSections l) ↔ Keeps s₀ s := by simp [State.startSections]
@[simp] theorem keeps_dieApplied (l) (s : State) : Keeps s₀ (s.dieApplied l) ↔ Keeps s₀ s := by simp [State.dieApplied]
@[simp] theorem keeps_sectionAcked (l n) (s : State) : Keeps s₀ (s.sectionAcked l n) ↔ Keeps s₀ s := by
  unfold State.sectionAcked; dsimp only; repeat' split
  all_goals simp
@[simp] theorem keeps_domainsAtSeal (s : State) : Keeps s₀ s.domainsAtSeal ↔ Keeps s₀ s := by simp [State.domainsAtSeal]
@[simp] theorem keeps_openHeart (s : State) : Keeps s₀ s.openHeart ↔ Keeps s₀ s := by simp [State.openHeart]
@[simp] theorem keeps_stewardCdi (s : State) : Keeps s₀ s.stewardCdi ↔ Keeps s₀ s := by simp [State.stewardCdi]
@[simp] theorem keeps_sealFormula (f) (s : State) : Keeps s₀ (s.sealFormula f) ↔ Keeps s₀ s := by
  unfold State.sealFormula; dsimp only; repeat' split
  all_goals simp
@[simp] theorem keeps_coldNext (n) {s : State} (h : Keeps s₀ s) : Keeps s₀ (s.coldNext n) := by
  induction n generalizing s with
  | zero => exact h
  | succ n ih =>
    have hkeyx (ls : List Nat) (u : State) (hu : Keeps s₀ u) : Keeps s₀ ((ls.foldl (fun s l => s.startKeyx l) u).coldNext n) :=
      ih (keeps_foldl_of (fun v l hv => keeps_startKeyx l hv) hu)
    unfold State.coldNext; dsimp only; repeat' split
    all_goals simp [h, ih, hkeyx]
@[simp] theorem keeps_coldStep {s : State} (h : Keeps s₀ s) : Keeps s₀ s.coldStep := by simp [State.coldStep, h]
@[simp] theorem keeps_afterPair (l) {s : State} (h : Keeps s₀ s) : Keeps s₀ (s.afterPair l) := by
  unfold State.afterPair; dsimp only; repeat' split
  all_goals simp [h]
@[simp] theorem keeps_enterPair (l) {s : State} (h : Keeps s₀ s) : Keeps s₀ (s.enterPair l) := by simp [State.enterPair, h]
@[simp] theorem keeps_tagFails (l toKeeper) {s : State} (h : Keeps s₀ s) : Keeps s₀ (s.tagFails l toKeeper) := by simp [State.tagFails, h]
@[simp] theorem keeps_ackExpires (l toKeeper) {s : State} (h : Keeps s₀ s) : Keeps s₀ (s.ackExpires l toKeeper) := by
  unfold State.ackExpires; split <;> simp [h]
@[simp] theorem keeps_takeAck (l toKeeper ack) {s : State} (h : Keeps s₀ s) : Keeps s₀ (s.takeAck l toKeeper ack) := by
  simp [State.takeAck, h]
@[simp] theorem keeps_toKeeper (l type m) {s : State} (h : Keeps s₀ s) : Keeps s₀ (s.toKeeper l type m) := by
  unfold State.toKeeper; split <;> simp [h]
@[simp] theorem keeps_toPartner (l type m) (s : State) : Keeps s₀ (s.toPartner l type m) ↔ Keeps s₀ s := by
  unfold State.toPartner; dsimp only; repeat' split
  all_goals simp
@[simp] theorem keeps_flitArrives (l toKeeper f m) {s : State} (h : Keeps s₀ s) : Keeps s₀ (s.flitArrives l toKeeper f m) := by
  simp [State.flitArrives, h]
@[simp] theorem keeps_alignCheck (l) {s : State} (h : Keeps s₀ s) : Keeps s₀ (s.alignCheck l) := by
  unfold State.alignCheck; split <;> simp [h]

/-! ## Power -/

@[simp] theorem keeps_formed {o len fault body} {s : State} (h : Keeps s₀ s) (hbody : Keeps s₀ (body s)) :
    Keeps s₀ (s.formed o len fault body) := by
  unfold State.formed; repeat' split
  all_goals simp_all
@[simp] theorem keeps_enterPower (st cause) (s : State) : Keeps s₀ (s.enterPower st cause) ↔ Keeps s₀ s := by simp [State.enterPower]
@[simp] theorem keeps_domainLinked {o n body} {s : State} (h : Keeps s₀ s) (hbody : Keeps s₀ (body s)) :
    Keeps s₀ (s.domainLinked o n body) := by
  unfold State.domainLinked; split <;> simp [h, hbody]
@[simp] theorem keeps_logSwitch (n code t) (s : State) : Keeps s₀ (s.logSwitch n code t) ↔ Keeps s₀ s := by simp [State.logSwitch]
@[simp] theorem keeps_drainBegins (n ticket) (s : State) : Keeps s₀ (s.drainBegins n ticket) ↔ Keeps s₀ s := by simp [State.drainBegins]
@[simp] theorem keeps_stewardStops {s : State} (h : Keeps s₀ s) : Keeps s₀ s.stewardStops := by
  unfold State.stewardStops; dsimp only
  rw [keeps_modStw]
  exact keeps_modCores_of h id id (fun _ => rfl) id
@[simp] theorem keeps_stewardStarts (s : State) : Keeps s₀ s.stewardStarts ↔ Keeps s₀ s := by simp [State.stewardStarts]
@[simp] theorem keeps_filongOff (l) {s : State} (h : Keeps s₀ s) : Keeps s₀ (s.filongOff l) := by simp [State.filongOff, h]
@[simp] theorem keeps_filongOn (l) (s : State) : Keeps s₀ (s.filongOn l) ↔ Keeps s₀ s := by simp [State.filongOn]
@[simp] theorem keeps_domainLoses (n) {s : State} (h : Keeps s₀ s) : Keeps s₀ (s.domainLoses n) := by
  unfold State.domainLoses; dsimp only; repeat' split
  all_goals simp [h, keeps_lanes]
@[simp] theorem keeps_domainStarts (n) (s : State) : Keeps s₀ (s.domainStarts n) ↔ Keeps s₀ s := by simp [State.domainStarts]
@[simp] theorem keeps_domainOnOrder (o n) (s : State) : Keeps s₀ (s.domainOnOrder o n) ↔ Keeps s₀ s := by simp [State.domainOnOrder]
@[simp] theorem keeps_domainOffOrder (o n gate) {s : State} (h : Keeps s₀ s) : Keeps s₀ (s.domainOffOrder o n gate) := by
  have hu : Keeps s₀ (((s.domain n).ticket.toList ++ (s.domain n).joined).foldl
      (fun s k => s.settleTicket k cSuperseded (le 1 o.port.index ++ zeros 1 ++ le 2 o.opcode)) s) := (keeps_foldl fun u k => by simp).2 h
  unfold State.domainOffOrder; dsimp only
  generalize List.foldl _ s _ = u at hu ⊢
  split <;> simp [hu]
@[simp] theorem keeps_domainOrder (o n op) {s : State} (h : Keeps s₀ s) : Keeps s₀ (s.domainOrder o n op) := by simp [State.domainOrder, h]
@[simp] theorem keeps_becomesOn (n) {s : State} (h : Keeps s₀ s) : Keeps s₀ (s.becomesOn n) :=
  keeps_foldl_of (fun u k hu => by simpa using hu) (by simp [h])
@[simp] theorem keeps_filongFails (n) (s : State) : Keeps s₀ (s.filongFails n) ↔ Keeps s₀ s :=
  (keeps_foldl fun u k => by simp).trans (by simp)
@[simp] theorem keeps_wardenStops (p) {s : State} (h : Keeps s₀ s) : Keeps s₀ (s.wardenStops p) := by
  unfold State.wardenStops; dsimp only; repeat' split
  all_goals simp [h]
@[simp] theorem keeps_stewardAborts (s : State) : Keeps s₀ s.stewardAborts ↔ Keeps s₀ s := by simp [State.stewardAborts]
@[simp] theorem keeps_wardenRStops (s : State) : Keeps s₀ s.wardenRStops ↔ Keeps s₀ s := by simp [State.wardenRStops]
@[simp] theorem keeps_claimEnds (n) {s : State} (h : Keeps s₀ s) : Keeps s₀ (s.claimEnds n) := by simp [State.claimEnds, h]
@[simp] theorem keeps_domainsAtClosure {s : State} (h : Keeps s₀ s) : Keeps s₀ s.domainsAtClosure := by
  refine keeps_foldl_of (fun u n hu => ?_) h
  dsimp only; repeat' split
  all_goals simp [hu]

/-! ## Mending -/

@[simp] theorem keeps_modRcv (p f) (s : State) : Keeps s₀ (s.modRcv p f) ↔ Keeps s₀ s := by simp [State.modRcv]
@[simp] theorem keeps_endRecovery (r m) {s : State} (h : Keeps s₀ s) : Keeps s₀ (s.endRecovery r m) := by
  unfold State.endRecovery; dsimp only; repeat' split
  all_goals simp [h]
@[simp] theorem keeps_armRunner (r e) {s : State} (h : Keeps s₀ s) : Keeps s₀ (s.armRunner r e) := by simp [State.armRunner, h]
@[simp] theorem keeps_copyImage (r e block) {s : State} (h : Keeps s₀ s) : Keeps s₀ (s.copyImage r e block).2 := by
  have hcut : Keeps s₀ (if r.cut then s.freeVal else (0, s)).2 := by split <;> simpa using h
  unfold State.copyImage
  generalize (if r.cut then s.freeVal else (0, s)) = c at hcut ⊢
  have hflash (p a n) (b : Bytes) : Keeps s₀ (c.2.setFlash p (nor (mclear (c.2.flash p) a n) a b)) :=
    keeps_setFlash hcut fun hw => wf_nor _ _ _ (wf_mclear _ _ _ _ (flash_wf hw))
  dsimp only; split
  · exact hflash ..
  · dsimp only; split <;> simp [hflash]
@[simp] theorem keeps_updateEnds (o code result) (s : State) : Keeps s₀ (s.updateEnds o code result) ↔ Keeps s₀ s := by
  simp [State.updateEnds]
@[simp] theorem keeps_updateFails (o detail) (s : State) : Keeps s₀ (s.updateFails o detail) ↔ Keeps s₀ s := by simp [State.updateFails]
@[simp] theorem keeps_writeDirectory (g entry) {s : State} (h : Keeps s₀ s) : Keeps s₀ (s.writeDirectory g entry) := by
  unfold State.writeDirectory; dsimp only
  rw [keeps_readDirectory]
  exact keeps_setFlash h fun hw => wf_nor _ _ _ (wf_mclear _ _ _ _ (flash_wf hw))
@[simp] theorem keeps_goldenWrite (o g log2 p i base) {s : State} (h : Keeps s₀ s) : Keeps s₀ (s.goldenWrite o g log2 p i base) := by
  have hflash : Keeps s₀ (s.setFlash 4 (nor (s.flash 4) base o.bulk)) := keeps_setFlash h fun hw => wf_nor _ _ _ (flash_wf hw)
  unfold State.goldenWrite; dsimp only
  generalize s.setFlash 4 (nor (s.flash 4) base o.bulk) = u at hflash ⊢
  repeat' split
  all_goals simp [h, hflash]
@[simp] theorem keeps_restartBegins (s : State) : Keeps s₀ s.restartBegins ↔ Keeps s₀ s := by simp [State.restartBegins]

/-! ## Attesting -/

@[simp] theorem keeps_aliasSign (msg) (s : State) : Keeps s₀ (s.aliasSign msg).2 ↔ Keeps s₀ s := by
  unfold State.aliasSign; split
  · simp
  · exact Iff.rfl
@[simp] theorem keeps_issueAlias (s : State) : Keeps s₀ s.issueAlias ↔ Keeps s₀ s := by simp [State.issueAlias]
@[simp] theorem keeps_issueHeart (s : State) : Keeps s₀ s.issueHeart ↔ Keeps s₀ s := by simp [State.issueHeart]

/-! ## The Sillage store -/

@[simp] theorem keeps_modStore (f) (s : State) : Keeps s₀ (s.modStore f) ↔ Keeps s₀ s := by simp [State.modStore]
@[simp] theorem keeps_scanStore (s : State) : Keeps s₀ s.scanStore ↔ Keeps s₀ s := by simp [State.scanStore]
@[simp] theorem keeps_writeSector (sector n image) {s : State} (h : Keeps s₀ s) : Keeps s₀ (s.writeSector sector n image) :=
  keeps_setFlash h fun hw => wf_nor _ _ _ (wf_mclear _ _ _ _ (flash_wf hw))
@[simp] theorem keeps_tornSector (sector image) {s : State} (h : Keeps s₀ s) : Keeps s₀ (s.tornSector sector image) := by
  simp [State.tornSector, h]
@[simp] theorem keeps_modBatch (first f) (s : State) : Keeps s₀ (s.modBatch first f) ↔ Keeps s₀ s := by simp [State.modBatch]
@[simp] theorem keeps_storeStep (s : State) : Keeps s₀ s.storeStep ↔ Keeps s₀ s := by simp [State.storeStep]
@[simp] theorem keeps_storeFails (b) (s : State) : Keeps s₀ (s.storeFails b) ↔ Keeps s₀ s := by simp [State.storeFails]

/-! ## Restarts -/

@[simp] theorem keeps_vaultRecord (source code) (s : State) : Keeps s₀ (s.vaultRecord source code) ↔ Keeps s₀ s := by
  simp [State.vaultRecord]
@[simp] theorem keeps_cutBank (op m) (s : State) : Keeps s₀ (s.cutBank op m).2 ↔ Keeps s₀ s := by unfold State.cutBank; split <;> rfl
theorem wf_cutBank {op : Option NvmOp} {m : Memory} {s : State} (h : Memory.wf 0xFF m = true) : Memory.wf 0xFF (s.cutBank op m).1 = true := by
  unfold State.cutBank; split
  · exact h
  · exact wf_mwrite _ _ _ _ h
theorem cutBank_cores (op : Option NvmOp) (m : Memory) (s : State) : (s.cutBank op m).2.cores = s.cores := by
  unfold State.cutBank; split <;> rfl
@[simp] theorem keeps_cutNvm {s : State} (h : Keeps s₀ s) : Keeps s₀ s.cutNvm := by
  unfold State.cutNvm; dsimp only
  refine keeps_modCores_of (by simpa using h) (fun hw => ?_) (fun hw => ?_) id id
  · simp only [cutBank_cores] at hw ⊢
    exact wf_cutBank hw
  · simp only [cutBank_cores] at hw ⊢
    exact wf_cutBank hw
@[simp] theorem keeps_cutCopy {s : State} (h : Keeps s₀ s) : Keeps s₀ s.cutCopy := by
  unfold State.cutCopy; dsimp only; repeat' split
  all_goals simp [h]
@[simp] theorem keeps_cutStore {s : State} (h : Keeps s₀ s) : Keeps s₀ s.cutStore := by unfold State.cutStore; split <;> simp [h]
@[simp] theorem keeps_cutWork {s : State} (h : Keeps s₀ s) : Keeps s₀ s.cutWork := by
  have hland : Keeps s₀ ((List.range 5).foldl (fun s p => s.landOp p) s) := keeps_foldl_of (fun u p hu => keeps_landOp p hu) h
  exact keeps_cutNvm (keeps_cutStore (keeps_cutCopy hland))
@[simp] theorem keeps_inReset {s : State} (h : Keeps s₀ s) : Keeps s₀ s.inReset := by
  obtain ⟨hq, hp, hn, hm⟩ := h
  refine ⟨hq, hp, fun _ => Nat.zero_le _, fun hw => ?_⟩
  have := hm hw
  simp only [State.memoriesWf, Bool.and_eq_true] at this ⊢
  obtain ⟨⟨⟨⟨⟨hA, hB⟩, -⟩, -⟩, -⟩, hf⟩ := this
  exact ⟨⟨⟨⟨⟨hA, hB⟩, rfl⟩, rfl⟩, rfl⟩, hf⟩
@[simp] theorem keeps_restart {s : State} (h : Keeps s₀ s) : Keeps s₀ s.restart := by simp [State.restart, h]
@[simp] theorem keeps_clockFault {s : State} (h : Keeps s₀ s) : Keeps s₀ s.clockFault := by simp [State.clockFault, h]
@[simp] theorem keeps_installImage (x) {s : State} (h : Keeps s₀ s) : Keeps s₀ (s.installImage x).2 :=
  keeps_modCores_of h (fun hw => wf_mwrite _ _ _ _ (wf_mclear _ _ _ _ hw)) id id id
@[simp] theorem keeps_enterVault {s : State} (h : Keeps s₀ s) : Keeps s₀ s.enterVault := by simp [State.enterVault, h]

/-! ## The cold start -/

@[simp] theorem keeps_classifyVault (s : State) : Keeps s₀ s.classifyVault ↔ Keeps s₀ s := by simp [State.classifyVault]
@[simp] theorem keeps_latchWatch (s : State) : Keeps s₀ s.latchWatch ↔ Keeps s₀ s := by simp [State.latchWatch]
@[simp] theorem keeps_newBaseNote (s : State) : Keeps s₀ s.newBaseNote ↔ Keeps s₀ s := by simp [State.newBaseNote]
@[simp] theorem keeps_reseedMesh (p) (s : State) : Keeps s₀ (s.reseedMesh p) ↔ Keeps s₀ s := by simp [State.reseedMesh]
@[simp] theorem keeps_startFailure (s : State) : Keeps s₀ s.startFailure ↔ Keeps s₀ s := by simp [State.startFailure]
@[simp] theorem keeps_enterHoldState (s : State) : Keeps s₀ s.enterHoldState ↔ Keeps s₀ s := by simp [State.enterHoldState]
@[simp] theorem keeps_enterRomOnly (s : State) : Keeps s₀ s.enterRomOnly ↔ Keeps s₀ s := by simp [State.enterRomOnly]
@[simp] theorem keeps_keeperRelease (version) (s : State) : Keeps s₀ (s.keeperRelease version).2 ↔ Keeps s₀ s := by
  unfold State.keeperRelease; split <;> simp
@[simp] theorem keeps_keeperPasses (x) (s : State) : Keeps s₀ (s.keeperPasses x) ↔ Keeps s₀ s := by simp [State.keeperPasses]
@[simp] theorem keeps_importVault (s : State) : Keeps s₀ s.importVault ↔ Keeps s₀ s := by simp [State.importVault]
@[simp] theorem keeps_testVres (vresNf) (s : State) : Keeps s₀ (s.testVres vresNf) ↔ Keeps s₀ s := by simp [State.testVres]
@[simp] theorem keeps_deviceKeys (s : State) : Keeps s₀ s.deviceKeys ↔ Keeps s₀ s := by simp [State.deviceKeys]
@[simp] theorem keeps_startFirmware (vresNf) (s : State) : Keeps s₀ (s.startFirmware vresNf) ↔ Keeps s₀ s := by simp [State.startFirmware]
@[simp] theorem keeps_coldStart (vresNf senseFaults) (s : State) : Keeps s₀ (s.coldStart vresNf senseFaults) ↔ Keeps s₀ s := by
  unfold State.coldStart; dsimp only; repeat' split
  all_goals simp
@[simp] theorem keeps_platWaits (p) (s : State) : Keeps s₀ (s.platWaits p) ↔ Keeps s₀ s := by simp [State.platWaits]
@[simp] theorem keeps_imageEntries (p i) (s : State) : Keeps s₀ (s.imageEntries p i) ↔ Keeps s₀ s := by simp [State.imageEntries]
@[simp] theorem keeps_platEntries (s : State) : Keeps s₀ s.platEntries ↔ Keeps s₀ s := by simp [State.platEntries]
@[simp] theorem keeps_closureKeys (s : State) : Keeps s₀ s.closureKeys ↔ Keeps s₀ s := by simp [State.closureKeys]

/-! ## The Vault -/

@[simp] theorem keeps_vaultEvent (source code a0 a1) (s : State) : Keeps s₀ (s.vaultEvent source code a0 a1) ↔ Keeps s₀ s := by
  simp [State.vaultEvent]
@[simp] theorem keeps_dqDestroys (s : State) : Keeps s₀ s.dqDestroys ↔ Keeps s₀ s := by simp [State.dqDestroys]
@[simp] theorem keeps_dqSpreads {s : State} (h : Keeps s₀ s) : Keeps s₀ s.dqSpreads := by
  unfold State.dqSpreads
  refine keeps_foldl_of (fun u l hu => ?_) ?_
  · split <;> simp [hu]
  · split <;> simp [h]
@[simp] theorem keeps_dqFires (source) {s : State} (h : Keeps s₀ s) : Keeps s₀ (s.dqFires source) := by simp [State.dqFires, h]
@[simp] theorem keeps_sourceRedFlag (source response) (s : State) : Keeps s₀ (s.sourceRedFlag source response) ↔ Keeps s₀ s := by
  simp [State.sourceRedFlag]
@[simp] theorem keeps_trigger (source) {s : State} (h : Keeps s₀ s) : Keeps s₀ (s.trigger source) := by simp [State.trigger, h]
@[simp] theorem keeps_filterOutput (source active) {s : State} (h : Keeps s₀ s) : Keeps s₀ (s.filterOutput source active) := by
  simp [State.filterOutput, h]
@[simp] theorem keeps_sampleTick (source period phase) (s : State) : Keeps s₀ (s.sampleTick source period phase) ↔ Keeps s₀ s := by
  simp [State.sampleTick]
@[simp] theorem keeps_liftRedFlag (o) (s : State) : Keeps s₀ (s.liftRedFlag o) ↔ Keeps s₀ s := by simp [State.liftRedFlag]

/-! ## Registers -/

@[simp] theorem keeps_wdogExpires (s : State) : Keeps s₀ s.wdogExpires ↔ Keeps s₀ s := by simp [State.wdogExpires]
@[simp] theorem keeps_kprClears (off) (s : State) : Keeps s₀ (s.kprClears off) ↔ Keeps s₀ s := by unfold State.kprClears; split <;> simp
@[simp] theorem keeps_bucketClears (die buckets off) (s : State) : Keeps s₀ (s.bucketClears die buckets off) ↔ Keeps s₀ s := by
  unfold State.bucketClears; split <;> simp
@[simp] theorem keeps_rlyClears (off) (s : State) : Keeps s₀ (s.rlyClears off) ↔ Keeps s₀ s := by simp [State.rlyClears]
@[simp] theorem keeps_bnkClears (b off) (s : State) : Keeps s₀ (s.bnkClears b off) ↔ Keeps s₀ s := by simp [State.bnkClears]
@[simp] theorem keeps_poolStore (core addr a v) {s : State} (h : Keeps s₀ s) : Keeps s₀ (s.poolStore core addr a v) := by
  unfold State.poolStore; repeat' split
  all_goals simp [h]
@[simp] theorem keeps_trackIn (core i) (s : State) : Keeps s₀ (s.trackIn core i) ↔ Keeps s₀ s := by simp [State.trackIn]
@[simp] theorem keeps_kprRead (core off) (s : State) : Keeps s₀ (s.kprRead core off) ↔ Keeps s₀ s := by simp [State.kprRead]
@[simp] theorem keeps_rlyRead (core off) (s : State) : Keeps s₀ (s.rlyRead core off) ↔ Keeps s₀ s := by
  unfold State.rlyRead; dsimp only; repeat' split
  all_goals simp
@[simp] theorem keeps_bnkRead (core b off) (s : State) : Keeps s₀ (s.bnkRead core b off) ↔ Keeps s₀ s := by simp [State.bnkRead]
@[simp] theorem keeps_readPlace (core p) (s : State) : Keeps s₀ (s.readPlace core p) ↔ Keeps s₀ s := by
  unfold State.readPlace; split <;> simp
@[simp] theorem keeps_writeResp (addr v) (s : State) : Keeps s₀ (s.writeResp addr v) ↔ Keeps s₀ s := by simp [State.writeResp]
@[simp] theorem keeps_writeNose (addr n v) (s : State) : Keeps s₀ (s.writeNose addr n v) ↔ Keeps s₀ s := by simp [State.writeNose]
@[simp] theorem keeps_untilSeal {core addr v body} {s : State} (h : Keeps s₀ s) :
    Keeps s₀ (s.untilSeal core addr v body) ↔ (s.frm.isSealed = false → Keeps s₀ (body s)) := by
  unfold State.untilSeal; split <;> simp_all
@[simp] theorem keeps_kprStore (core off v) {s : State} (h : Keeps s₀ s) : Keeps s₀ (s.kprStore core off v) := by
  unfold State.kprStore; dsimp only; repeat' split
  all_goals simp [h]
@[simp] theorem keeps_laneStore (core addr e off v) (s : State) : Keeps s₀ (s.laneStore core addr e off v) ↔ Keeps s₀ s := by
  unfold State.laneStore; repeat' split
  all_goals simp
@[simp] theorem keeps_rlyStore (core off v) {s : State} (h : Keeps s₀ s) : Keeps s₀ (s.rlyStore core off v) := by
  unfold State.rlyStore; dsimp only; repeat' split
  all_goals simp [h]
@[simp] theorem keeps_bnkStore (b off v) (s : State) : Keeps s₀ (s.bnkStore b off v) ↔ Keeps s₀ s := by
  unfold State.bnkStore; split <;> simp
@[simp] theorem keeps_writeWins (core addr) (s : State) : Keeps s₀ (s.writeWins core addr) ↔ Keeps s₀ s := by simp [State.writeWins]
@[simp] theorem keeps_storePlace (core addr v p) {s : State} (h : Keeps s₀ s) : Keeps s₀ (s.storePlace core addr v p) := by
  unfold State.storePlace; dsimp only
  rcases p with off | off | ⟨b, off⟩ | off | off | ⟨b, off⟩ | _ <;> dsimp only
  · simp [h]
  · rcases poolOffset off with _ | a <;> dsimp only <;> split <;> simp [h]
  · split <;> simp [h]
  · exact keeps_modCores_of h id id (wf_mwrite _ _ _ _) id
  · exact keeps_modCores_of h id id id (wf_mwrite _ _ _ _)
  · exact h
  · exact h

end Sys2Proof.Machine
end

section
/-! SUPPORT. What a command may answer: one lemma per row, and the answer of every command. -/

namespace Sys2Proof.Machine

/-- What a command's answer may be: a next state that keeps what every command keeps, or a fault where its operands name what no variant has. -/
def Answers (wf : Bool) (s : State) : Out → Prop
  | .next t => Keeps s t
  | .fault _ => wf = false
  | .refused _ => False

@[simp] theorem answers_next {wf : Bool} {s t : State} : Answers wf s (.next t) ↔ Keeps s t := Iff.rfl

@[simp] theorem answers_onObject {wf p : Bool} {s t : State} : Answers wf s (onObject p t) ↔ if p then Keeps s t else wf = false := by
  cases p <;> rfl

@[simp] theorem answers_ite {wf : Bool} {s : State} (c : Prop) [Decidable c] (x y : Out) :
    Answers wf s (if c then x else y) ↔ if c then Answers wf s x else Answers wf s y := by split <;> rfl

theorem answers_onObject_of {wf p : Bool} {s t : State} (ht : Keeps s t) (hp : p = false → wf = false) : Answers wf s (onObject p t) := by
  rw [answers_onObject]; split <;> simp_all

theorem answers_of_true {wf : Bool} {s : State} {x : Out} (h : Answers true s x) : Answers wf s x := by
  cases x with
  | next t => exact h
  | fault f => exact absurd h (by simp [Answers])
  | refused r => exact h

theorem answers_trans {wf : Bool} {s t : State} {x : Out} (h : Keeps s t) (hx : Answers true t x) : Answers wf s x := by
  refine answers_of_true ?_
  cases x with
  | next v => exact keeps_trans h hx
  | fault f => exact hx
  | refused r => exact hx

theorem answers_command {wf : Bool} {op : Nat} {r : Req} {owner : Outstanding → State → State} {s : State}
    (hown : ∀ o u, Keeps s u → Keeps s (owner o u)) : Answers wf s (.next (s.command op r owner)) :=
  keeps_command (keeps_refl s) hown

/-! ## The cold start -/

theorem execPornRelease_answers (refclk vresNf senseFaults) (s : State) :
    Answers (Instr.wf (.pornRelease refclk vresNf senseFaults)) s (execPornRelease refclk vresNf senseFaults s) := by
  have hclk : Keeps s (s.modClk fun c => { c with now := 0, running := true }) := ⟨rfl, rfl, fun _ => Nat.zero_le _, id⟩
  unfold execPornRelease
  rw [answers_next]; split
  · exact keeps_refl s
  · rw [keeps_coldStart, keeps_setDomain, keeps_setDomain, keeps_modBoot, keeps_modPwr]
    exact hclk

/-! ## Restarts -/

theorem execPornLow_answers (widthNs) (s : State) :
    Answers (Instr.wf (.pornLow widthNs)) s (execPornLow widthNs s) := by
  unfold execPornLow; dsimp only; repeat' split
  all_goals simp

/-! ## The cold start -/

theorem execDrbgReady_answers (s : State) :
    Answers (Instr.wf (.drbgReady)) s (execDrbgReady s) := by
  unfold execDrbgReady; dsimp only; repeat' split
  all_goals simp

/-! ## Links -/

theorem execGunCheckResult_answers (link counter) (s : State) :
    Answers (Instr.wf (.gunCheckResult link counter)) s (execGunCheckResult link counter s) := by
  simp [execGunCheckResult, Instr.wf]

theorem execGunCheckTimeout_answers (link) (s : State) :
    Answers (Instr.wf (.gunCheckTimeout link)) s (execGunCheckTimeout link s) := by
  refine answers_onObject_of ?_ id
  split <;> simp

/-! ## The cold start -/

theorem execPortsOpen_answers (s : State) :
    Answers (Instr.wf (.portsOpen)) s (execPortsOpen s) := by
  unfold execPortsOpen; dsimp only; repeat' split
  all_goals simp

/-! ## Platforms -/

theorem execImageDigestPresented_answers (plat image) (s : State) :
    Answers (Instr.wf (.imageDigestPresented plat image)) s (execImageDigestPresented plat image s) := by
  refine answers_onObject_of ?_ id
  dsimp only; repeat' split
  all_goals simp

theorem execImageVerdict_answers (plat image) (s : State) :
    Answers (Instr.wf (.imageVerdict plat image)) s (execImageVerdict plat image s) := by
  simp [execImageVerdict, Instr.wf]

theorem execPgoodWaitExpiry_answers (plat) (s : State) :
    Answers (Instr.wf (.pgoodWaitExpiry plat)) s (execPgoodWaitExpiry plat s) := by
  refine answers_onObject_of ?_ id
  split <;> simp

theorem execMeasurementLimitExpiry_answers (plat image) (s : State) :
    Answers (Instr.wf (.measurementLimitExpiry plat image)) s (execMeasurementLimitExpiry plat image s) := by
  refine answers_onObject_of ?_ id
  split <;> simp

/-! ## The cold start -/

theorem execHeartClosure_answers (s : State) :
    Answers (Instr.wf (.heartClosure)) s (execHeartClosure s) := by
  simp [execHeartClosure, Instr.wf]

/-! ## The Formula -/

theorem execStagingRevalidate_answers (s : State) :
    Answers (Instr.wf (.stagingRevalidate)) s (execStagingRevalidate s) := by
  unfold execStagingRevalidate; dsimp only; repeat' split
  all_goals simp

/-! ## Platforms -/

theorem execReleaseOrderDue_answers (s : State) :
    Answers (Instr.wf (.releaseOrderDue)) s (execReleaseOrderDue s) := by
  unfold execReleaseOrderDue; split <;> simp

theorem execPlatformRelease_answers (plat) (s : State) :
    Answers (Instr.wf (.platformRelease plat)) s (execPlatformRelease plat s) := by
  refine answers_onObject_of ?_ id
  dsimp only; repeat' split
  all_goals simp

/-! ## Links -/

theorem execFlitReceived_answers (link toKeeper flit message) (s : State) :
    Answers (Instr.wf (.flitReceived link toKeeper flit message)) s (execFlitReceived link toKeeper flit message s) := by
  refine answers_onObject_of (by simp) fun hlink => ?_
  simp only [Instr.wf, hlink, Bool.false_and]

theorem execAckTimerExpiry_answers (link toKeeper) (s : State) :
    Answers (Instr.wf (.ackTimerExpiry link toKeeper)) s (execAckTimerExpiry link toKeeper s) := by
  refine answers_onObject_of ?_ id
  split <;> simp

theorem execLinkTrainDone_answers (link) (s : State) :
    Answers (Instr.wf (.linkTrainDone link)) s (execLinkTrainDone link s) := by
  simp [execLinkTrainDone, Instr.wf]

theorem execTrainTimeout_answers (link) (s : State) :
    Answers (Instr.wf (.trainTimeout link)) s (execTrainTimeout link s) := by
  refine answers_onObject_of ?_ id
  split <;> simp

theorem execRelinkAttemptTimeout_answers (link) (s : State) :
    Answers (Instr.wf (.relinkAttemptTimeout link)) s (execRelinkAttemptTimeout link s) := by
  refine answers_onObject_of ?_ id
  split <;> simp

theorem execCadenceLoss_answers (link) (s : State) :
    Answers (Instr.wf (.cadenceLoss link)) s (execCadenceLoss link s) := by
  simp [execCadenceLoss, Instr.wf]

/-! ## Restarts -/

theorem execClockMonitorWindow_answers (count) (s : State) :
    Answers (Instr.wf (.clockMonitorWindow count)) s (execClockMonitorWindow count s) := by
  simp [execClockMonitorWindow, Instr.wf]

theorem execKeeperWdogExpiry_answers (s : State) :
    Answers (Instr.wf (.keeperWdogExpiry)) s (execKeeperWdogExpiry s) := by
  simp [execKeeperWdogExpiry, Instr.wf]

/-! ## Registers -/

theorem execStwWdogExpiry_answers (s : State) :
    Answers (Instr.wf (.stwWdogExpiry)) s (execStwWdogExpiry s) := by
  unfold execStwWdogExpiry; split <;> simp

theorem execStwWdogKick_answers (value) (s : State) :
    Answers (Instr.wf (.stwWdogKick value)) s (execStwWdogKick value s) := by
  simp [execStwWdogKick, Instr.wf]

theorem execAccessFault_answers (core addr) (s : State) :
    Answers (Instr.wf (.accessFault core addr)) s (execAccessFault core addr s) := by
  simp [execAccessFault, Instr.wf]

theorem execTkNowLoRead_answers (core) (s : State) :
    Answers (Instr.wf (.tkNowLoRead core)) s (execTkNowLoRead core s) := by
  unfold execTkNowLoRead; dsimp only; repeat' split
  all_goals simp

/-! ## The Vault -/

theorem execVltTickLoRead_answers (core) (s : State) :
    Answers (Instr.wf (.vltTickLoRead core)) s (execVltTickLoRead core s) := by
  simp [execVltTickLoRead, Instr.wf]

/-! ## Registers -/

theorem execNvmProgramErase_answers (core fetchFromB bank op) (s : State) :
    Answers (Instr.wf (.nvmProgramErase core fetchFromB bank op)) s (execNvmProgramErase core fetchFromB bank op s) := by
  simp [execNvmProgramErase, Instr.wf]

theorem execNvmOperationDone_answers (bank) (s : State) : Answers (Instr.wf (.nvmOperationDone bank)) s (execNvmOperationDone bank s) := by
  refine answers_onObject_of (keeps_modCores_of (keeps_refl s) (fun hw => ?_) (fun hw => ?_) (fun hw => ?_) (fun hw => ?_)) id
  · split <;> split <;> [exact hw; exact wf_nvmEffect _ hw; exact hw; exact hw]
  · split <;> split <;> [exact hw; exact hw; exact hw; exact wf_nvmEffect _ hw]
  all_goals split <;> split <;> exact hw

/-! ## Links -/

theorem execSysGetTopology_answers (r) (s : State) :
    Answers (Instr.wf (.sysGetTopology r)) s (execSysGetTopology r s) := answers_command fun o u h => by simp [h]

theorem execSysGetLinks_answers (r) (s : State) :
    Answers (Instr.wf (.sysGetLinks r)) s (execSysGetLinks r s) := answers_command fun o u h => by simp [h]

theorem execSysGetTime_answers (r) (s : State) :
    Answers (Instr.wf (.sysGetTime r)) s (execSysGetTime r s) := answers_command fun o u h => by simp [h]

theorem execSysCheckAlign_answers (r) (s : State) : Answers (Instr.wf (.sysCheckAlign r)) s (execSysCheckAlign r s) :=
  answers_command fun o u h => (keeps_wellFormed h).2 fun _ => by
    rw [keeps_done]
    exact keeps_foldl_of (fun v l hv => by simp [hv]) h

/-! ## Ports -/

theorem execMb0Write_answers (transaction data extraBits) (s : State) :
    Answers (Instr.wf (.mb0Write transaction data extraBits)) s (execMb0Write transaction data extraBits s) := by
  simp [execMb0Write, Instr.wf]

theorem execMb0Read_answers (clocked) (s : State) :
    Answers (Instr.wf (.mb0Read clocked)) s (execMb0Read clocked s) := by
  unfold execMb0Read; dsimp only; repeat' split
  all_goals simp

theorem execMb0Status_answers (s : State) :
    Answers (Instr.wf (.mb0Status)) s (execMb0Status s) := by
  simp [execMb0Status, Instr.wf]

theorem execMb1Write_answers (transaction data extraBits) (s : State) :
    Answers (Instr.wf (.mb1Write transaction data extraBits)) s (execMb1Write transaction data extraBits s) := by
  simp [execMb1Write, Instr.wf]

theorem execMb1Read_answers (clocked) (s : State) :
    Answers (Instr.wf (.mb1Read clocked)) s (execMb1Read clocked s) := by
  unfold execMb1Read; split <;> simp

theorem execMb1Status_answers (s : State) :
    Answers (Instr.wf (.mb1Status)) s (execMb1Status s) := by
  simp [execMb1Status, Instr.wf]

theorem execSelectClash_answers (s : State) :
    Answers (Instr.wf (.selectClash)) s (execSelectClash s) := by
  simp [execSelectClash, Instr.wf]

theorem execMb0NoticeEnqueue_answers (s : State) :
    Answers (Instr.wf (.mb0NoticeEnqueue)) s (execMb0NoticeEnqueue s) := by
  unfold execMb0NoticeEnqueue; split <;> simp

theorem execSvcPacket_answers (packet) (s : State) :
    Answers (Instr.wf (.svcPacket packet)) s (execSvcPacket packet s) := by
  unfold execSvcPacket; dsimp only; repeat' split
  all_goals simp

theorem execSvcPresentLow_answers (s : State) :
    Answers (Instr.wf (.svcPresentLow)) s (execSvcPresentLow s) := by
  simp [execSvcPresentLow, Instr.wf]

theorem execSvcPresentHigh_answers (s : State) :
    Answers (Instr.wf (.svcPresentHigh)) s (execSvcPresentHigh s) := by
  simp [execSvcPresentHigh, Instr.wf]

theorem execSvcAuthLockExpiry_answers (s : State) :
    Answers (Instr.wf (.svcAuthLockExpiry)) s (execSvcAuthLockExpiry s) := by
  unfold execSvcAuthLockExpiry; split <;> simp

theorem execStwDoorbell_answers (value) (s : State) :
    Answers (Instr.wf (.stwDoorbell value)) s (execStwDoorbell value s) := by
  simp [execStwDoorbell, Instr.wf]

theorem execStwRspRingWrite_answers (core value) (s : State) :
    Answers (Instr.wf (.stwRspRingWrite core value)) s (execStwRspRingWrite core value s) := by
  simp [execStwRspRingWrite, Instr.wf]

theorem execStwRingDeliver_answers (s : State) : Answers (Instr.wf .stwRingDeliver) s (execStwRingDeliver s) := by
  unfold execStwRingDeliver
  rw [answers_next]; split
  · exact keeps_refl s
  · dsimp only
    refine keeps_ite_of (fun _ => keeps_refl s) fun _ => ?_
    rw [keeps_refillSteward, keeps_modStw]
    refine keeps_modCores_of (keeps_refl s) id id (fun hw => wf_mwrite _ _ _ _ ?_) id
    split <;> [exact hw; exact wf_mwrite _ _ _ _ hw]

theorem execExtAnswer_answers (opcode forward status payload) (s : State) :
    Answers (Instr.wf (.extAnswer opcode forward status payload)) s (execExtAnswer opcode forward status payload s) := by
  simp [execExtAnswer, Instr.wf]

theorem execBulkFrameIn_answers (port session) (s : State) :
    Answers (Instr.wf (.bulkFrameIn port session)) s (execBulkFrameIn port session s) := by
  unfold execBulkFrameIn; dsimp only; repeat' split
  all_goals simp

theorem execBulkFrameOutConsumed_answers (port session) (s : State) :
    Answers (Instr.wf (.bulkFrameOutConsumed port session)) s (execBulkFrameOutConsumed port session s) := by
  simp [execBulkFrameOutConsumed, Instr.wf]

theorem execBulkIdleExpiry_answers (port session inbound) (s : State) :
    Answers (Instr.wf (.bulkIdleExpiry port session inbound)) s (execBulkIdleExpiry port session inbound s) := by
  unfold execBulkIdleExpiry; split <;> simp

theorem execResponseTimerExpiry_answers (port session tag) (s : State) :
    Answers (Instr.wf (.responseTimerExpiry port session tag)) s (execResponseTimerExpiry port session tag s) := by
  unfold execResponseTimerExpiry; split <;> simp

/-! ## Custody -/

theorem execCustodyRecord_answers (source record) (s : State) :
    Answers (Instr.wf (.custodyRecord source record)) s (execCustodyRecord source record s) := by
  have hnet : Keeps s { s with net := { s.net with keeperIn := s.net.keeperIn.erase (source, record) } } := keeps_refl s
  unfold execCustodyRecord
  dsimp only
  generalize ({ s with net := _ } : State) = u at hnet ⊢
  rw [answers_next]; repeat' split
  all_goals simp [hnet]

theorem execHandshakeTimeout_answers (s : State) :
    Answers (Instr.wf (.handshakeTimeout)) s (execHandshakeTimeout s) := by
  unfold execHandshakeTimeout; split <;> simp

theorem execCusIdleExpiry_answers (session) (s : State) :
    Answers (Instr.wf (.cusIdleExpiry session)) s (execCusIdleExpiry session s) := by
  simp [execCusIdleExpiry, Instr.wf]

/-! ## Ports -/

theorem execSysNop_answers (r) (s : State) :
    Answers (Instr.wf (.sysNop r)) s (execSysNop r s) := answers_command fun o u h => by simp [h]

theorem execSysGetVersion_answers (r) (s : State) :
    Answers (Instr.wf (.sysGetVersion r)) s (execSysGetVersion r s) := answers_command fun o u h => by simp [h]

theorem execSysGetPort_answers (r) (s : State) :
    Answers (Instr.wf (.sysGetPort r)) s (execSysGetPort r s) := answers_command fun o u h => by simp [h]

theorem execSysSvcChallenge_answers (r) (s : State) : Answers (Instr.wf (.sysSvcChallenge r)) s (execSysSvcChallenge r s) :=
  answers_command fun o u h => (keeps_wellFormed h).2 fun _ => keeps_withDrbg h fun v hv => by simp [hv]

theorem execSysSvcAuth_answers (r) (s : State) : Answers (Instr.wf (.sysSvcAuth r)) s (execSysSvcAuth r s) :=
  answers_command fun o u h => (keeps_wellFormed h).2 fun _ => by
    have hu : Keeps s u.authLockOver := by simp [h]
    refine keeps_ite_of (fun _ => by simp [h]) fun _ => (keeps_needsCrypto hu).2 fun _ _ => ?_
    repeat' split
    all_goals simp [h]

theorem execSysTicketStatus_answers (r) (s : State) : Answers (Instr.wf (.sysTicketStatus r)) s (execSysTicketStatus r s) :=
  answers_command fun o u h => (keeps_wellFormed h).2 fun _ => by
    repeat' split
    all_goals simp [h]

theorem execExtCommand_answers (opcode r) (s : State) : Answers (Instr.wf (.extCommand opcode r)) s (execExtCommand opcode r s) := by
  unfold execExtCommand
  rw [answers_next]; split
  · exact keeps_command (keeps_refl s) fun o u h => by simp [h]
  · exact keeps_refl s

/-! ## The Formula -/

theorem execFrmGetInfo_answers (r) (s : State) :
    Answers (Instr.wf (.frmGetInfo r)) s (execFrmGetInfo r s) := answers_command fun o u h => by simp [h]

theorem execFrmStage_answers (r) (s : State) : Answers (Instr.wf (.frmStage r)) s (execFrmStage r s) :=
  answers_command fun o u h => by
    split
    · simp [h]
    · refine (keeps_wellFormed h).2 fun _ => (keeps_order h).2 fun _ => (keeps_checks h).2 fun _ => ?_
      dsimp only; split <;> simp [h]

/-! ## Restarts -/

theorem execFrmActivate_answers (r) (s : State) :
    Answers (Instr.wf (.frmActivate r)) s (execFrmActivate r s) := answers_command fun o u h => by simp [h]

theorem execActivateRestart_answers (s : State) :
    Answers (Instr.wf (.activateRestart)) s (execActivateRestart s) := by
  simp [execActivateRestart, Instr.wf]

/-! ## The Formula -/

theorem execFrmGetRanks_answers (r) (s : State) :
    Answers (Instr.wf (.frmGetRanks r)) s (execFrmGetRanks r s) := answers_command fun o u h => by simp [h]

/-! ## Fuses -/

theorem execFusRead_answers (r) (s : State) :
    Answers (Instr.wf (.fusRead r)) s (execFusRead r s) := answers_command fun o u h => by simp [h]

theorem execFusProgram_answers (r) (s : State) :
    Answers (Instr.wf (.fusProgram r)) s (execFusProgram r s) := answers_command fun o u h => by
    dsimp only; repeat' split
    all_goals simp [h]

theorem execFusFinalise_answers (r) (s : State) :
    Answers (Instr.wf (.fusFinalise r)) s (execFusFinalise r s) := answers_command fun o u h => by
    dsimp only; repeat' split
    all_goals simp [h]

theorem execFusSetLifecycle_answers (r) (s : State) :
    Answers (Instr.wf (.fusSetLifecycle r)) s (execFusSetLifecycle r s) := answers_command fun o u h => by simp [h]

theorem execFusBumpCounter_answers (r) (s : State) :
    Answers (Instr.wf (.fusBumpCounter r)) s (execFusBumpCounter r s) := answers_command fun o u h => by simp [h]

theorem execFuseWordDone_answers (verified) (s : State) :
    Answers (Instr.wf (.fuseWordDone verified)) s (execFuseWordDone verified s) := by
  unfold execFuseWordDone; dsimp only; repeat' split
  all_goals simp

/-! ## Restarts -/

theorem execLifecycleRestart_answers (s : State) :
    Answers (Instr.wf (.lifecycleRestart)) s (execLifecycleRestart s) := by
  unfold execLifecycleRestart; split <;> simp

/-! ## The Vault -/

theorem execMeshSample_answers (pair level) (s : State) :
    Answers (Instr.wf (.meshSample pair level)) s (execMeshSample pair level s) := by
  simp [execMeshSample, Instr.wf]

theorem execStaticSample_answers (input level) (s : State) :
    Answers (Instr.wf (.staticSample input level)) s (execStaticSample input level s) := by
  simp [execStaticSample, Instr.wf]

theorem execVaultTempSample_answers (tempC) (s : State) :
    Answers (Instr.wf (.vaultTempSample tempC)) s (execVaultTempSample tempC s) := by
  simp [execVaultTempSample, Instr.wf]

theorem execVbatGlitch_answers (step above4V) (s : State) :
    Answers (Instr.wf (.vbatGlitch step above4V)) s (execVbatGlitch step above4V s) := by
  simp [execVbatGlitch, Instr.wf]

theorem execVaultOscPeriod_answers (cycles) (s : State) :
    Answers (Instr.wf (.vaultOscPeriod cycles)) s (execVaultOscPeriod cycles s) := by
  unfold execVaultOscPeriod; dsimp only; repeat' split
  all_goals simp

theorem execVaultSwirl_answers (s : State) :
    Answers (Instr.wf (.vaultSwirl)) s (execVaultSwirl s) := by
  simp [execVaultSwirl, Instr.wf]

theorem execVbatLow_answers (below) (s : State) :
    Answers (Instr.wf (.vbatLow below)) s (execVbatLow below s) := by
  simp [execVbatLow, Instr.wf]

theorem execVbatArm_answers (s : State) :
    Answers (Instr.wf (.vbatArm)) s (execVbatArm s) := by
  simp [execVbatArm, Instr.wf]

theorem execRedflagnLow_answers (low) (s : State) :
    Answers (Instr.wf (.redflagnLow low)) s (execRedflagnLow low s) := by
  simp [execRedflagnLow, Instr.wf]

theorem execRfCtlEnter_answers (core value) (s : State) :
    Answers (Instr.wf (.rfCtlEnter core value)) s (execRfCtlEnter core value s) := by
  simp [execRfCtlEnter, Instr.wf]

theorem execSysLockdown_answers (r) (s : State) :
    Answers (Instr.wf (.sysLockdown r)) s (execSysLockdown r s) := answers_command fun o u h => by simp [h]

theorem execSysLiftLockdown_answers (r) (s : State) :
    Answers (Instr.wf (.sysLiftLockdown r)) s (execSysLiftLockdown r s) := answers_command fun o u h => by simp [h]

theorem execSysGetTamper_answers (r) (s : State) :
    Answers (Instr.wf (.sysGetTamper r)) s (execSysGetTamper r s) := answers_command fun o u h => by simp [h]

/-! ## Keys -/

theorem execKeyGenerate_answers (r) (s : State) : Answers (Instr.wf (.keyGenerate r)) s (execKeyGenerate r s) :=
  answers_command fun o u h => by
    have hrun (u : State) (h : Keeps s u) : Keeps s (if hasPublic (u32 o.payload 4) then u.needsCrypto o (State.keyGenerate o) else u.keyGenerate o) := by
      split <;> simp [h]
    dsimp only
    iterate 5 refine keeps_ite_of (fun _ => by simp [h]) fun _ => ?_
    split
    · simp [h]
    · iterate 2 refine keeps_ite_of (fun _ => by simp [h]) fun _ => ?_
      refine (keeps_wellFormed h).2 fun _ => (keeps_checks h).2 fun _ => keeps_ite_of (fun _ => by simp [h]) fun _ => (keeps_checks h).2 fun _ => ?_
      exact keeps_ite_of (fun _ => keeps_withDrbg h hrun) fun _ => hrun u h

theorem execKeyImport_answers (r) (s : State) : Answers (Instr.wf (.keyImport r)) s (execKeyImport r s) :=
  answers_command fun o u h => by
    dsimp only
    iterate 7 refine keeps_ite_of (fun _ => by simp [h]) fun _ => ?_
    refine (keeps_wellFormed h).2 fun _ => ?_
    split
    · simp [h]
    · refine (keeps_checks h).2 fun _ => ?_
      repeat' split
      all_goals simp [h]

theorem execKeyWrap_answers (r) (s : State) : Answers (Instr.wf (.keyWrap r)) s (execKeyWrap r s) :=
  answers_command fun o u h => (keeps_formedBy h).2 fun _ => by
    dsimp only; repeat' (split; · simp [h])
    exact (keeps_checks h).2 fun _ => keeps_withDrbg h fun v hv => by simp [hv]

theorem execKeyDestroy_answers (r) (s : State) :
    Answers (Instr.wf (.keyDestroy r)) s (execKeyDestroy r s) := answers_command fun o u h => by simp [h]

theorem execKeyGetAttr_answers (r) (s : State) :
    Answers (Instr.wf (.keyGetAttr r)) s (execKeyGetAttr r s) := answers_command fun o u h => by simp [h]

theorem execKeyProvenance_answers (r) (s : State) :
    Answers (Instr.wf (.keyProvenance r)) s (execKeyProvenance r s) := answers_command fun o u h => by simp [h]

theorem execKeySetSwirl_answers (r) (s : State) :
    Answers (Instr.wf (.keySetSwirl r)) s (execKeySetSwirl r s) := answers_command fun o u h => by simp [h]

theorem execSwirlPass_answers (s : State) : Answers (Instr.wf .swirlPass) s (execSwirlPass s) := by
  unfold execSwirlPass
  extract_lets n u base stale v w x
  rw [answers_next, keeps_modFlc]
  have hv : Keeps s v := by simp only [v, keeps_ite]; simp [u]
  have hw : Keeps s w := hv
  simp only [x, keeps_ite]
  split <;> simp [hw]

/-! ## The crypto cluster -/

theorem execCrySubmit_answers (r) (s : State) : Answers (Instr.wf (.crySubmit r)) s (execCrySubmit r s) :=
  answers_command fun o u h => by
    dsimp only; split
    · simp [h]
    · iterate 9 refine keeps_ite_of (fun _ => by simp [h]) fun _ => ?_
      refine (keeps_checks h).2 fun _ => (keeps_order h).2 fun _ => ?_
      repeat' split
      all_goals simp [h]

theorem execCryGetJob_answers (r) (s : State) : Answers (Instr.wf (.cryGetJob r)) s (execCryGetJob r s) :=
  answers_command fun o u h => (keeps_wellFormed h).2 fun _ => by
    repeat' split
    all_goals simp [h]

theorem execCryCancel_answers (r) (s : State) : Answers (Instr.wf (.cryCancel r)) s (execCryCancel r s) :=
  answers_command fun o u h => (keeps_wellFormed h).2 fun _ => by split <;> simp [h]

theorem execCryRandom_answers (r) (s : State) : Answers (Instr.wf (.cryRandom r)) s (execCryRandom r s) :=
  answers_command fun o u h => (keeps_formedBy h).2 fun _ => keeps_withDrbg h fun v hv => by simp [hv]

theorem execCryGetHealth_answers (r) (s : State) :
    Answers (Instr.wf (.cryGetHealth r)) s (execCryGetHealth r s) := answers_command fun o u h => by simp [h]

theorem execJobStart_answers (slot) (s : State) :
    Answers (Instr.wf (.jobStart slot)) s (execJobStart slot s) := by
  unfold execJobStart; dsimp only; repeat' split
  all_goals simp

theorem execJobComplete_answers (slot) (s : State) :
    Answers (Instr.wf (.jobComplete slot)) s (execJobComplete slot s) := by
  unfold execJobComplete; dsimp only; repeat' split
  all_goals simp

/-! ## The Sillage -/

theorem execCryptoClaimTimeout_answers (s : State) :
    Answers (Instr.wf (.cryptoClaimTimeout)) s (execCryptoClaimTimeout s) := by
  simp [execCryptoClaimTimeout, Instr.wf]

/-! ## The crypto cluster -/

theorem execEntropyBlock_answers (raw knownAnswers) (s : State) :
    Answers (Instr.wf (.entropyBlock raw knownAnswers)) s (execEntropyBlock raw knownAnswers s) := by
  simp [execEntropyBlock, Instr.wf]

theorem execEntropyFailRetry_answers (passes) (s : State) :
    Answers (Instr.wf (.entropyFailRetry passes)) s (execEntropyFailRetry passes s) := by
  simp [execEntropyFailRetry, Instr.wf]

theorem execDrbgReseed_answers (s : State) :
    Answers (Instr.wf (.drbgReseed)) s (execDrbgReseed s) := by
  simp [execDrbgReseed, Instr.wf]

/-! ## Platforms -/

theorem execSysReleasePlatform_answers (r) (s : State) :
    Answers (Instr.wf (.sysReleasePlatform r)) s (execSysReleasePlatform r s) := answers_command fun o u h => by simp [h]

theorem execSysHoldPlatform_answers (r) (s : State) :
    Answers (Instr.wf (.sysHoldPlatform r)) s (execSysHoldPlatform r s) := answers_command fun o u h => by simp [h]

theorem execSysGetBoot_answers (r) (s : State) :
    Answers (Instr.wf (.sysGetBoot r)) s (execSysGetBoot r s) := answers_command fun o u h => by simp [h]

theorem execPgoodChange_answers (plat level) (s : State) :
    Answers (Instr.wf (.pgoodChange plat level)) s (execPgoodChange plat level s) := by
  refine answers_onObject_of ?_ id
  dsimp only; repeat' split
  all_goals simp

theorem execHoldProcedure_answers (port reads) (s : State) :
    Answers (Instr.wf (.holdProcedure port reads)) s (execHoldProcedure port reads s) := by
  refine answers_onObject_of ?_ id
  dsimp only; repeat' split
  all_goals simp

/-! ## The Warden -/

theorem execHostTransaction_answers (port x) (s : State) :
    Answers (Instr.wf (.hostTransaction port x)) s (execHostTransaction port x s) := by
  simp [execHostTransaction, Instr.wf]

theorem execHostCaptureRelease_answers (port) (s : State) :
    Answers (Instr.wf (.hostCaptureRelease port)) s (execHostCaptureRelease port s) := by
  refine answers_onObject_of ?_ id
  split <;> simp

theorem execOwnOpStart_answers (port) (s : State) :
    Answers (Instr.wf (.ownOpStart port)) s (execOwnOpStart port s) := by
  refine answers_onObject_of ?_ id
  dsimp only; repeat' split
  all_goals simp

theorem execOwnOpPoll_answers (port status) (s : State) :
    Answers (Instr.wf (.ownOpPoll port status)) s (execOwnOpPoll port status s) := by
  refine answers_onObject_of ?_ id
  dsimp only; repeat' split
  all_goals simp

theorem execOwnOpReady_answers (port status) (s : State) :
    Answers (Instr.wf (.ownOpReady port status)) s (execOwnOpReady port status s) := by
  refine answers_onObject_of ?_ id
  dsimp only; repeat' split
  all_goals simp

theorem execBusyTimeout_answers (port) (s : State) :
    Answers (Instr.wf (.busyTimeout port)) s (execBusyTimeout port s) := by
  refine answers_onObject_of ?_ id
  repeat' split
  all_goals simp

theorem execWdnGetSfdp_answers (r) (s : State) :
    Answers (Instr.wf (.wdnGetSfdp r)) s (execWdnGetSfdp r s) := answers_command fun o u h => by simp [h]

theorem execWdnGetPort_answers (r) (s : State) :
    Answers (Instr.wf (.wdnGetPort r)) s (execWdnGetPort r s) := answers_command fun o u h => by simp [h]

theorem execWdnSetRegion_answers (r) (s : State) : Answers (Instr.wf (.wdnSetRegion r)) s (execWdnSetRegion r s) :=
  answers_command fun o u h => keeps_wdnCommand h <| (keeps_checks h).2 fun _ => (keeps_viaLink h).2 fun _ => (keeps_checks h).2 fun _ => by
    split <;> simp [h]

theorem execWdnCommit_answers (r) (s : State) :
    Answers (Instr.wf (.wdnCommit r)) s (execWdnCommit r s) := answers_command fun o u h => by simp [h]

theorem execWdnReviewAnswer_answers (r) (s : State) : Answers (Instr.wf (.wdnReviewAnswer r)) s (execWdnReviewAnswer r s) :=
  answers_command fun o u h => keeps_wdnCommand h <| (keeps_checks h).2 fun _ => (keeps_viaLink h).2 fun _ => (keeps_order h).2 fun _ => by
    dsimp only; repeat' split
    all_goals simp [h]

theorem execWdnGetCounters_answers (r) (s : State) :
    Answers (Instr.wf (.wdnGetCounters r)) s (execWdnGetCounters r s) := answers_command fun o u h => by simp [h]

/-! ## Platforms -/

theorem execWdnSetPhase_answers (r) (s : State) :
    Answers (Instr.wf (.wdnSetPhase r)) s (execWdnSetPhase r s) := answers_command fun o u h => by simp [h]

/-! ## The Warden -/

theorem execReviewExpiry_answers (port) (s : State) :
    Answers (Instr.wf (.reviewExpiry port)) s (execReviewExpiry port s) := by
  refine answers_onObject_of ?_ id
  dsimp only; repeat' split
  all_goals simp

theorem execRetireEnd_answers (port) (s : State) :
    Answers (Instr.wf (.retireEnd port)) s (execRetireEnd port s) := by
  simp [execRetireEnd, Instr.wf]

theorem execShadowCopyDone_answers (port) (s : State) :
    Answers (Instr.wf (.shadowCopyDone port)) s (execShadowCopyDone port s) := by
  refine answers_onObject_of ?_ id
  split <;> simp

/-! ## Mending -/

theorem execRecoveryStart_answers (s : State) :
    Answers (Instr.wf (.recoveryStart)) s (execRecoveryStart s) := by
  unfold execRecoveryStart; split <;> simp

theorem forall_mem_ite {α : Type} {p : α → Prop} {c : Prop} [Decidable c] {a b : Option α} (ha : c → ∀ x ∈ a, p x) (hb : ¬c → ∀ x ∈ b, p x) :
    ∀ x ∈ (if c then a else b), p x := by
  split
  · exact ha ‹_›
  · exact hb ‹_›

/-- An ending recovery keeps what its image's copy, pages and runner keep. -/
theorem keeps_recoveryEnds {s₀ s : State} {r : Recovery} (h : Keeps s₀ s) : ∀ x ∈ s.recoveryEnds r, Keeps s₀ x.2 := by
  unfold State.recoveryEnds; dsimp only
  split
  · rintro _ ⟨⟩; exact h
  · iterate 6 refine forall_mem_ite (fun _ => by rintro _ ⟨⟩; exact h) fun _ => ?_
    refine forall_mem_ite (fun _ _ hx => nomatch hx) fun _ => ?_
    iterate 2 refine forall_mem_ite (fun _ => by rintro _ ⟨⟩; simp [h]) fun _ => ?_
    exact forall_mem_ite (fun _ _ hx => nomatch hx) fun _ => by rintro _ ⟨⟩; simp [h]

theorem execRecoveryOutcome_answers (s : State) : Answers (Instr.wf .recoveryOutcome) s (execRecoveryOutcome s) := by
  unfold execRecoveryOutcome
  rw [answers_next]
  rcases s.wdn.running with _ | r
  · exact keeps_refl s
  · refine keeps_ite_of (fun _ => by simp) fun _ => keeps_ite_of (fun _ => by simp) fun _ => keeps_ite_of (fun _ => ?_) fun _ => ?_
    · split <;> simp
    · rcases hends : s.recoveryEnds r with _ | ⟨m, t⟩
      · exact keeps_refl s
      · exact keeps_endRecovery _ _ (keeps_recoveryEnds (keeps_refl s) _ hends)

theorem execRecoveryLimitExpiry_answers (s : State) :
    Answers (Instr.wf (.recoveryLimitExpiry)) s (execRecoveryLimitExpiry s) := by
  unfold execRecoveryLimitExpiry; split <;> simp

theorem execRcvGetPolicy_answers (r) (s : State) :
    Answers (Instr.wf (.rcvGetPolicy r)) s (execRcvGetPolicy r s) := answers_command fun o u h => by simp [h]

theorem execRcvMend_answers (r) (s : State) :
    Answers (Instr.wf (.rcvMend r)) s (execRcvMend r s) := answers_command fun o u h => by simp [h]

theorem execRcvUpdateGolden_answers (r) (s : State) : Answers (Instr.wf (.rcvUpdateGolden r)) s (execRcvUpdateGolden r s) :=
  answers_command fun o u h => keeps_formed h <| (keeps_checks h).2 fun _ => (keeps_viaLink h).2 fun _ => by
    have hu : Keeps s u.readDirectory := by simp [h]
    dsimp only; repeat' split
    · simp [h]
    · simp [h]
    · rw [keeps_updateEnds]
      exact keeps_setFlash hu fun hw => wf_mclear _ _ _ _ (flash_wf hw)

theorem execRcvUpdateKeeper_answers (r) (s : State) : Answers (Instr.wf (.rcvUpdateKeeper r)) s (execRcvUpdateKeeper r s) :=
  answers_command fun o u h => keeps_formed h <| (keeps_checks h).2 fun _ => (keeps_viaLink h).2 fun _ => by
    have hu : Keeps s u.readDirectory := by simp [h]
    have hstage : Keeps s (u.readDirectory.modWdn fun w => { w with staged := none }) := by simp [h]
    dsimp only; split
    · split
      · simp [h]
      · rw [keeps_updateEnds]
        exact keeps_setFlash hstage fun hw => wf_mclear _ _ _ _ (flash_wf hw)
    · split
      · refine (keeps_needsCrypto hu).2 fun _ _ => ?_
        generalize u.readDirectory.modWdn (fun w => { w with staged := none }) = v at hstage ⊢
        have hwrite (n : Nat) (b : Bytes) : Keeps s (v.setFlash 4 (nor (v.flash 4) n b)) :=
          keeps_setFlash hstage fun hw => wf_nor _ _ _ (flash_wf hw)
        split
        · simp [hstage]
        · split <;> simp [hwrite]
      · simp [h]

theorem execRcvGetStatus_answers (r) (s : State) :
    Answers (Instr.wf (.rcvGetStatus r)) s (execRcvGetStatus r s) := answers_command fun o u h => by simp [h]

/-! ## Restarts -/

theorem execKeeperInstallRestart_answers (s : State) :
    Answers (Instr.wf (.keeperInstallRestart)) s (execKeeperInstallRestart s) := by
  unfold execKeeperInstallRestart; dsimp only; repeat' split
  all_goals simp

/-! ## Attesting -/

theorem execAttQuote_answers (r) (s : State) :
    Answers (Instr.wf (.attQuote r)) s (execAttQuote r s) := answers_command fun o u h => by simp [h]

theorem execAttGetLog_answers (r) (s : State) :
    Answers (Instr.wf (.attGetLog r)) s (execAttGetLog r s) := answers_command fun o u h => by simp [h]

theorem execAttGetCert_answers (r) (s : State) :
    Answers (Instr.wf (.attGetCert r)) s (execAttGetCert r s) := answers_command fun o u h => by simp [h]

theorem execAttSpdm_answers (r) (s : State) :
    Answers (Instr.wf (.attSpdm r)) s (execAttSpdm r s) := answers_command fun o u h => by
    dsimp only; repeat' split
    all_goals simp [h]

/-! ## Lane engines -/

theorem execLanePush_answers (core engine value) (s : State) :
    Answers (Instr.wf (.lanePush core engine value)) s (execLanePush core engine value s) := by
  simp [execLanePush, Instr.wf]

theorem execLaneEntryStart_answers (engine) (s : State) :
    Answers (Instr.wf (.laneEntryStart engine)) s (execLaneEntryStart engine s) := by
  refine answers_onObject_of ?_ id
  dsimp only; repeat' split
  all_goals simp

theorem execLaneEntryComplete_answers (engine input) (s : State) :
    Answers (Instr.wf (.laneEntryComplete engine input)) s (execLaneEntryComplete engine input s) := by
  refine answers_onObject_of ?_ id
  dsimp only; repeat' split
  all_goals simp

theorem execLaneContTimeout_answers (engine) (s : State) :
    Answers (Instr.wf (.laneContTimeout engine)) s (execLaneContTimeout engine s) := by
  simp [execLaneContTimeout, Instr.wf]

theorem execLaneCancel_answers (core engine value) (s : State) :
    Answers (Instr.wf (.laneCancel core engine value)) s (execLaneCancel core engine value s) := by
  refine answers_onObject_of ((keeps_relayAccess (keeps_refl s)).2 fun _ => ?_) id
  dsimp only; repeat' split
  all_goals simp

theorem execLaneDoneRead_answers (core engine) (s : State) :
    Answers (Instr.wf (.laneDoneRead core engine)) s (execLaneDoneRead core engine s) := by
  refine answers_onObject_of ((keeps_relayAccess (keeps_refl s)).2 fun _ => ?_) id
  split <;> simp

theorem execLaneTargetWrite_answers (engine transaction data extraBits) (s : State) :
    Answers (Instr.wf (.laneTargetWrite engine transaction data extraBits)) s (execLaneTargetWrite engine transaction data extraBits s) := by
  refine answers_onObject_of ?_ id
  dsimp only; repeat' split
  all_goals simp

theorem execLaneTargetRead_answers (engine clocked) (s : State) :
    Answers (Instr.wf (.laneTargetRead engine clocked)) s (execLaneTargetRead engine clocked s) := by
  refine answers_onObject_of ?_ id
  dsimp only; repeat' split
  all_goals simp

theorem execLaneTargetStatus_answers (engine) (s : State) :
    Answers (Instr.wf (.laneTargetStatus engine)) s (execLaneTargetStatus engine s) := by
  simp [execLaneTargetStatus, Instr.wf]

theorem execLaneRxFree_answers (core engine value) (s : State) :
    Answers (Instr.wf (.laneRxFree core engine value)) s (execLaneRxFree core engine value s) := by
  simp [execLaneRxFree, Instr.wf]

theorem execLaneTxStage_answers (core engine value) (s : State) :
    Answers (Instr.wf (.laneTxStage core engine value)) s (execLaneTxStage core engine value s) := by
  simp [execLaneTxStage, Instr.wf]

theorem execLaneClaimTimeout_answers (engine) (s : State) :
    Answers (Instr.wf (.laneClaimTimeout engine)) s (execLaneClaimTimeout engine s) := by
  simp [execLaneClaimTimeout, Instr.wf]

theorem execCopyTakesEngine_answers (s : State) :
    Answers (Instr.wf (.copyTakesEngine)) s (execCopyTakesEngine s) := by
  simp [execCopyTakesEngine, Instr.wf]

/-! ## The Pacer -/

theorem execBucketTick_answers (die num) (s : State) : Answers (Instr.wf (.bucketTick die num)) s (execBucketTick die num s) := by
  refine answers_onObject_of ?_ fun hp => ?_
  · split
    · exact keeps_refl s
    · refine keeps_ite_of (fun _ => keeps_refl s) fun _ => ?_
      dsimp only
      rw [keeps_setBucket]
      split <;> simp
  · simp only [Instr.wf, decide_eq_false_iff_not] at hp ⊢
    split <;> omega

theorem execHeatEdge_answers (bank) (s : State) :
    Answers (Instr.wf (.heatEdge bank)) s (execHeatEdge bank s) := by
  simp [execHeatEdge, Instr.wf]

theorem execPcrGoRate_answers (core die value) (s : State) :
    Answers (Instr.wf (.pcrGoRate core die value)) s (execPcrGoRate core die value s) :=
  answers_onObject_of (keeps_pcrGo (keeps_refl s) fun n r u hu => by dsimp only; split <;> simp [hu]) id

theorem execPcrGoForgive_answers (core die value) (s : State) :
    Answers (Instr.wf (.pcrGoForgive core die value)) s (execPcrGoForgive core die value s) :=
  answers_onObject_of (keeps_pcrGo (keeps_refl s) fun n r u hu => by dsimp only; split <;> simp [hu]) id

theorem execPcrGetBucket_answers (r) (s : State) :
    Answers (Instr.wf (.pcrGetBucket r)) s (execPcrGetBucket r s) := answers_command fun o u h => by simp [h]

theorem execPcrSetRate_answers (r) (s : State) :
    Answers (Instr.wf (.pcrSetRate r)) s (execPcrSetRate r s) := answers_command fun o u h => by simp [h]

theorem execPcrForgive_answers (r) (s : State) :
    Answers (Instr.wf (.pcrForgive r)) s (execPcrForgive r s) := answers_command fun o u h => by simp [h]

theorem execPcrSetHeat_answers (r) (s : State) :
    Answers (Instr.wf (.pcrSetHeat r)) s (execPcrSetHeat r s) := answers_command fun o u h => by simp [h]

/-! ## Compartments -/

theorem execPulseEnd_answers (bank col) (s : State) :
    Answers (Instr.wf (.pulseEnd bank col)) s (execPulseEnd bank col s) := by
  refine answers_onObject_of ?_ id
  split <;> simp

theorem execOvercurrent_answers (bank row) (s : State) :
    Answers (Instr.wf (.overcurrent bank row)) s (execOvercurrent bank row s) := by
  simp [execOvercurrent, Instr.wf]

theorem execStuckOnGate_answers (bank row) (s : State) :
    Answers (Instr.wf (.stuckOnGate bank row)) s (execStuckOnGate bank row s) := by
  simp [execStuckOnGate, Instr.wf]

theorem execSenseScanRow_answers (bank row returns) (s : State) :
    Answers (Instr.wf (.senseScanRow bank row returns)) s (execSenseScanRow bank row returns s) := by
  simp [execSenseScanRow, Instr.wf]

theorem execDebounceExpiry_answers (comp bolt) (s : State) :
    Answers (Instr.wf (.debounceExpiry comp bolt)) s (execDebounceExpiry comp bolt s) := by
  refine answers_onObject_of ?_ id
  split <;> simp

theorem execRelockTimerExpiry_answers (comp) (s : State) :
    Answers (Instr.wf (.relockTimerExpiry comp)) s (execRelockTimerExpiry comp s) := by
  refine answers_onObject_of ?_ id
  split <;> simp

theorem execAjarTimerExpiry_answers (comp) (s : State) :
    Answers (Instr.wf (.ajarTimerExpiry comp)) s (execAjarTimerExpiry comp s) := by
  refine answers_onObject_of ?_ id
  split <;> simp

theorem execVerifyTimerExpiry_answers (comp) (s : State) :
    Answers (Instr.wf (.verifyTimerExpiry comp)) s (execVerifyTimerExpiry comp s) := by
  refine answers_onObject_of ?_ id
  split <;> simp

theorem execDualWindowExpiry_answers (comp) (s : State) :
    Answers (Instr.wf (.dualWindowExpiry comp)) s (execDualWindowExpiry comp s) := by
  simp [execDualWindowExpiry, Instr.wf]

theorem execDelayExpiry_answers (comp) (s : State) :
    Answers (Instr.wf (.delayExpiry comp)) s (execDelayExpiry comp s) := by
  simp [execDelayExpiry, Instr.wf]

theorem execOpenWindowExpiry_answers (comp) (s : State) :
    Answers (Instr.wf (.openWindowExpiry comp)) s (execOpenWindowExpiry comp s) := by
  simp [execOpenWindowExpiry, Instr.wf]

theorem execTimelockEnd_answers (comp) (s : State) :
    Answers (Instr.wf (.timelockEnd comp)) s (execTimelockEnd comp s) := by
  simp [execTimelockEnd, Instr.wf]

theorem execHoldEnd_answers (comp) (s : State) :
    Answers (Instr.wf (.holdEnd comp)) s (execHoldEnd comp s) := by
  simp [execHoldEnd, Instr.wf]

theorem execBankClaimTimeout_answers (bank) (s : State) :
    Answers (Instr.wf (.bankClaimTimeout bank)) s (execBankClaimTimeout bank s) := by
  simp [execBankClaimTimeout, Instr.wf]

theorem execCmpOpen_answers (r) (s : State) : Answers (Instr.wf (.cmpOpen r)) s (execCmpOpen r s) :=
  answers_command fun o u h => keeps_compCommand h <| by
    have hu (n : Nat) : Keeps s (u.settleStage n) := by simp [h]
    refine keeps_compReach (hu _) <| (keeps_order (hu _)).2 fun _ => (keeps_checks (hu _)).2 fun _ => ?_
    repeat' split
    all_goals simp [h]

theorem execCmpRelock_answers (r) (s : State) : Answers (Instr.wf (.cmpRelock r)) s (execCmpRelock r s) :=
  answers_command fun o u h => keeps_compCommand h <| keeps_compReach h <| (keeps_order h).2 fun _ => (keeps_checks h).2 fun _ => by simp [h]

theorem execCmpHold_answers (r) (s : State) :
    Answers (Instr.wf (.cmpHold r)) s (execCmpHold r s) := answers_command fun o u h => by simp [h]

theorem execCmpFreeze_answers (r) (s : State) :
    Answers (Instr.wf (.cmpFreeze r)) s (execCmpFreeze r s) := answers_command fun o u h => by simp [h]

theorem execCmpUnfreeze_answers (r) (s : State) :
    Answers (Instr.wf (.cmpUnfreeze r)) s (execCmpUnfreeze r s) := answers_command fun o u h => by simp [h]

theorem execCmpCredential_answers (r) (s : State) : Answers (Instr.wf (.cmpCredential r)) s (execCmpCredential r s) :=
  answers_command fun o u h => keeps_compCommand h <| by
    have hu (n : Nat) : Keeps s (u.settleStage n) := by simp [h]
    refine (keeps_checks (hu _)).2 fun _ => (keeps_order (hu _)).2 fun _ => (keeps_checks (hu _)).2 fun _ => ?_
    repeat' split
    all_goals simp [h]

theorem execCmpGetState_answers (r) (s : State) :
    Answers (Instr.wf (.cmpGetState r)) s (execCmpGetState r s) := answers_command fun o u h => by simp [h]

theorem execCmpGetBank_answers (r) (s : State) :
    Answers (Instr.wf (.cmpGetBank r)) s (execCmpGetBank r s) := answers_command fun o u h => by simp [h]

theorem execCmpSetTimelock_answers (r) (s : State) :
    Answers (Instr.wf (.cmpSetTimelock r)) s (execCmpSetTimelock r s) := answers_command fun o u h => by simp [h]

theorem execCmpDisable_answers (r) (s : State) : Answers (Instr.wf (.cmpDisable r)) s (execCmpDisable r s) :=
  answers_command fun o u h => keeps_compCommand h <| keeps_compReach h <| (keeps_order h).2 fun _ => by simp [h]

theorem execCmpEnable_answers (r) (s : State) : Answers (Instr.wf (.cmpEnable r)) s (execCmpEnable r s) :=
  answers_command fun o u h => keeps_compCommand h <| keeps_compReach h <| (keeps_order h).2 fun _ => (keeps_checks h).2 fun _ => by
    dsimp only; split <;> simp [h]

theorem execCmpSetGroup_answers (r) (s : State) :
    Answers (Instr.wf (.cmpSetGroup r)) s (execCmpSetGroup r s) := answers_command fun o u h => by simp [h]

/-! ## The Nose -/

theorem execNosImport_answers (r) (s : State) : Answers (Instr.wf (.nosImport r)) s (execNosImport r s) := by
  unfold execNosImport
  rw [answers_next, keeps_closeImport]
  refine keeps_command (keeps_refl s) fun o u h => (keeps_wellFormed h).2 fun _ => keeps_noseCommand h <| (keeps_checks h).2 fun _ =>
    (keeps_needsCrypto h).2 fun _ _ => (keeps_order h).2 fun _ => ?_
  repeat' split
  all_goals simp [h]

theorem execNosStart_answers (r) (s : State) :
    Answers (Instr.wf (.nosStart r)) s (execNosStart r s) := answers_command fun o u h => by simp [h]

theorem execNosStop_answers (r) (s : State) :
    Answers (Instr.wf (.nosStop r)) s (execNosStop r s) := answers_command fun o u h => by simp [h]

theorem execNosGetStatus_answers (r) (s : State) :
    Answers (Instr.wf (.nosGetStatus r)) s (execNosGetStatus r s) := answers_command fun o u h => by simp [h]

theorem execNosGetEvents_answers (r) (s : State) :
    Answers (Instr.wf (.nosGetEvents r)) s (execNosGetEvents r s) := answers_command fun o u h => by simp [h]

theorem execNoseImportClose_answers (s : State) :
    Answers (Instr.wf (.noseImportClose)) s (execNoseImportClose s) := by
  simp [execNoseImportClose, Instr.wf]

theorem execAnalogSample_answers (channel value) (s : State) :
    Answers (Instr.wf (.analogSample channel value)) s (execAnalogSample channel value s) := by
  refine answers_onObject_of ?_ id
  dsimp only; repeat' split
  all_goals simp

theorem execPdmSample_answers (input value) (s : State) :
    Answers (Instr.wf (.pdmSample input value)) s (execPdmSample input value s) := by
  refine answers_onObject_of ?_ id
  dsimp only; repeat' split
  all_goals simp

theorem execNoseWindowEdge_answers (s : State) :
    Answers (Instr.wf (.noseWindowEdge)) s (execNoseWindowEdge s) := by
  unfold execNoseWindowEdge; dsimp only; repeat' split
  all_goals simp

theorem execInferenceStart_answers (s : State) :
    Answers (Instr.wf (.inferenceStart)) s (execInferenceStart s) := by
  unfold execInferenceStart; split <;> simp

theorem execInferenceComplete_answers (s : State) :
    Answers (Instr.wf (.inferenceComplete)) s (execInferenceComplete s) := by
  unfold execInferenceComplete; split <;> simp

theorem execNoseScrubEnd_answers (s : State) :
    Answers (Instr.wf (.noseScrubEnd)) s (execNoseScrubEnd s) := by
  simp [execNoseScrubEnd, Instr.wf]

theorem execNoseClaimTimeout_answers (s : State) :
    Answers (Instr.wf (.noseClaimTimeout)) s (execNoseClaimTimeout s) := by
  simp [execNoseClaimTimeout, Instr.wf]

/-! ## Power -/

theorem execPwrGetState_answers (r) (s : State) :
    Answers (Instr.wf (.pwrGetState r)) s (execPwrGetState r s) := answers_command fun o u h => by simp [h]

theorem execPwrSetState_answers (r) (s : State) :
    Answers (Instr.wf (.pwrSetState r)) s (execPwrSetState r s) := answers_command fun o u h => by simp [h]

theorem execPwrSetDomain_answers (r) (s : State) :
    Answers (Instr.wf (.pwrSetDomain r)) s (execPwrSetDomain r s) := answers_command fun o u h => by simp [h]

theorem execPwrGetDomains_answers (r) (s : State) :
    Answers (Instr.wf (.pwrGetDomains r)) s (execPwrGetDomains r s) := answers_command fun o u h => by simp [h]

theorem execPwrGetMonitors_answers (r) (s : State) :
    Answers (Instr.wf (.pwrGetMonitors r)) s (execPwrGetMonitors r s) := answers_command fun o u h => by simp [h]

theorem execPwrSetGovernor_answers (r) (s : State) :
    Answers (Instr.wf (.pwrSetGovernor r)) s (execPwrSetGovernor r s) := answers_command fun o u h => by simp [h]

theorem execWakenLow_answers (s : State) :
    Answers (Instr.wf (.wakenLow)) s (execWakenLow s) := by
  simp [execWakenLow, Instr.wf]

/-! ## Restarts -/

theorem execMainPowerLost_answers (s : State) :
    Answers (Instr.wf (.mainPowerLost)) s (execMainPowerLost s) := by
  simp [execMainPowerLost, Instr.wf]

theorem execVaultEntry_answers (s : State) :
    Answers (Instr.wf (.vaultEntry)) s (execVaultEntry s) := by
  unfold execVaultEntry; split <;> simp

/-! ## Power -/

theorem execDomainReady_answers (domain) (s : State) :
    Answers (Instr.wf (.domainReady domain)) s (execDomainReady domain s) := by
  refine answers_onObject_of ?_ id
  dsimp only; repeat' split
  all_goals simp

theorem execDomainClaimRelease_answers (domain) (s : State) :
    Answers (Instr.wf (.domainClaimRelease domain)) s (execDomainClaimRelease domain s) := by
  simp [execDomainClaimRelease, Instr.wf]

theorem execDomainClaimTimeout_answers (domain) (s : State) :
    Answers (Instr.wf (.domainClaimTimeout domain)) s (execDomainClaimTimeout domain s) := by
  simp [execDomainClaimTimeout, Instr.wf]

theorem execDomainRailDrop_answers (domain) (s : State) : Answers (Instr.wf (.domainRailDrop domain)) s (execDomainRailDrop domain s) := by
  refine answers_onObject_of ?_ id
  dsimp only; split
  · exact keeps_foldl_of (fun u k hu => by simpa using hu) (by simp)
  · exact keeps_refl s

theorem execMonitorReading_answers (die channel value) (s : State) :
    Answers (Instr.wf (.monitorReading die channel value)) s (execMonitorReading die channel value s) := by
  refine answers_onObject_of ?_ id
  dsimp only; repeat' split
  all_goals simp

/-! ## Frames -/

theorem execMdioPoll_answers (mac bmcr bmsr adv partner gctl gstat) (s : State) :
    Answers (Instr.wf (.mdioPoll mac bmcr bmsr adv partner gctl gstat)) s (execMdioPoll mac bmcr bmsr adv partner gctl gstat s) := by
  refine answers_onObject_of ?_ id
  dsimp only; repeat' split
  all_goals simp

theorem execLinkTrainingEnd_answers (mac) (s : State) :
    Answers (Instr.wf (.linkTrainingEnd mac)) s (execLinkTrainingEnd mac s) := by
  refine answers_onObject_of ?_ id
  split <;> simp

theorem execMdioCoreAccess_answers (core mac value readData) (s : State) :
    Answers (Instr.wf (.mdioCoreAccess core mac value readData)) s (execMdioCoreAccess core mac value readData s) := by
  simp [execMdioCoreAccess, Instr.wf]

theorem execFrameSfd_answers (mac) (s : State) :
    Answers (Instr.wf (.frameSfd mac)) s (execFrameSfd mac s) := by
  simp [execFrameSfd, Instr.wf]

theorem execFrameReception_answers (mac frame codingError) (s : State) :
    Answers (Instr.wf (.frameReception mac frame codingError)) s (execFrameReception mac frame codingError s) := by
  refine answers_onObject_of ?_ id
  dsimp only; repeat' split
  all_goals simp

theorem execPauseExpiry_answers (s : State) :
    Answers (Instr.wf (.pauseExpiry)) s (execPauseExpiry s) := by
  unfold execPauseExpiry; split <;> simp

theorem execParseEnd_answers (mac) (s : State) :
    Answers (Instr.wf (.parseEnd mac)) s (execParseEnd mac s) := by
  refine answers_onObject_of ?_ id
  dsimp only; repeat' split
  all_goals simp

/-! ## The classifier -/

theorem execClassification_answers (mac) (s : State) :
    Answers (Instr.wf (.classification mac)) s (execClassification mac s) := by
  refine answers_onObject_of ?_ id
  dsimp only; repeat' split
  all_goals simp

/-! ## Frames -/

theorem execSlowPathDelivery_answers (s : State) : Answers (Instr.wf .slowPathDelivery) s (execSlowPathDelivery s) := by
  unfold execSlowPathDelivery
  rw [answers_next]; split
  · exact keeps_refl s
  · refine keeps_dispatchOrStale (by simp) ?_
    dsimp only; repeat' split
    all_goals simp

theorem execSpHeadWrite_answers (core value) (s : State) :
    Answers (Instr.wf (.spHeadWrite core value)) s (execSpHeadWrite core value s) := by
  simp [execSpHeadWrite, Instr.wf]

theorem execFrameTransmit_answers (mac) (s : State) :
    Answers (Instr.wf (.frameTransmit mac)) s (execFrameTransmit mac s) := by
  refine answers_onObject_of ?_ id
  dsimp only; repeat' split
  all_goals simp

theorem execResidenceExpiry_answers (mac) (s : State) :
    Answers (Instr.wf (.residenceExpiry mac)) s (execResidenceExpiry mac s) := by
  refine answers_onObject_of ?_ id
  dsimp only; repeat' split
  all_goals simp

/-! ## The classifier -/

theorem execEpochDrainCommit_answers (s : State) :
    Answers (Instr.wf (.epochDrainCommit)) s (execEpochDrainCommit s) := by
  simp [execEpochDrainCommit, Instr.wf]

theorem execClassifierCopyEnd_answers (s : State) :
    Answers (Instr.wf (.classifierCopyEnd)) s (execClassifierCopyEnd s) := by
  unfold execClassifierCopyEnd; split <;> simp

theorem execCustodySteer_answers (s : State) : Answers (Instr.wf .custodySteer) s (execCustodySteer s) := by
  unfold execCustodySteer
  rw [answers_next]; split
  · exact keeps_refl s
  · refine keeps_dispatchOrStale (by simp) ?_
    dsimp only; repeat' split
    all_goals simp

theorem execCustodyRecordTransmit_answers (s : State) :
    Answers (Instr.wf (.custodyRecordTransmit)) s (execCustodyRecordTransmit s) := by
  unfold execCustodyRecordTransmit; split <;> simp

theorem execMirrorCopy_answers (s : State) :
    Answers (Instr.wf (.mirrorCopy)) s (execMirrorCopy s) := by
  unfold execMirrorCopy; split <;> simp

theorem execMrHeadWrite_answers (core value) (s : State) :
    Answers (Instr.wf (.mrHeadWrite core value)) s (execMrHeadWrite core value s) := by
  simp [execMrHeadWrite, Instr.wf]

/-! ## Frames -/

theorem execNetGetPort_answers (r) (s : State) :
    Answers (Instr.wf (.netGetPort r)) s (execNetGetPort r s) := answers_command fun o u h => by simp [h]

theorem execNetSetLimits_answers (r) (s : State) :
    Answers (Instr.wf (.netSetLimits r)) s (execNetSetLimits r s) := answers_command fun o u h => by simp [h]

/-! ## The classifier -/

theorem execNetWriteRule_answers (r) (s : State) : Answers (Instr.wf (.netWriteRule r)) s (execNetWriteRule r s) :=
  answers_command fun o u h => (keeps_formedBy h).2 fun _ => (keeps_checks h).2 fun _ => by
    split
    · simp [h]
    · refine (keeps_checks h).2 fun _ => (keeps_order h).2 fun _ => ?_
      dsimp only; split <;> simp [h]

theorem execNetWriteRange_answers (r) (s : State) :
    Answers (Instr.wf (.netWriteRange r)) s (execNetWriteRange r s) := answers_command fun o u h => by
    dsimp only; repeat' split
    all_goals simp [h]

theorem execNetCommit_answers (r) (s : State) :
    Answers (Instr.wf (.netCommit r)) s (execNetCommit r s) := answers_command fun o u h => by simp [h]

theorem execNetGetCounters_answers (r) (s : State) :
    Answers (Instr.wf (.netGetCounters r)) s (execNetGetCounters r s) := answers_command fun o u h => by simp [h]

theorem execNetSetMirror_answers (r) (s : State) :
    Answers (Instr.wf (.netSetMirror r)) s (execNetSetMirror r s) := answers_command fun o u h => by simp [h]

theorem execNetInject_answers (r) (s : State) :
    Answers (Instr.wf (.netInject r)) s (execNetInject r s) := answers_command fun o u h => by simp [h]

/-! ## The Sillage -/

theorem execRecordEntry_answers (s : State) :
    Answers (Instr.wf (.recordEntry)) s (execRecordEntry s) := by
  unfold execRecordEntry; split <;> simp

theorem execRecordCommit_answers (s : State) :
    Answers (Instr.wf (.recordCommit)) s (execRecordCommit s) := by
  unfold execRecordCommit; repeat' split
  all_goals simp

theorem execBatchSealTimeout_answers (s : State) :
    Answers (Instr.wf (.batchSealTimeout)) s (execBatchSealTimeout s) := by
  simp [execBatchSealTimeout, Instr.wf]

theorem execSealSigned_answers (stopped) (s : State) :
    Answers (Instr.wf (.sealSigned stopped)) s (execSealSigned stopped s) := by
  unfold execSealSigned; split <;> simp

/-! ## The Sillage store -/

theorem execStoreWriteStart_answers (s : State) :
    Answers (Instr.wf (.storeWriteStart)) s (execStoreWriteStart s) := by
  unfold execStoreWriteStart; split <;> simp

theorem execStoreWriteDone_answers (failed) (s : State) :
    Answers (Instr.wf (.storeWriteDone failed)) s (execStoreWriteDone failed s) := by
  unfold execStoreWriteDone; dsimp only; repeat' split
  all_goals simp

/-! ## The Sillage -/

theorem execSubscriptionDelivery_answers (port session) (s : State) :
    Answers (Instr.wf (.subscriptionDelivery port session)) s (execSubscriptionDelivery port session s) := by
  unfold execSubscriptionDelivery; split <;> simp

theorem execAlertFrameStart_answers (s : State) :
    Answers (Instr.wf (.alertFrameStart)) s (execAlertFrameStart s) := by
  simp [execAlertFrameStart, Instr.wf]

theorem execLogRead_answers (r) (s : State) :
    Answers (Instr.wf (.logRead r)) s (execLogRead r s) := answers_command fun o u h => by simp [h]

/-! ## The Sillage store -/

theorem execLogExport_answers (r) (s : State) :
    Answers (Instr.wf (.logExport r)) s (execLogExport r s) := answers_command fun o u h => by simp [h]

/-! ## The Sillage -/

theorem execLogSeal_answers (r) (s : State) : Answers (Instr.wf (.logSeal r)) s (execLogSeal r s) :=
  answers_command fun o u h => (keeps_wellFormed h).2 fun _ => by
    dsimp only; repeat' split
    all_goals simp [h]

theorem execLogGetHead_answers (r) (s : State) :
    Answers (Instr.wf (.logGetHead r)) s (execLogGetHead r s) := answers_command fun o u h => by simp [h]

theorem execLogSubscribe_answers (r) (s : State) :
    Answers (Instr.wf (.logSubscribe r)) s (execLogSubscribe r s) := answers_command fun o u h => by simp [h]

theorem execLogClearAlert_answers (r) (s : State) :
    Answers (Instr.wf (.logClearAlert r)) s (execLogClearAlert r s) := answers_command fun o u h => by simp [h]

/-! ## Restarts -/

theorem execLossOfPllLock_answers (s : State) :
    Answers (Instr.wf (.lossOfPllLock)) s (execLossOfPllLock s) := by
  simp [execLossOfPllLock, Instr.wf]

/-! ## The Vault -/

theorem execVbatDisarm_answers (s : State) :
    Answers (Instr.wf (.vbatDisarm)) s (execVbatDisarm s) := by
  simp [execVbatDisarm, Instr.wf]

theorem execVaultRailBelowHold_answers (s : State) : Answers (Instr.wf .vaultRailBelowHold) s (execVaultRailBelowHold s) := by
  unfold execVaultRailBelowHold
  rw [answers_next]; split
  · exact keeps_refl s
  · exact keeps_refl s

/-! ## Frames -/

theorem execFrameTransmitted_answers (mac) (s : State) :
    Answers (Instr.wf (.frameTransmitted mac)) s (execFrameTransmitted mac s) := by
  refine answers_onObject_of ?_ id
  dsimp only; repeat' split
  all_goals simp

/-! ## Ports -/

theorem execSvcFramingError_answers (s : State) :
    Answers (Instr.wf (.svcFramingError)) s (execSvcFramingError s) := by
  simp [execSvcFramingError, Instr.wf]

/-- Only the four Banks' windows are mapped (R42). -/
theorem placeOf_bnk {addr b off : Nat} (h : placeOf addr = .bnk b off) : b < 4 := by
  unfold placeOf at h; dsimp only at h
  split_ifs at h
  obtain ⟨rfl, -⟩ := Place.bnk.inj h
  omega

theorem laneWrite_answers {core : CoreId} {e off : Nat} {v : Word} {s : State} {x : Out} (he : e < 2) (h : laneWrite core e off v s = some x) :
    Answers true s x := by
  have hwf : decide (e < 2) = true := decide_eq_true he
  unfold laneWrite at h
  split_ifs at h <;> cases h
  · simpa only [Instr.wf, hwf] using execLanePush_answers core e v s
  · simpa only [Instr.wf, hwf] using execLaneCancel_answers core e v s
  · simpa only [Instr.wf, hwf] using execLaneRxFree_answers core e v s
  · simpa only [Instr.wf, hwf] using execLaneTxStage_answers core e v s

theorem pcrGoForgive_answers (core : CoreId) {die : Nat} (v : Word) (s : State) (hdie : die < 5) :
    Answers true s (execPcrGoForgive core die v s) := by
  simpa only [Instr.wf, decide_eq_true hdie] using execPcrGoForgive_answers core die v s

theorem pcrGoRate_answers (core : CoreId) {die : Nat} (v : Word) (s : State) (hdie : die < 5) :
    Answers true s (execPcrGoRate core die v s) := by
  simpa only [Instr.wf, decide_eq_true hdie] using execPcrGoRate_answers core die v s

/-- A register with a behaviour of its own answers as its row does. -/
theorem ownWrite_answers {core : CoreId} {addr : Nat} {v : Word} {s : State} {x : Out} (h : ownWrite core addr v s = some x) :
    Answers true s x := by
  have hfree : Keeps s s.freeVal.2 := by simp
  unfold ownWrite at h; dsimp only at h
  split at h
  · split_ifs at h <;> cases h
    · exact execStwWdogKick_answers v s
    · exact execStwRspRingWrite_answers core v s
    · exact execStwDoorbell_answers v s
    · exact execRfCtlEnter_answers core v s
  · split_ifs at h
    · exact laneWrite_answers (by omega) h
    all_goals cases h
    · exact pcrGoForgive_answers core v s (by decide)
    · exact pcrGoRate_answers core v s (by decide)
    · exact answers_trans hfree (execMdioCoreAccess_answers core 0 v _ _)
    · exact answers_trans hfree (execMdioCoreAccess_answers core 1 v _ _)
    · exact execSpHeadWrite_answers core v s
    · exact execMrHeadWrite_answers core v s
  · rename_i hplace
    have := placeOf_bnk hplace
    split_ifs at h <;> cases h
    · exact pcrGoForgive_answers core v s (by omega)
    · exact pcrGoRate_answers core v s (by omega)
  · cases h

theorem execRegisterWrite_answers (core addr value) (s : State) :
    Answers (Instr.wf (.registerWrite core addr value)) s (execRegisterWrite core addr value s) := by
  have hwins : Keeps s (s.writeWins core (addr / 4 * 4)) := by simp
  unfold execRegisterWrite; dsimp only; repeat' split
  · simp
  · simp
  · simp
  · rename_i hout
    exact answers_trans hwins (ownWrite_answers hout)
  · simp

theorem execRcRegisterRead_answers (core addr) (s : State) :
    Answers (Instr.wf (.rcRegisterRead core addr)) s (execRcRegisterRead core addr s) := by
  unfold execRcRegisterRead; dsimp only; repeat' split
  · simp
  · simp
  · exact execTkNowLoRead_answers core s
  · exact execVltTickLoRead_answers core s
  · exact answers_of_true (execLaneDoneRead_answers core 0 s)
  · exact answers_of_true (execLaneDoneRead_answers core 1 s)
  · simp

end Sys2Proof.Machine
end

section
/-! SUPPORT. The statements about every command: it runs (EveryCommandRuns), it keeps the queue and the part (QueueAndPartKept), and every step keeps
the invariant (StepKeepsInvariant). -/

namespace Sys2Proof.Machine

/-- Every command answers with a state that keeps the queue, the part, the count's bound and the memories' form, or names an object that no
variant has: each row by the lemma of its family. -/
theorem exec_answers (i : Instr) (s : State) : Answers i.wf s (exec i s) := by
  cases i with
  | pornRelease refclk vresNf senseFaults => exact execPornRelease_answers refclk vresNf senseFaults s
  | pornLow widthNs => exact execPornLow_answers widthNs s
  | drbgReady => exact execDrbgReady_answers s
  | gunCheckResult link counter => exact execGunCheckResult_answers link counter s
  | gunCheckTimeout link => exact execGunCheckTimeout_answers link s
  | portsOpen => exact execPortsOpen_answers s
  | imageDigestPresented plat image => exact execImageDigestPresented_answers plat image s
  | imageVerdict plat image => exact execImageVerdict_answers plat image s
  | pgoodWaitExpiry plat => exact execPgoodWaitExpiry_answers plat s
  | measurementLimitExpiry plat image => exact execMeasurementLimitExpiry_answers plat image s
  | heartClosure => exact execHeartClosure_answers s
  | stagingRevalidate => exact execStagingRevalidate_answers s
  | releaseOrderDue => exact execReleaseOrderDue_answers s
  | platformRelease plat => exact execPlatformRelease_answers plat s
  | flitReceived link toKeeper flit message => exact execFlitReceived_answers link toKeeper flit message s
  | ackTimerExpiry link toKeeper => exact execAckTimerExpiry_answers link toKeeper s
  | linkTrainDone link => exact execLinkTrainDone_answers link s
  | trainTimeout link => exact execTrainTimeout_answers link s
  | relinkAttemptTimeout link => exact execRelinkAttemptTimeout_answers link s
  | cadenceLoss link => exact execCadenceLoss_answers link s
  | clockMonitorWindow count => exact execClockMonitorWindow_answers count s
  | keeperWdogExpiry => exact execKeeperWdogExpiry_answers s
  | stwWdogExpiry => exact execStwWdogExpiry_answers s
  | stwWdogKick value => exact execStwWdogKick_answers value s
  | accessFault core addr => exact execAccessFault_answers core addr s
  | registerWrite core addr value => exact execRegisterWrite_answers core addr value s
  | tkNowLoRead core => exact execTkNowLoRead_answers core s
  | vltTickLoRead core => exact execVltTickLoRead_answers core s
  | nvmProgramErase core fetchFromB bank op => exact execNvmProgramErase_answers core fetchFromB bank op s
  | nvmOperationDone bank => exact execNvmOperationDone_answers bank s
  | sysGetTopology r => exact execSysGetTopology_answers r s
  | sysGetLinks r => exact execSysGetLinks_answers r s
  | sysGetTime r => exact execSysGetTime_answers r s
  | sysCheckAlign r => exact execSysCheckAlign_answers r s
  | mb0Write transaction data extraBits => exact execMb0Write_answers transaction data extraBits s
  | mb0Read clocked => exact execMb0Read_answers clocked s
  | mb0Status => exact execMb0Status_answers s
  | mb1Write transaction data extraBits => exact execMb1Write_answers transaction data extraBits s
  | mb1Read clocked => exact execMb1Read_answers clocked s
  | mb1Status => exact execMb1Status_answers s
  | selectClash => exact execSelectClash_answers s
  | mb0NoticeEnqueue => exact execMb0NoticeEnqueue_answers s
  | svcPacket packet => exact execSvcPacket_answers packet s
  | svcPresentLow => exact execSvcPresentLow_answers s
  | svcPresentHigh => exact execSvcPresentHigh_answers s
  | svcAuthLockExpiry => exact execSvcAuthLockExpiry_answers s
  | stwDoorbell value => exact execStwDoorbell_answers value s
  | stwRspRingWrite core value => exact execStwRspRingWrite_answers core value s
  | stwRingDeliver => exact execStwRingDeliver_answers s
  | extAnswer opcode forward status payload => exact execExtAnswer_answers opcode forward status payload s
  | bulkFrameIn port session => exact execBulkFrameIn_answers port session s
  | bulkFrameOutConsumed port session => exact execBulkFrameOutConsumed_answers port session s
  | bulkIdleExpiry port session inbound => exact execBulkIdleExpiry_answers port session inbound s
  | responseTimerExpiry port session tag => exact execResponseTimerExpiry_answers port session tag s
  | custodyRecord source record => exact execCustodyRecord_answers source record s
  | handshakeTimeout => exact execHandshakeTimeout_answers s
  | cusIdleExpiry session => exact execCusIdleExpiry_answers session s
  | sysNop r => exact execSysNop_answers r s
  | sysGetVersion r => exact execSysGetVersion_answers r s
  | sysGetPort r => exact execSysGetPort_answers r s
  | sysSvcChallenge r => exact execSysSvcChallenge_answers r s
  | sysSvcAuth r => exact execSysSvcAuth_answers r s
  | sysTicketStatus r => exact execSysTicketStatus_answers r s
  | extCommand opcode r => exact execExtCommand_answers opcode r s
  | frmGetInfo r => exact execFrmGetInfo_answers r s
  | frmStage r => exact execFrmStage_answers r s
  | frmActivate r => exact execFrmActivate_answers r s
  | activateRestart => exact execActivateRestart_answers s
  | frmGetRanks r => exact execFrmGetRanks_answers r s
  | fusRead r => exact execFusRead_answers r s
  | fusProgram r => exact execFusProgram_answers r s
  | fusFinalise r => exact execFusFinalise_answers r s
  | fusSetLifecycle r => exact execFusSetLifecycle_answers r s
  | fusBumpCounter r => exact execFusBumpCounter_answers r s
  | fuseWordDone verified => exact execFuseWordDone_answers verified s
  | lifecycleRestart => exact execLifecycleRestart_answers s
  | meshSample pair level => exact execMeshSample_answers pair level s
  | staticSample input level => exact execStaticSample_answers input level s
  | vaultTempSample tempC => exact execVaultTempSample_answers tempC s
  | vbatGlitch step above4V => exact execVbatGlitch_answers step above4V s
  | vaultOscPeriod cycles => exact execVaultOscPeriod_answers cycles s
  | vaultSwirl => exact execVaultSwirl_answers s
  | vbatLow below => exact execVbatLow_answers below s
  | vbatArm => exact execVbatArm_answers s
  | redflagnLow low => exact execRedflagnLow_answers low s
  | rfCtlEnter core value => exact execRfCtlEnter_answers core value s
  | sysLockdown r => exact execSysLockdown_answers r s
  | sysLiftLockdown r => exact execSysLiftLockdown_answers r s
  | sysGetTamper r => exact execSysGetTamper_answers r s
  | keyGenerate r => exact execKeyGenerate_answers r s
  | keyImport r => exact execKeyImport_answers r s
  | keyWrap r => exact execKeyWrap_answers r s
  | keyDestroy r => exact execKeyDestroy_answers r s
  | keyGetAttr r => exact execKeyGetAttr_answers r s
  | keyProvenance r => exact execKeyProvenance_answers r s
  | keySetSwirl r => exact execKeySetSwirl_answers r s
  | swirlPass => exact execSwirlPass_answers s
  | crySubmit r => exact execCrySubmit_answers r s
  | cryGetJob r => exact execCryGetJob_answers r s
  | cryCancel r => exact execCryCancel_answers r s
  | cryRandom r => exact execCryRandom_answers r s
  | cryGetHealth r => exact execCryGetHealth_answers r s
  | jobStart slot => exact execJobStart_answers slot s
  | jobComplete slot => exact execJobComplete_answers slot s
  | cryptoClaimTimeout => exact execCryptoClaimTimeout_answers s
  | entropyBlock raw knownAnswers => exact execEntropyBlock_answers raw knownAnswers s
  | entropyFailRetry passes => exact execEntropyFailRetry_answers passes s
  | drbgReseed => exact execDrbgReseed_answers s
  | sysReleasePlatform r => exact execSysReleasePlatform_answers r s
  | sysHoldPlatform r => exact execSysHoldPlatform_answers r s
  | sysGetBoot r => exact execSysGetBoot_answers r s
  | pgoodChange plat level => exact execPgoodChange_answers plat level s
  | holdProcedure port reads => exact execHoldProcedure_answers port reads s
  | hostTransaction port x => exact execHostTransaction_answers port x s
  | hostCaptureRelease port => exact execHostCaptureRelease_answers port s
  | ownOpStart port => exact execOwnOpStart_answers port s
  | ownOpPoll port status => exact execOwnOpPoll_answers port status s
  | ownOpReady port status => exact execOwnOpReady_answers port status s
  | busyTimeout port => exact execBusyTimeout_answers port s
  | wdnGetSfdp r => exact execWdnGetSfdp_answers r s
  | wdnGetPort r => exact execWdnGetPort_answers r s
  | wdnSetRegion r => exact execWdnSetRegion_answers r s
  | wdnCommit r => exact execWdnCommit_answers r s
  | wdnReviewAnswer r => exact execWdnReviewAnswer_answers r s
  | wdnGetCounters r => exact execWdnGetCounters_answers r s
  | wdnSetPhase r => exact execWdnSetPhase_answers r s
  | reviewExpiry port => exact execReviewExpiry_answers port s
  | retireEnd port => exact execRetireEnd_answers port s
  | shadowCopyDone port => exact execShadowCopyDone_answers port s
  | recoveryStart => exact execRecoveryStart_answers s
  | recoveryOutcome => exact execRecoveryOutcome_answers s
  | recoveryLimitExpiry => exact execRecoveryLimitExpiry_answers s
  | rcvGetPolicy r => exact execRcvGetPolicy_answers r s
  | rcvMend r => exact execRcvMend_answers r s
  | rcvUpdateGolden r => exact execRcvUpdateGolden_answers r s
  | rcvUpdateKeeper r => exact execRcvUpdateKeeper_answers r s
  | rcvGetStatus r => exact execRcvGetStatus_answers r s
  | keeperInstallRestart => exact execKeeperInstallRestart_answers s
  | attQuote r => exact execAttQuote_answers r s
  | attGetLog r => exact execAttGetLog_answers r s
  | attGetCert r => exact execAttGetCert_answers r s
  | attSpdm r => exact execAttSpdm_answers r s
  | lanePush core engine value => exact execLanePush_answers core engine value s
  | laneEntryStart engine => exact execLaneEntryStart_answers engine s
  | laneEntryComplete engine input => exact execLaneEntryComplete_answers engine input s
  | laneContTimeout engine => exact execLaneContTimeout_answers engine s
  | laneCancel core engine value => exact execLaneCancel_answers core engine value s
  | laneDoneRead core engine => exact execLaneDoneRead_answers core engine s
  | laneTargetWrite engine transaction data extraBits => exact execLaneTargetWrite_answers engine transaction data extraBits s
  | laneTargetRead engine clocked => exact execLaneTargetRead_answers engine clocked s
  | laneTargetStatus engine => exact execLaneTargetStatus_answers engine s
  | laneRxFree core engine value => exact execLaneRxFree_answers core engine value s
  | laneTxStage core engine value => exact execLaneTxStage_answers core engine value s
  | laneClaimTimeout engine => exact execLaneClaimTimeout_answers engine s
  | copyTakesEngine => exact execCopyTakesEngine_answers s
  | bucketTick die num => exact execBucketTick_answers die num s
  | heatEdge bank => exact execHeatEdge_answers bank s
  | pcrGoRate core die value => exact execPcrGoRate_answers core die value s
  | pcrGoForgive core die value => exact execPcrGoForgive_answers core die value s
  | pcrGetBucket r => exact execPcrGetBucket_answers r s
  | pcrSetRate r => exact execPcrSetRate_answers r s
  | pcrForgive r => exact execPcrForgive_answers r s
  | pcrSetHeat r => exact execPcrSetHeat_answers r s
  | pulseEnd bank col => exact execPulseEnd_answers bank col s
  | overcurrent bank row => exact execOvercurrent_answers bank row s
  | stuckOnGate bank row => exact execStuckOnGate_answers bank row s
  | senseScanRow bank row returns => exact execSenseScanRow_answers bank row returns s
  | debounceExpiry comp bolt => exact execDebounceExpiry_answers comp bolt s
  | relockTimerExpiry comp => exact execRelockTimerExpiry_answers comp s
  | ajarTimerExpiry comp => exact execAjarTimerExpiry_answers comp s
  | verifyTimerExpiry comp => exact execVerifyTimerExpiry_answers comp s
  | dualWindowExpiry comp => exact execDualWindowExpiry_answers comp s
  | delayExpiry comp => exact execDelayExpiry_answers comp s
  | openWindowExpiry comp => exact execOpenWindowExpiry_answers comp s
  | timelockEnd comp => exact execTimelockEnd_answers comp s
  | holdEnd comp => exact execHoldEnd_answers comp s
  | bankClaimTimeout bank => exact execBankClaimTimeout_answers bank s
  | cmpOpen r => exact execCmpOpen_answers r s
  | cmpRelock r => exact execCmpRelock_answers r s
  | cmpHold r => exact execCmpHold_answers r s
  | cmpFreeze r => exact execCmpFreeze_answers r s
  | cmpUnfreeze r => exact execCmpUnfreeze_answers r s
  | cmpCredential r => exact execCmpCredential_answers r s
  | cmpGetState r => exact execCmpGetState_answers r s
  | cmpGetBank r => exact execCmpGetBank_answers r s
  | cmpSetTimelock r => exact execCmpSetTimelock_answers r s
  | cmpDisable r => exact execCmpDisable_answers r s
  | cmpEnable r => exact execCmpEnable_answers r s
  | cmpSetGroup r => exact execCmpSetGroup_answers r s
  | nosImport r => exact execNosImport_answers r s
  | nosStart r => exact execNosStart_answers r s
  | nosStop r => exact execNosStop_answers r s
  | nosGetStatus r => exact execNosGetStatus_answers r s
  | nosGetEvents r => exact execNosGetEvents_answers r s
  | noseImportClose => exact execNoseImportClose_answers s
  | analogSample channel value => exact execAnalogSample_answers channel value s
  | pdmSample input value => exact execPdmSample_answers input value s
  | noseWindowEdge => exact execNoseWindowEdge_answers s
  | inferenceStart => exact execInferenceStart_answers s
  | inferenceComplete => exact execInferenceComplete_answers s
  | noseScrubEnd => exact execNoseScrubEnd_answers s
  | noseClaimTimeout => exact execNoseClaimTimeout_answers s
  | pwrGetState r => exact execPwrGetState_answers r s
  | pwrSetState r => exact execPwrSetState_answers r s
  | pwrSetDomain r => exact execPwrSetDomain_answers r s
  | pwrGetDomains r => exact execPwrGetDomains_answers r s
  | pwrGetMonitors r => exact execPwrGetMonitors_answers r s
  | pwrSetGovernor r => exact execPwrSetGovernor_answers r s
  | wakenLow => exact execWakenLow_answers s
  | mainPowerLost => exact execMainPowerLost_answers s
  | vaultEntry => exact execVaultEntry_answers s
  | domainReady domain => exact execDomainReady_answers domain s
  | domainClaimRelease domain => exact execDomainClaimRelease_answers domain s
  | domainClaimTimeout domain => exact execDomainClaimTimeout_answers domain s
  | domainRailDrop domain => exact execDomainRailDrop_answers domain s
  | monitorReading die channel value => exact execMonitorReading_answers die channel value s
  | mdioPoll mac bmcr bmsr adv partner gctl gstat => exact execMdioPoll_answers mac bmcr bmsr adv partner gctl gstat s
  | linkTrainingEnd mac => exact execLinkTrainingEnd_answers mac s
  | mdioCoreAccess core mac value readData => exact execMdioCoreAccess_answers core mac value readData s
  | frameSfd mac => exact execFrameSfd_answers mac s
  | frameReception mac frame codingError => exact execFrameReception_answers mac frame codingError s
  | pauseExpiry => exact execPauseExpiry_answers s
  | parseEnd mac => exact execParseEnd_answers mac s
  | classification mac => exact execClassification_answers mac s
  | slowPathDelivery => exact execSlowPathDelivery_answers s
  | spHeadWrite core value => exact execSpHeadWrite_answers core value s
  | frameTransmit mac => exact execFrameTransmit_answers mac s
  | residenceExpiry mac => exact execResidenceExpiry_answers mac s
  | epochDrainCommit => exact execEpochDrainCommit_answers s
  | classifierCopyEnd => exact execClassifierCopyEnd_answers s
  | custodySteer => exact execCustodySteer_answers s
  | custodyRecordTransmit => exact execCustodyRecordTransmit_answers s
  | mirrorCopy => exact execMirrorCopy_answers s
  | mrHeadWrite core value => exact execMrHeadWrite_answers core value s
  | netGetPort r => exact execNetGetPort_answers r s
  | netSetLimits r => exact execNetSetLimits_answers r s
  | netWriteRule r => exact execNetWriteRule_answers r s
  | netWriteRange r => exact execNetWriteRange_answers r s
  | netCommit r => exact execNetCommit_answers r s
  | netGetCounters r => exact execNetGetCounters_answers r s
  | netSetMirror r => exact execNetSetMirror_answers r s
  | netInject r => exact execNetInject_answers r s
  | recordEntry => exact execRecordEntry_answers s
  | recordCommit => exact execRecordCommit_answers s
  | batchSealTimeout => exact execBatchSealTimeout_answers s
  | sealSigned stopped => exact execSealSigned_answers stopped s
  | storeWriteStart => exact execStoreWriteStart_answers s
  | storeWriteDone failed => exact execStoreWriteDone_answers failed s
  | subscriptionDelivery port session => exact execSubscriptionDelivery_answers port session s
  | alertFrameStart => exact execAlertFrameStart_answers s
  | logRead r => exact execLogRead_answers r s
  | logExport r => exact execLogExport_answers r s
  | logSeal r => exact execLogSeal_answers r s
  | logGetHead r => exact execLogGetHead_answers r s
  | logSubscribe r => exact execLogSubscribe_answers r s
  | logClearAlert r => exact execLogClearAlert_answers r s
  | rcRegisterRead core addr => exact execRcRegisterRead_answers core addr s
  | lossOfPllLock => exact execLossOfPllLock_answers s
  | vbatDisarm => exact execVbatDisarm_answers s
  | vaultRailBelowHold => exact execVaultRailBelowHold_answers s
  | frameTransmitted mac => exact execFrameTransmitted_answers mac s
  | svcFramingError => exact execSvcFramingError_answers s

theorem exec_keeps {i : Instr} {s t : State} (h : exec i s = .next t) : Keeps s t := by
  simpa only [h, answers_next] using exec_answers i s

/-- Settles O3: a fault is an answer only where the operands name what no variant has. -/
theorem everyCommandRuns : Obligations.EveryCommandRuns := by
  unfold Obligations.EveryCommandRuns
  intro i s
  have h := exec_answers i s
  rcases hx : exec i s with t | f | r <;> rw [hx] at h
  · exact ⟨fun _ => ⟨t, rfl⟩, (by rintro _ ⟨⟩), by rintro _ ⟨⟩⟩
  · have hwf : i.wf = false := h
    refine ⟨fun hi => ?_, fun f' _ => ⟨by cases f'; rfl, hwf⟩, by rintro _ ⟨⟩⟩
    rw [hwf] at hi; cases hi
  · exact h.elim

/-- Settles O4: what every command keeps holds the queue and the part. -/
theorem queueAndPartKept : Obligations.QueueAndPartKept := by
  unfold Obligations.QueueAndPartKept
  intro i s t h
  obtain ⟨hqueue, hpart, -⟩ := exec_keeps h
  exact ⟨hqueue, hpart⟩

theorem inv_iff {s : State} : s.inv = true ↔ s.now ≤ maxCycle ∧ s.memoriesWf = true ∧ s.part.legal = true := by
  simp only [State.inv, Bool.and_eq_true, decide_eq_true_eq, and_assoc]

/-- What is kept takes the invariant along. -/
theorem inv_of_keeps {s t : State} (h : Keeps s t) (hs : s.inv = true) : t.inv = true := by
  obtain ⟨-, hpart, hcount, hmemories⟩ := h
  obtain ⟨hnow, hwf, hlegal⟩ := inv_iff.1 hs
  exact inv_iff.2 ⟨hcount hnow, hmemories hwf, by rwa [hpart]⟩

/-- Settles O5: an edge keeps the bound as every command does, and the queue is no part of the invariant. -/
theorem stepKeepsInvariant : Obligations.StepKeepsInvariant := by
  unfold Obligations.StepKeepsInvariant
  intro s t hs hstep
  unfold step at hstep
  split at hstep
  · cases hstep
    exact inv_of_keeps ((keeps_tick s).2 (keeps_refl s)) hs
  · rename_i c rest _
    have hrest : ({ s with pending := rest } : State).inv = true := hs
    exact inv_of_keeps (exec_keeps hstep) hrest

end Sys2Proof.Machine
end

section
/-! SUPPORT. The machine's step (StepRunsFrontCommand, IdleStepIsOneEdge) and its reset (ResetState). -/

namespace Sys2Proof.Machine

/-- Settles O1: a non-empty queue gives its front to `exec`. -/
theorem stepRunsFrontCommand : Obligations.StepRunsFrontCommand := fun _ _ => rfl

/-- One edge of a running Cadence raises the count until it holds at its largest value (R59). -/
theorem advanceTo_succ {s : State} (h : s.now ≤ maxCycle) :
    s.advanceTo (s.now + 1) = { s with clk := { s.clk with now := if s.now < maxCycle then s.now + 1 else maxCycle } } := by
  have hnow : max s.clk.now (min maxCycle (s.now + 1)) = if s.now < maxCycle then s.now + 1 else maxCycle := by
    change max s.now _ = _
    split <;> omega
  simp only [State.advanceTo, State.modClk, hnow]

/-- Settles O2: an empty queue lets the Cadence tick. -/
theorem idleStepIsOneEdge : Obligations.IdleStepIsOneEdge := by
  unfold Obligations.IdleStepIsOneEdge
  intro s hempty hle
  simp only [step, hempty, State.tick, advanceTo_succ hle]

/-- Settles O6: every field of the reset state has its value by definition. -/
theorem resetState : Obligations.ResetState := by
  unfold Obligations.ResetState
  exact ⟨by decide, rfl, rfl, rfl, rfl, rfl, rfl, rfl, rfl, rfl, rfl, rfl, rfl, rfl, rfl, rfl, rfl⟩

end Sys2Proof.Machine
end

section
/-! SUPPORT. Responses (R101, R102, R121, R139): what placing one leaves on its port's answer path, of the outstanding commands, and of
everything else; late commands (R146), the photo finish (R79) and tickets (R103). -/

namespace Sys2Proof.Machine

/-- The frame of a response (Table 3.2). -/
def Outstanding.response (o : Outstanding) (code : Nat) (payload : Bytes) : Frame :=
  { opcode := o.opcode, flags := 1, status := code, tag := o.tag, payload := payload }

theorem respond_kpr {o : Outstanding} (h : o.port = .kpr) (code : Nat) (payload : Bytes) (s : State) :
    s.respond o code payload = (s.logDone false o code payload).dropOut o := by
  simp only [State.respond, State.place, h, if_true]

/-- A port's response is its answer, once the command is outstanding no longer. -/
theorem respond_port {o : Outstanding} (h : o.port ≠ .kpr) (code : Nat) (payload : Bytes) (s : State) :
    s.respond o code payload
      = ((s.logDone false o code payload).dropOut o).answer o.port o.session (o.response code payload) := by
  simp only [State.respond, State.place, if_neg h, Outstanding.response]

/-- The outstanding commands after a response are those of other ports, sessions and TAGs. -/
theorem respond_outstanding (o : Outstanding) (code : Nat) (payload : Bytes) (s : State) :
    (s.respond o code payload).paths.outstanding
      = s.paths.outstanding.filter fun x => !x.isFor o.port o.session o.tag := by
  by_cases h : o.port = .kpr
  · rw [respond_kpr h]
    simp [State.dropOut]
  · rw [respond_port h]
    simp [State.dropOut]

theorem findOut_respond (o : Outstanding) (code : Nat) (payload : Bytes) (s : State) :
    (s.respond o code payload).findOut o.port o.session o.tag = none := by
  simp only [State.findOut, respond_outstanding, List.find?_eq_none, List.mem_filter]
  rintro x ⟨-, hx⟩
  simpa using hx

/-! ## The answer path of each port -/

theorem respond_mb {o : Outstanding} (h : o.port = .mb0) (code : Nat) (payload : Bytes) (s : State) :
    (s.respond o code payload).mb = { s.mb with queue := s.mb.queue ++ [o.response code payload] } := by
  rw [respond_port (by simp [h]), h]
  simp [State.answer]

theorem respond_stw {o : Outstanding} (h : o.port = .stw) (code : Nat) (payload : Bytes) (s : State) :
    (s.respond o code payload).stw = { s.stw with queue := s.stw.queue ++ [o.response code payload] } := by
  rw [respond_port (by simp [h]), h]
  simp [State.answer]

theorem respond_svc {o : Outstanding} (h : o.port = .svc) (code : Nat) (payload : Bytes) (s : State) :
    (s.respond o code payload).svc
      = if s.svc.present then { s.svc with sent := svcPack 0 (withCrc (o.response code payload).bytes) } else s.svc := by
  rw [respond_port (by simp [h]), h]
  simp only [State.answer, dropOut_svc, logDone_svc]
  split <;> simp

theorem respond_cus {o : Outstanding} (h : o.port = .cus) (code : Nat) (payload : Bytes) (s : State) :
    (s.respond o code payload).cus
      = if s.sessionOpen o.session then
          { s.cus with out := s.cus.out ++ [⟨o.session, 0x10, 0 :: (o.response code payload).bytes, (tget {} s.cus.sessions o.session).address⟩] }
        else s.cus := by
  have hopen : ((s.logDone false o code payload).dropOut o).sessionOpen o.session = s.sessionOpen o.session := by
    simp only [State.sessionOpen, dropOut_cus, logDone_cus]
  rw [respond_port (by simp [h]), h]
  simp only [State.answer, hopen]
  split <;> simp

/-! ## What an answer leaves alone -/

theorem answer_mb {p : Port} (h : p ≠ .mb0) (n : Nat) (f : Frame) (s : State) : (s.answer p n f).mb = s.mb := by
  cases p <;> simp [State.answer, apply_ite State.mb] at h ⊢

theorem answer_stw {p : Port} (h : p ≠ .stw) (n : Nat) (f : Frame) (s : State) : (s.answer p n f).stw = s.stw := by
  cases p <;> simp [State.answer, apply_ite State.stw] at h ⊢

theorem answer_svc {p : Port} (h : p ≠ .svc) (n : Nat) (f : Frame) (s : State) : (s.answer p n f).svc = s.svc := by
  cases p <;> simp [State.answer, apply_ite State.svc] at h ⊢

theorem answer_cus {p : Port} (h : p ≠ .cus) (n : Nat) (f : Frame) (s : State) : (s.answer p n f).cus = s.cus := by
  cases p <;> simp [State.answer, apply_ite State.cus] at h ⊢

/-- A response changes, of the components, at most its own port's, the outstanding commands and the log. -/
theorem respond_paths (o : Outstanding) (code : Nat) (payload : Bytes) (s : State) :
    (s.respond o code payload).paths
      = { s.paths with outstanding := s.paths.outstanding.filter fun x => !x.isFor o.port o.session o.tag } := by
  by_cases h : o.port = .kpr
  · rw [respond_kpr h]
    simp [State.dropOut]
  · rw [respond_port h]
    simp [State.dropOut]

theorem respond_mb_other {o : Outstanding} (h : o.port ≠ .mb0) (code : Nat) (payload : Bytes) (s : State) :
    (s.respond o code payload).mb = s.mb := by
  by_cases hk : o.port = .kpr
  · simp [respond_kpr hk]
  · simp [respond_port hk, answer_mb h]

theorem respond_stw_other {o : Outstanding} (h : o.port ≠ .stw) (code : Nat) (payload : Bytes) (s : State) :
    (s.respond o code payload).stw = s.stw := by
  by_cases hk : o.port = .kpr
  · simp [respond_kpr hk]
  · simp [respond_port hk, answer_stw h]

theorem respond_svc_other {o : Outstanding} (h : o.port ≠ .svc) (code : Nat) (payload : Bytes) (s : State) :
    (s.respond o code payload).svc = s.svc := by
  by_cases hk : o.port = .kpr
  · simp [respond_kpr hk]
  · simp [respond_port hk, answer_svc h]

theorem respond_cus_other {o : Outstanding} (h : o.port ≠ .cus) (code : Nat) (payload : Bytes) (s : State) :
    (s.respond o code payload).cus = s.cus := by
  by_cases hk : o.port = .kpr
  · simp [respond_kpr hk]
  · simp [respond_port hk, answer_cus h]

/-- Settles O7: each port's answer path by its equation, and the frame of a response by the fields it leaves alone. -/
theorem responsePlacedOnce : Obligations.ResponsePlacedOnce := by
  unfold Obligations.ResponsePlacedOnce
  refine ⟨fun o code payload s => ⟨findOut_respond o code payload s, fun h => ?_, fun h => ?_, fun h hp => ?_, fun h hp => ?_, fun h hopen => ?_,
    fun h hclosed => ?_⟩, fun o code payload s => ⟨fun x hx hother => ?_, fun x hx => ?_, ?_, fun h => respond_mb_other h .., fun h => respond_stw_other h ..,
    fun h => respond_svc_other h .., fun h => respond_cus_other h .., respond_setOut o o code payload s rfl rfl rfl⟩⟩
  · rw [respond_mb h]; rfl
  · rw [respond_stw h]; rfl
  · rw [respond_svc h, if_pos hp]; rfl
  · rw [respond_svc h, if_neg (by simp [hp])]
  · rw [respond_cus h, if_pos hopen]; rfl
  · rw [respond_cus h, if_neg (by simp [hclosed])]
  · rw [respond_outstanding]
    exact List.mem_filter.2 ⟨hx, by simp [hother]⟩
  · rw [respond_outstanding] at hx
    exact (List.mem_filter.1 hx).1
  · refine (respond_frame o code payload s).trans ?_
    rw [respond_paths]

/-! ## Late commands -/

/-- Settles O10: a waiting command is taken as begun, and how far it had come leaves no trace in its record and its response. -/
theorem lateCommandExpires : Obligations.LateCommandExpires := by
  unfold Obligations.LateCommandExpires
  intro op r o s owner hfound hop hwaits hlate
  have htake : s.take op r = (s.setOut { o with progress := .begun }, some { o with progress := .begun }) := by
    simp only [State.take, hfound, hop, hwaits, and_self, if_true]
  have hnow : o.deadline ≤ (s.setOut { o with progress := .begun }).now := by rwa [setOut_now]
  simp only [State.command, htake, hnow, if_true]
  have hdrop := dropOut_setOut o { o with progress := .begun } (s.logDone true o cExpired (zeros 4)) rfl rfl rfl
  have hlog := logDone_setOut true o { o with progress := .begun } cExpired (zeros 4) s
  simp only [← hlog] at hdrop
  change ((s.setOut _).logDone true o cExpired (zeros 4)).place o cExpired (zeros 4) = _
  unfold State.place
  rw [hdrop]
  rfl

/-! ## The photo finish -/

/-- Settles O11: a winner shares an object on the present edge; the orders of earlier edges win no longer. -/
theorem photoFinish : Obligations.PhotoFinish := by
  unfold Obligations.PhotoFinish
  refine fun o objects body s => ⟨fun w hw => order_opposed hw o body, fun h => order_unopposed h o body, fun p op taken x htaken hx => ?_,
    fun t hlater hpaths hpast => ?_⟩
  · simp only [State.winner, List.find?_isSome]
    refine ⟨{ edge := s.now, port := p, opcode := op, objects := taken }, ?_, ?_⟩
    · simp [State.takesEffect]
    · simp only [takesEffect_now, true_and, decide_eq_true_eq, List.any_eq_true]
      exact ⟨x, htaken, by simpa using hx⟩
  · simp only [State.unopposed, State.winner, List.find?_eq_none, hpaths]
    intro e he
    have := hpast e he
    have hne : e.edge ≠ t.now := by omega
    simp [hne]

/-! ## Tickets -/

/-- Settles O12: a fresh ticket is listed under the next number, and a settled one is sent once. -/
theorem ticketsNumberedOnce : Obligations.TicketsNumberedOnce := by
  unfold Obligations.TicketsNumberedOnce
  refine fun o s => ⟨rfl, rfl, ?_, fun n code result t ht => ⟨fun hsent => ?_, fun hunsent => ?_⟩⟩
  · change tfind (tins s.paths.tickets s.paths.nextTicket _) _ = _
    rw [tfind_tins, if_pos rfl]
  · simp only [State.settleTicket, ht, hsent, if_true]
  · simp only [State.settleTicket, ht, hunsent, Bool.false_eq_true, if_false]

end Sys2Proof.Machine
end

section
/-! SUPPORT. The queries of a port (R90, R103, R213): SYS.NOP, SYS.GET_VERSION, SYS.GET_PORT and SYS.TICKET_STATUS. -/

namespace Sys2Proof.Machine

theorem exec_sysNop {r : Req} {o : Outstanding} {s u : State} (hruns : Runs 0x0001 r o s u) (hfits : o.fits 0 []) :
    exec (.sysNop r) s = .next (u.respond o cOk []) := by
  change execSysNop r s = _
  simp only [execSysNop, command_runs hruns, wellFormed_fits hfits, State.done]

/-- The release and the Steward's version are reported only of firmware that runs (R213). -/
theorem exec_sysGetVersion {r : Req} {o : Outstanding} {s u : State} (hruns : Runs 0x0002 r o s u) (hfits : o.fits 0 []) :
    exec (.sysGetVersion r) s = .next (u.respond o cOk
      (le 1 (u.part.romRev / 256) ++ le 1 u.part.romRev ++ le 1 ((if u.boot.kfVersion.isSome then u.boot.kfRev else 0) / 256)
        ++ le 1 (if u.boot.kfVersion.isSome then u.boot.kfRev else 0) ++ le 4 (u.boot.kfVersion.getD 0)
        ++ le 4 (if u.boot.kfVersion.isSome then u.boot.stwVersion else 0) ++ le 1 u.lifecycle ++ le 1 u.variant ++ zeros 2)) := by
  change execSysGetVersion r s = _
  simp only [execSysGetVersion, command_runs hruns, wellFormed_fits hfits, State.done]

theorem exec_sysGetPort {r : Req} {o : Outstanding} {s u : State} (hruns : Runs 0x0003 r o s u) (hfits : o.fits 0 []) :
    exec (.sysGetPort r) s = .next (u.respond o cOk
      (le 1 o.port.index ++ le 1 o.port.rank ++ le 1 (u.outCount o.port o.session - 1) ++ le 1 (b2n u.svc.auth)
        ++ le 1 (if o.port = .cus then o.session else 0) ++ zeros 3)) := by
  change execSysGetPort r s = _
  simp only [execSysGetPort, command_runs hruns, wellFormed_fits hfits, State.done]

/-- A ticket of the asking port and session shows whether its notice was sent and with what code. -/
theorem exec_sysTicketStatus_own {r : Req} {o : Outstanding} {s u : State} {t : Ticket} (hruns : Runs 0x000A r o s u) (hfits : o.fits 4 [])
    (hfind : tfind u.paths.tickets (u32 o.payload 0) = some t) (hport : t.port = o.port) (hsession : t.session = o.session) :
    exec (.sysTicketStatus r) s = .next (u.respond o cOk (if t.sent then le 1 2 ++ le 1 t.final ++ zeros 2 else le 1 1 ++ zeros 3)) := by
  change execSysTicketStatus r s = _
  simp only [execSysTicketStatus, command_runs hruns, wellFormed_fits hfits, hfind, hport, hsession, and_self, if_true, State.done]
  cases t.sent <;> rfl

/-- Any other number shows nothing. -/
theorem exec_sysTicketStatus_other {r : Req} {o : Outstanding} {s u : State} (hruns : Runs 0x000A r o s u) (hfits : o.fits 4 [])
    (hother : ∀ t, tfind u.paths.tickets (u32 o.payload 0) = some t → ¬(t.port = o.port ∧ t.session = o.session)) :
    exec (.sysTicketStatus r) s = .next (u.respond o cOk (zeros 4)) := by
  change execSysTicketStatus r s = _
  simp only [execSysTicketStatus, command_runs hruns, wellFormed_fits hfits]
  rcases hfind : tfind u.paths.tickets (u32 o.payload 0) with _ | t
  · rfl
  · simp only [if_neg (hother t hfind)]; rfl

/-- Settles O13: each query by the equation of its row. -/
theorem portQueries : Obligations.PortQueries := by
  unfold Obligations.PortQueries
  refine fun r o s u => ⟨exec_sysNop, fun hruns hfits => ⟨fun v hv => ?_, fun hnone => ?_⟩, exec_sysGetPort, fun hruns hfits =>
    ⟨fun t => exec_sysTicketStatus_own hruns hfits, exec_sysTicketStatus_other hruns hfits⟩⟩
  · simp only [exec_sysGetVersion hruns hfits, hv, Option.isSome_some, if_true, Option.getD_some]
  · simp only [exec_sysGetVersion hruns hfits, hnone, Option.isSome_none, Bool.false_eq_true, if_false, Option.getD_none]
    simp [zeros, le]

end Sys2Proof.Machine
end

section
/-! SUPPORT. The DRBG's deliveries (R325, R326), and the service port (R119 to R124, R134). -/

namespace Sys2Proof.Machine

/-! ## Deliveries of the DRBG -/

/-- A generate request before the reseed is due delivers from the state as it is. -/
theorem generate_undue {s : State} (h : s.reseedDue = false) (n : Nat) :
    s.generate n = ((s.cry.deliver n).1, s.modCry fun _ => (s.cry.deliver n).2) := by
  simp only [State.generate, h, Bool.false_eq_true, false_and, if_false]
  rfl

theorem withDrbg_ready {s : State} (hready : s.drbgReady = true) (hdue : s.reseedDue = false) (o : Outstanding) (body : State → State) :
    s.withDrbg o false body = body s := by
  simp only [State.withDrbg, hready, hdue, Bool.not_true, Bool.false_eq_true, Bool.or_self, if_false]

theorem needsCrypto_on {s : State} (hdrain : s.draining dCrypto = false) (hon : s.domainOn dCrypto = true) (o : Outstanding)
    (body : State → State) : s.needsCrypto o body = body s := by
  simp only [State.needsCrypto, hdrain, hon, Bool.not_true, Bool.false_eq_true, if_false]

/-! ## Challenge and authentication -/

theorem exec_sysSvcChallenge {r : Req} {o : Outstanding} {s u : State} (hruns : Runs 0x0008 r o s u) (hfits : o.fits 0 [])
    (hready : u.drbgReady = true) (hdue : u.reseedDue = false) :
    exec (.sysSvcChallenge r) s = .next
      (((u.modCry fun _ => (u.cry.deliver 32).2).modSvc fun v => { v with nonce := some (u.cry.deliver 32).1 }).respond o cOk
        ((u.cry.deliver 32).1 ++ u.devid)) := by
  change execSysSvcChallenge r s = _
  simp only [execSysSvcChallenge, command_runs hruns, wellFormed_fits hfits, withDrbg_ready hready hdue, generate_undue hdue]
  rfl

/-- SYS.SVC_AUTH while no refusal of R123 runs and CRYPTO is on, by the nonce it finds. -/
theorem exec_sysSvcAuth_unlocked {r : Req} {o : Outstanding} {s u : State} (hruns : Runs 0x0009 r o s u) (hfits : o.fits 8 [])
    (hdrain : u.draining dCrypto = false) (hon : u.domainOn dCrypto = true) (hunlocked : u.svc.lockUntil = none) :
    (u.svc.nonce = none → exec (.sysSvcAuth r) s = .next (u.authFails o 0x0003))
    ∧ ∀ nonce, u.svc.nonce = some nonce → u.certGood 7 0x82 (o.bulk.take certLength) = true → o.bulk.length = certLength + 3405 →
        certSigned (o.bulk.take certLength) (sha (ascii "TXI-SVC" ++ u.devid ++ nonce)) (slice o.bulk certLength 96)
          (o.bulk.drop (certLength + 96)) = true →
        exec (.sysSvcAuth r) s = .next
          (((u.modSvc fun v => { v with nonce := none, failures := 0, auth := true }).event 4 2 0x0504 0x0009 cOk (baton o.edge 4)).respond
            o cOk []) := by
  have hover : u.authLockOver = u := by simp only [State.authLockOver, hunlocked]
  have hlock : u.svc.lockUntil.isSome = false := by rw [hunlocked]; rfl
  change (_ → execSysSvcAuth r s = _) ∧ ∀ nonce, _ → _ → _ → _ → execSysSvcAuth r s = _
  simp only [execSysSvcAuth, command_runs hruns, wellFormed_fits hfits, hover, hlock, Bool.false_eq_true, if_false, needsCrypto_on hdrain hon]
  refine ⟨fun hnone => by simp only [hnone], fun nonce hnonce hgood hlen hsigned => ?_⟩
  simp only [hnonce, hgood, hlen, hsigned, hruns.opcode, Bool.not_true, Bool.false_eq_true, if_false, ne_eq, not_true_eq_false, or_self, State.done]

/-- While the refusal of R123 runs the command is refused. -/
theorem exec_sysSvcAuth_locked {r : Req} {o : Outstanding} {s u : State} {e : Nat} (hruns : Runs 0x0009 r o s u) (hfits : o.fits 8 [])
    (hlock : u.svc.lockUntil = some e) (hbefore : u.now < e) : exec (.sysSvcAuth r) s = .next (u.refuse o 0) := by
  have hover : u.authLockOver = u := by simp only [State.authLockOver, hlock, if_neg (Nat.not_le.2 hbefore)]
  change execSysSvcAuth r s = _
  simp only [execSysSvcAuth, command_runs hruns, wellFormed_fits hfits, hover, hlock, Option.isSome_some, if_true]

/-- A response leaves all of the service port alone but the packet it sends. -/
theorem respond_svc_frame (o : Outstanding) (code : Nat) (payload : Bytes) (s : State) :
    (s.respond o code payload).svc = { s.svc with sent := (s.respond o code payload).svc.sent } := by
  by_cases h : o.port = .svc
  · rw [respond_svc h]
    split <;> rfl
  · rw [respond_svc_other h]

/-- A third failure in a row begins the refusal of R123. -/
theorem authFails_third {u : State} (h : u.svc.failures = 2) (o : Outstanding) (detail : Nat) :
    (u.authFails o detail).svc.lockUntil = some (u.now + 2 ^ 35) ∧ (u.authFails o detail).svc.auth = u.svc.auth := by
  have hthird : 3 ≤ u.svc.failures + 1 := by omega
  simp only [State.authFails, State.refuse, State.modSvc_svc, hthird, if_true]
  constructor <;> rw [respond_svc_frame] <;> simp [State.now]

/-! ## Packets -/

/-- A packet on an open port with a free slot, by what it decodes to. -/
theorem exec_svcPacket_open {s : State} (hpresent : s.svc.present = true) (hopen : s.svc.isOpen = true) (hfree : s.svc.slots.length < 2)
    (packet : Bytes) :
    exec (.svcPacket packet) s = .next (match cobsDecode (packet.length + 1) packet with
      | none => s.svcDiscard
      | some [] => s.svcDiscard
      | some (channel :: d) =>
        if 4110 < d.length + 1 ∨ 1 < channel.toNat then s.svcDiscard
        else if channel = 1 then s.modSvc fun v => { v with slots := v.slots ++ [d] }
        else if !frameLengthOk d ∨ !crcPasses d then s.svcDiscard.logDiscard .svc 0 (u16 d 0)
        else if s.fus.romOnly then s.romAnswers (Frame.ofBytes (d.take (d.length - 4)))
        else s.receive .svc 0 (Frame.ofBytes (d.take (d.length - 4)))) := by
  have hslots : ¬2 ≤ s.svc.slots.length := by omega
  change execSvcPacket packet s = _
  simp only [execSvcPacket, hpresent, hopen, hslots, Bool.not_true, Bool.false_eq_true, false_and, or_self, if_false] <;> rfl

/-! ## The port's close -/

/-- One transfer of a closing port ends: an inbound one's command completes EXPIRED (R121). -/
def State.closeOne (p : Port) (n : Nat) (s : State) (b : Bulk) : State :=
  let s := s.closeBulk p n b.inbound
  if b.inbound then (match s.findOut p n b.tag with | some o => s.expire o | none => s) else s

theorem closeTransfers_eq (p : Port) (n : Nat) (s : State) :
    s.closeTransfers p n = (s.paths.bulks.filter fun b => b.port = p ∧ b.session = n).foldl (State.closeOne p n)
      (s.modWdn fun w => { w with spdm := tdel w.spdm (p.index * 8 + n) }) := rfl

/-- An ended transfer is gone, and no other with it. -/
theorem closeOne_bulks (p : Port) (n : Nat) (s : State) (b : Bulk) :
    (s.closeOne p n b).paths.bulks = s.paths.bulks.filter fun x => !(x.port = p ∧ x.session = n ∧ x.inbound = b.inbound) := by
  unfold State.closeOne; dsimp only
  split
  · split
    · rw [State.expire, respond_paths]; rfl
    · rfl
  · rfl

/-- Of the transfers that remain none was to be ended. -/
theorem mem_foldl_closeOne {p : Port} {n : Nat} {l : List Bulk} {s : State} {x : Bulk} (hx : x ∈ (l.foldl (State.closeOne p n) s).paths.bulks) :
    x ∈ s.paths.bulks ∧ ∀ b ∈ l, ¬(x.port = p ∧ x.session = n ∧ x.inbound = b.inbound) := by
  induction l generalizing s with
  | nil => exact ⟨hx, by simp⟩
  | cons b l ih =>
    obtain ⟨hmem, hrest⟩ := ih hx
    rw [closeOne_bulks, List.mem_filter] at hmem
    exact ⟨hmem.1, List.forall_mem_cons.2 ⟨by simpa only [Bool.not_eq_true', decide_eq_false_iff_not] using hmem.2, hrest⟩⟩

/-- A closed port or session has no transfer. -/
theorem transfer_closeTransfers (p : Port) (n : Nat) (inbound : Bool) (s : State) : (s.closeTransfers p n).transfer p n inbound = none := by
  simp only [State.transfer, List.find?_eq_none, decide_eq_true_eq]
  rintro x hx ⟨hp, hn, -⟩
  rw [closeTransfers_eq] at hx
  obtain ⟨hmem, hended⟩ := mem_foldl_closeOne hx
  exact hended x (List.mem_filter.2 ⟨hmem, by simp [hp, hn]⟩) ⟨hp, hn, rfl⟩

/-- What a closing port keeps of the service port, when its answers are discarded. -/
theorem closeTransfers_svc {s : State} (h : s.svc.present = false) : (s.closeTransfers .svc 0).svc = s.svc := by
  have hstep (u : State) (b : Bulk) (hu : u.svc = s.svc) : (u.closeOne .svc 0 b).svc = s.svc := by
    unfold State.closeOne; dsimp only
    split
    · split
      · rename_i o ho
        obtain ⟨hp, -, -⟩ := findOut_isFor ho
        rw [State.expire, respond_svc hp]
        simp [hu, h]
      · exact hu
    · exact hu
  rw [closeTransfers_eq]
  generalize List.filter _ s.paths.bulks = l
  have hfold (l : List Bulk) (u : State) (hu : u.svc = s.svc) : (l.foldl (State.closeOne .svc 0) u).svc = s.svc := by
    induction l generalizing u with
    | nil => exact hu
    | cons b l ih => exact ih _ (hstep u b hu)
  exact hfold l _ rfl

/-- The log's subscriptions without those of a port or session. -/
theorem unsubscribe_subs (p : Port) (n : Nat) (s : State) : ∀ x ∈ (s.unsubscribe p n).log.subs, ¬(x.port = p ∧ x.session = n) := by
  intro x hx
  have := (List.mem_filter.1 hx).2
  simpa only [Bool.not_eq_true', decide_eq_false_iff_not] using this

@[simp] theorem putRec_subs (r : Rec) (s : State) : (s.putRec r).log.subs = s.log.subs := by
  unfold State.putRec; split <;> rfl

/-- A record on its way leaves the subscriptions alone. -/
@[simp] theorem event_subs (slot src code a0 a1 a2 : Nat) (s : State) : (s.event slot src code a0 a1 a2).log.subs = s.log.subs :=
  putRec_subs _ s

/-- What presenting SVC_PRESENTn high leaves of the service port (R121). -/
theorem exec_svcPresentHigh (s : State) : ∃ t, exec .svcPresentHigh s = .next t
    ∧ t.svc = { s.svc with present := false, closedAt := some s.now, auth := false, nonce := none, slots := [] }
    ∧ (∀ inbound, t.transfer .svc 0 inbound = none) ∧ ∀ x ∈ t.log.subs, ¬(x.port = .svc ∧ x.session = 0) := by
  refine ⟨_, rfl, ?_, fun inbound => ?_, ?_⟩
  · rw [event_svc]
    exact closeTransfers_svc rfl
  · rw [State.transfer, event_paths]
    exact transfer_closeTransfers .svc 0 inbound _
  · rw [event_subs]
    exact unsubscribe_subs _ _ _

/-- Settles O14: the challenge and the authentication by the nonce and the lock, the packets by their channel, and the close of the port. -/
theorem servicePort : Obligations.ServicePort := by
  unfold Obligations.ServicePort
  refine ⟨fun r o s u => ⟨fun hruns hfits hready hdue => ⟨deliver_length .., rfl, exec_sysSvcChallenge hruns hfits hready hdue⟩,
    fun hruns hfits hdrain hon hunlocked => ?_, fun e => exec_sysSvcAuth_locked, fun e he => ?_⟩,
    fun s => ⟨fun packet d hpresent hopen hfree hlen => ?_, rfl, rfl, ?_⟩⟩
  · obtain ⟨hfails, hpasses⟩ := exec_sysSvcAuth_unlocked hruns hfits hdrain hon hunlocked
    exact ⟨hpasses, fun hnone htwo => ⟨_, hfails hnone, authFails_third htwo o _⟩⟩
  · change execSvcAuthLockExpiry u = _
    simp only [execSvcAuthLockExpiry, he]
  · have hlong : ¬4110 < d.length + 1 := by omega
    rw [exec_svcPacket_open hpresent hopen hfree]
    refine ⟨fun hdec hform hcrc hrom => ?_, fun hdec => ?_, fun hdec => ?_⟩
    · simp [hdec, hlong, hform, hcrc, hrom]
    · simp [hdec, hlong]
    · simp only [hdec, State.svcDiscard]
  · obtain ⟨t, ht, hsvc, htransfer, hsubs⟩ := exec_svcPresentHigh s
    refine ⟨t, ht, ?_, ?_, ?_, ?_, ?_, ?_, htransfer true, htransfer false, hsubs⟩ <;> rw [hsvc]

end Sys2Proof.Machine
end

section
/-! SUPPORT. The Steward port and EXT commands (StewardPortAndExt). -/

namespace Sys2Proof.Machine

/-! ## What is read of a memory -/

@[simp] theorem mread_length (d : Byte) (m : Memory) (a n : Nat) : (mread d m a n).length = n := by
  induction n generalizing a with
  | zero => rfl
  | succ n ih => simp [mread, ih]

/-- The first bytes of what is read are what a shorter read gives. -/
theorem take_mread (d : Byte) (m : Memory) (a : Nat) {k n : Nat} (h : k ≤ n) : (mread d m a n).take k = mread d m a k := by
  induction k generalizing a n with
  | zero => rfl
  | succ k ih =>
    obtain ⟨n, rfl⟩ : ∃ i, n = i + 1 := ⟨n - 1, by omega⟩
    simp only [mread, List.take_succ_cons]
    rw [ih (a + 1) (by omega)]

/-! ## The doorbell and the ring -/

/-- A doorbell that names an offset in Steward TCM, while the Steward runs. -/
theorem exec_stwDoorbell {s : State} {v : Word} (hon : s.stewardOn = true) (hv : v.toNat < 2 ^ 17) :
    exec (.stwDoorbell v) s = .next (
      let n := u16 (s.tcm (v.toNat + 4) 2) 0
      if v.toNat % 4 ≠ 0 then s.modStw fun q => { q with alignErr := true }
      else if 16 ≤ s.outCount .stw 0 then s.modStw fun q => { q with dbRefused := true }
      else if 0x20000 < v.toNat + 12 + n then s.modStw fun q => { q with rangeErr := true }
      else
        let d := s.tcm v.toNat (12 + n)
        if !crcPasses d then (s.modStw fun q => { q with crcErr := true }).logDiscard .stw 0 (u16 d 0)
        else
          let f := Frame.ofBytes (d.take (8 + n))
          let s := s.modStw fun q => { q with rang := true }
          if bit f.flags 4 ∧ isExt f.opcode then (s.acceptEdge .stw).extAnswered f.opcode f.tag f.status f.payload
          else s.receive .stw 0 f) := by
  have hlen (n : Nat) : (s.tcm v.toNat (12 + n)).length - 4 = 8 + n := by
    rw [State.tcm, mread_length]; omega
  change execStwDoorbell v s = _
  simp only [execStwDoorbell, Nat.mod_eq_of_lt hv, Nat.not_le.2 hv, if_false, hon, Bool.not_true, Bool.false_eq_true, hlen]

/-- A doorbell whose frame is no EXT answer gives it to reception. -/
theorem exec_stwDoorbell_receives {s : State} {v : Word} (hon : s.stewardOn = true) (hv : v.toNat < 2 ^ 17)
    (halign : v.toNat % 4 = 0) (hroom : s.outCount .stw 0 < 16) (hrange : v.toNat + 12 + u16 (s.tcm (v.toNat + 4) 2) 0 ≤ 0x20000)
    (hcrc : crcPasses (s.tcm v.toNat (12 + u16 (s.tcm (v.toNat + 4) 2) 0)) = true)
    (hflag : bit (Frame.ofBytes (s.tcm v.toNat (8 + u16 (s.tcm (v.toNat + 4) 2) 0))).flags 4 = false) :
    exec (.stwDoorbell v) s = .next ((s.modStw fun q => { q with rang := true }).receive .stw 0
      (Frame.ofBytes ((s.tcm v.toNat (12 + u16 (s.tcm (v.toNat + 4) 2) 0)).take (8 + u16 (s.tcm (v.toNat + 4) 2) 0)))) := by
  have htake : (s.tcm v.toNat (12 + u16 (s.tcm (v.toNat + 4) 2) 0)).take (8 + u16 (s.tcm (v.toNat + 4) 2) 0)
      = s.tcm v.toNat (8 + u16 (s.tcm (v.toNat + 4) 2) 0) := take_mread _ _ _ (by omega)
  rw [exec_stwDoorbell hon hv]
  simp only [halign, Nat.not_le.2 hroom, Nat.not_lt.2 hrange, hcrc, htake, hflag, ne_eq, not_true, if_false, Bool.not_true,
    Bool.false_eq_true, false_and]

/-- Before the first doorbell the ring takes an aligned base and a size that fit. -/
theorem exec_stwRspRingWrite {s : State} {w : Word} (core : CoreId) (hrang : s.stw.rang = false) (halign : w.toNat % 2 ^ 17 % 4 = 0)
    (hsize : 0x800 ≤ w.toNat / 2 ^ 17) (hfit : w.toNat % 2 ^ 17 + 4 * (w.toNat / 2 ^ 17) ≤ 0x20000) :
    exec (.stwRspRingWrite core w) s
      = .next (s.modStw fun q => { q with ringBase := w.toNat % 2 ^ 17, ringSizeW := w.toNat / 2 ^ 17 }) := by
  have hbase : w.toNat % 2 ^ 17 / 4 * 4 = w.toNat % 2 ^ 17 := Nat.div_mul_cancel (Nat.dvd_of_mod_eq_zero halign)
  change execStwRspRingWrite core w s = _
  simp only [execStwRspRingWrite, hbase, Nat.max_eq_right hsize, hrang, Nat.not_lt.2 hfit, Bool.false_eq_true, or_self, if_false]

/-- The queue's head goes to the ring where it lies in one piece. -/
theorem exec_stwRingDeliver {s : State} {f : Frame} {rest : List Frame} (hqueue : s.stw.queue = f :: rest) (hpower : s.powered dSteward = true)
    (hspace : (ringFrame f).length ≤ s.ringSpace) (hfit : s.stw.ringWr + (ringFrame f).length ≤ 4 * s.stw.ringSizeW) :
    exec .stwRingDeliver s = .next (((s.modCores fun c =>
        { c with tcmSteward := mwrite 0 c.tcmSteward (s.stw.ringBase + s.stw.ringWr) (ringFrame f), irqSteward := c.irqSteward ||| 1 }).modStw
      fun q => { q with queue := rest, ringWr := (s.stw.ringWr + (ringFrame f).length) % (4 * s.stw.ringSizeW) }).refillSteward) := by
  change execStwRingDeliver s = _
  simp only [execStwRingDeliver, hqueue, hfit, if_true, hpower, Nat.not_lt.2 hspace, Bool.not_true, Bool.false_eq_true, or_self, if_false]

/-! ## EXT commands -/

theorem exec_extCommand {op : Nat} {r : Req} {o : Outstanding} {s u : State} (hext : isExt op = true) (hruns : Runs op r o s u) :
    exec (.extCommand op r) s = .next (u.forwardExt o) := by
  change execExtCommand op r s = _
  rw [execExtCommand, if_pos hext, command_runs hruns]

/-- A forwarded frame comes after every frame that waits. -/
theorem queueSteward_frames (f : Frame) (s : State) :
    (s.queueSteward f).stw.queue ++ (s.queueSteward f).stw.waiting
      = if s.stw.waiting.isEmpty ∧ s.stwUnreserved < 32 then s.stw.queue ++ [f] ++ s.stw.waiting else s.stw.queue ++ s.stw.waiting ++ [f] := by
  unfold State.queueSteward
  split <;> simp [State.modStw]

theorem queueSteward_forwards (f : Frame) (s : State) : (s.queueSteward f).stw.forwards = s.stw.forwards := by
  unfold State.queueSteward
  split <;> rfl

theorem queueSteward_nextForward (f : Frame) (s : State) : (s.queueSteward f).stw.nextForward = s.stw.nextForward := by
  unfold State.queueSteward
  split <;> rfl

/-- Nothing but the Steward port takes part in queueing. -/
theorem queueSteward_rest (f : Frame) (s : State) : s.queueSteward f = { s with stw := (s.queueSteward f).stw } := by
  unfold State.queueSteward
  split <;> rfl

/-- The forward that a waiting command would get. -/
def State.forwardOf (o : Outstanding) (s : State) : Forward := ⟨s.stw.nextForward % 65536, o.port, o.session, o.tag, o.opcode⟩

/-- An enabled EXT command goes to a running Steward under the next forward number (R130). -/
theorem forwardExt_on {o : Outstanding} {s : State} (hfeature : s.featureOff 6 = false) (hon : s.stewardOn = true) :
    s.forwardExt o = (s.modStw fun q => { q with nextForward := q.nextForward + 1, forwards := q.forwards ++ [s.forwardOf o] }).queueSteward
      ⟨o.opcode, 16, 0, s.stw.nextForward % 65536, o.payload⟩ := by
  simp only [State.forwardExt, hfeature, hon, Bool.not_true, Bool.false_eq_true, if_false, State.forwardOf]

/-- Settles O17: the doorbell, the ring and the EXT commands by their cases. -/
theorem stewardPortAndExt : Obligations.StewardPortAndExt := by
  unfold Obligations.StewardPortAndExt
  refine ⟨fun s v hon hv => ⟨fun halign => ?_, fun halign hfull => ?_, fun halign hroom hrange => ?_,
      fun halign hroom hrange hcrc hflag => exec_stwDoorbell_receives hon hv halign hroom hrange hcrc hflag,
      fun core w hrang halign hsize hfit => exec_stwRspRingWrite core hrang halign hsize hfit, fun core w hrang => ?_,
      fun f rest hqueue hpower hspace hfit => exec_stwRingDeliver hqueue hpower hspace hfit⟩,
    fun op r o s u hext hruns => ⟨fun hfeature hon => ?_, fun hoff => ?_, fun hfeature hoff => ?_⟩,
    fun op number status payload f o s hforward hfound => ⟨fun htime => ?_, fun hlate => ?_⟩⟩
  · simp only [exec_stwDoorbell hon hv, ne_eq, halign, not_false_eq_true, if_true]
  · simp only [exec_stwDoorbell hon hv, ne_eq, halign, not_true, if_false, hfull, if_true]
  · simp only [exec_stwDoorbell hon hv, ne_eq, halign, not_true, if_false, Nat.not_le.2 hroom, hrange, if_true]
  · refine ⟨_, rfl, ?_⟩
    simp only [hrang, true_or, if_true, State.logRefusedWrite, event_stw]
  · obtain rfl := hruns.opcode
    refine ⟨_, exec_extCommand hext hruns, ?_, ?_, ?_, ?_⟩ <;> rw [forwardExt_on hfeature hon]
    · exact queueSteward_forwards _ _
    · exact queueSteward_nextForward _ _
    · exact queueSteward_frames _ _
    · exact queueSteward_rest _ _
  · rw [exec_extCommand hext hruns, State.forwardExt, if_pos hoff]
  · simp only [exec_extCommand hext hruns, State.forwardExt, hfeature, hoff, Bool.not_false, Bool.false_eq_true, if_false, if_true]
  all_goals change execExtAnswer op number status payload s = _
  · simp only [execExtAnswer, State.extAnswered, hforward, hfound, Nat.not_le.2 htime, if_false]
    rfl
  · simp only [execExtAnswer, State.extAnswered, hforward, hfound, hlate, if_true]
    rfl

end Sys2Proof.Machine
end

section
/-! SUPPORT. Bulk transfers, their idle timers and the response timer (BulkTransfersAndTimers). -/

namespace Sys2Proof.Machine

theorem transfer_isFor {p : Port} {n : Nat} {inbound : Bool} {b : Bulk} {s : State} (h : s.transfer p n inbound = some b) :
    b.port = p ∧ b.session = n ∧ b.inbound = inbound := by
  simpa using List.find?_some h

/-! ## Frames of a transfer -/

/-- A frame that its open transfer expects, on MB1. -/
theorem execBulkFrameIn_expected {s : State} {b : Bulk} {f : Bytes} (hslot : s.mb.slot = some f) (hopen : s.transfer .mb0 0 true = some b)
    (htime : s.now < b.deadline) (hform : bulkFormOk .mb0 f = true) (hcrc : crcPasses f = true) (htag : u16 f 0 = b.tag) (hseq : u16 f 2 = b.seq)
    (hkind : byteAt f 6 ≤ 1) (hzero : byteAt f 7 = 0) :
    execBulkFrameIn .mb0 0 s = .next (
      let u := s.modMb fun m => { m with slot := none }
      let data := b.data ++ slice f 8 (u16 f 4)
      if byteAt f 6 = 0 then u.setTransfer { b with data := data, seq := b.seq + 1, deadline := s.now + bulkIdle }
      else
        match s.findOut .mb0 0 b.tag with
        | none => u.closeBulk .mb0 0 true
        | some o =>
          let w : Outstanding := { o with bulk := data, edge := s.now, progress := .accepted,
                                          deadline := s.now + s.timeoutCycles (((cmdInfo o.opcode).map CmdInfo.time).getD 1) }
          let v := ((u.closeBulk .mb0 0 true).setOut w).logAccepted w
          if data.length ≠ b.total then v.malformed w 0 else v) := by
  have hslotted : s.takeSlot .mb0 0 = (some f, s.modMb fun m => { m with slot := none }) := by rw [← hslot]; rfl
  have hfound : (s.modMb fun m => { m with slot := none }).transfer .mb0 0 true = some b := hopen
  have htime' : ¬ b.deadline ≤ (s.modMb fun m => { m with slot := none }).now := Nat.not_le.2 htime
  simp only [execBulkFrameIn, hslotted, hfound, htime', if_false, hform, hcrc, htag, hseq, Nat.not_lt.2 hkind, hzero, Bool.not_true,
    Bool.false_eq_true, ne_eq, not_true, and_false, or_self] <;> rfl

/-- A consumed outbound frame ends a transfer that has no more data; else the next is staged. -/
theorem consumeOut_open {s : State} {p : Port} {n : Nat} {b : Bulk} (hsvc : p ≠ .svc) (hcus : p ≠ .cus)
    (hopen : s.transfer p n false = some b) :
    s.consumeOut p n = if b.data.isEmpty then s.closeBulk p n false else s.setTransfer { b.next with deadline := s.now + bulkIdle } := by
  rw [State.consumeOut, hopen]
  cases p with
  | svc => exact absurd rfl hsvc
  | cus => exact absurd rfl hcus
  | _ => rfl

/-! ## Timers -/

/-- A transfer's idle timer on its terminal edge (R108). -/
theorem exec_bulkIdleExpiry {s : State} {p : Port} {n : Nat} {inbound : Bool} {b : Bulk} (hopen : s.transfer p n inbound = some b) :
    exec (.bulkIdleExpiry p n inbound) s = .next ((s.advanceTo b.deadline).expireBulk b) := by
  change execBulkIdleExpiry p n inbound s = _
  simp only [execBulkIdleExpiry, hopen]

/-- A command that runs on its timer: the timer's terminal edge (R143). -/
theorem exec_responseTimerExpiry {s : State} {p : Port} {n tag : Nat} {o : Outstanding} (hfound : s.findOut p n tag = some o)
    (hruns : o.progress ≠ .awaitsBulk) : exec (.responseTimerExpiry p n tag) s = .next ((s.advanceTo o.deadline).timerEnds o) := by
  change execResponseTimerExpiry p n tag s = _
  simp only [execResponseTimerExpiry, hfound, hruns, if_false]

/-- Settles O18: a frame by its kind, a transfer's end by its direction, a command's timer by where the command stands. -/
theorem bulkTransfersAndTimers : Obligations.BulkTransfersAndTimers := by
  unfold Obligations.BulkTransfersAndTimers
  refine ⟨fun s b => ⟨fun f hslot hopen htime hform hcrc htag hseq hzero => ⟨fun hmore => ?_, fun hlast o i hfound hinfo htotal => ?_⟩,
      fun p n hsvc hcus hopen => ⟨fun hend => ?_, fun hmore => ?_⟩, fun p n o hopen hfound => ?_, fun p n hopen => ?_⟩,
    fun s p n tag o hfound hruns => ⟨fun x hforward hlink => ?_, fun hforward hlink => ?_, fun l hforward hlink hlost => ?_⟩⟩
  · change execBulkFrameIn .mb0 0 s = _
    rw [execBulkFrameIn_expected hslot hopen htime hform hcrc htag hseq (by omega) hzero]
    simp only [hmore, if_true, bulkIdle]
  · change execBulkFrameIn .mb0 0 s = _
    rw [execBulkFrameIn_expected hslot hopen htime hform hcrc htag hseq (by omega) hzero]
    simp only [hlast, Nat.one_ne_zero, if_false, hfound, hinfo, htotal, ne_eq, not_true, Option.map_some, Option.getD_some]
  · change (.next (s.consumeOut p n) : Out) = _
    rw [consumeOut_open hsvc hcus hopen, hend, List.isEmpty_nil, if_pos rfl]
  · change (.next (s.consumeOut p n) : Out) = _
    rw [consumeOut_open hsvc hcus hopen, if_neg (by simpa using hmore), bulkIdle]
  · obtain ⟨rfl, rfl, hin⟩ := transfer_isFor hopen
    have hcommand : ((s.advanceTo b.deadline).closeBulk b.port b.session true).findOut b.port b.session b.tag = some o := hfound
    simp only [exec_bulkIdleExpiry hopen, State.expireBulk, hin, if_true, hcommand, State.expire, cExpired]
  · obtain ⟨rfl, rfl, hin⟩ := transfer_isFor hopen
    simp only [exec_bulkIdleExpiry hopen, State.expireBulk, hin, Bool.false_eq_true, if_false]
  all_goals
    simp only [exec_responseTimerExpiry hfound hruns, State.timerEnds, advanceTo_stw, hforward, hlink]
  · rfl
  · rfl
  · have hdown : (s.advanceTo o.deadline).inSession l = false := hlost
    simp only [hdown, Bool.false_eq_true, if_false]
    rfl

end Sys2Proof.Machine
end

section
/-! SUPPORT. The custody channel: records and their transport (CustodyRecordsAndTransport), the handshake and sessions (CustodySessions). -/

namespace Sys2Proof.Machine

/-! ## Records -/

/-- The state in which a custody record is looked at: it waits no longer. -/
def State.cusTaken (source record : Bytes) (s : State) : State :=
  { s with net := { s.net with keeperIn := s.net.keeperIn.erase (source, record) } }

/-- A protected record of the form of Table 3.8 (R131, R136). -/
theorem exec_custodyRecord_protected {source record : Bytes} {s : State} (hversion : byteAt record 0 = 1) (hlen : be16 record 14 ≤ 1280)
    (hindex : byteAt record 12 < byteAt record 13) (hcount : byteAt record 13 ≤ 16) (hlow : 0x10 ≤ byteAt record 1) (hhigh : byteAt record 1 ≤ 0x12)
    (hlength : record.length = 32 + be16 record 14) :
    exec (.custodyRecord source record) s = .next ((s.cusTaken source record).protectedRecord source (be16 record 2) (byteAt record 1)
      (beVal (slice record 4 8)) (byteAt record 12) (byteAt record 13) (record.take 16) (slice record 16 (be16 record 14))
      (record.drop (16 + be16 record 14))) := by
  have hform : ¬(record.length < 16 ∨ byteAt record 0 ≠ 1 ∨ 1280 < be16 record 14 ∨ record.length ≠ 16 + be16 record 14 + 16
      ∨ byteAt record 13 = 0 ∨ 16 < byteAt record 13 ∨ byteAt record 13 ≤ byteAt record 12) := by omega
  change execCustodyRecord source record s = _
  simp only [execCustodyRecord, hlow, hhigh, and_self, if_true, hform, if_false]
  rfl

/-- A handshake record of the form of Table 3.8 (R131). -/
theorem exec_custodyRecord_handshake {source record : Bytes} {s : State} (hversion : byteAt record 0 = 1) (hbody : (record.drop 16).length ≤ 1280)
    (hlength : record.length = 16 + be16 record 14) (hindex : byteAt record 12 = 0) (hcount : 1 ≤ byteAt record 13) (hcount' : byteAt record 13 ≤ 16)
    (hseq : beVal (slice record 4 8) = 0) (htype : byteAt record 1 < 0x10) :
    exec (.custodyRecord source record) s = .next (
      let v := s.cusTaken source record
      if byteAt record 1 = 0x01 then
        (if be16 record 2 = 0 then (v.handshakeOver (byteAt record 1)).helloFragment source 0 (byteAt record 13) (record.drop 16) else v.cusDrop)
      else if byteAt record 1 = 0x03 then
        (v.handshakeOver (byteAt record 1)).finishFragment source (be16 record 2) 0 (byteAt record 13) (record.drop 16)
      else v.cusDrop) := by
  have hlen : be16 record 14 ≤ 1280 := by
    rw [List.length_drop] at hbody; omega
  have hform : ¬(record.length < 16 ∨ byteAt record 0 ≠ 1 ∨ 1280 < be16 record 14 ∨ record.length ≠ 16 + be16 record 14 + 0
      ∨ byteAt record 13 = 0 ∨ 16 < byteAt record 13 ∨ byteAt record 13 ≤ 0) := by omega
  have hwhole : slice record 16 (be16 record 14) = record.drop 16 := by
    rw [slice, List.take_of_length_le]
    rw [List.length_drop]; omega
  change execCustodyRecord source record s = _
  simp only [execCustodyRecord, Nat.not_le.2 htype, false_and, if_false, hindex, hform, hwhole, hseq, and_true, if_true]
  rfl

/-- A record of an open session whose tag verifies and whose SEQ is fresh (R136, R138). -/
theorem protectedRecord_fresh {source header ct tag text : Bytes} {n type seq index count : Nat} {s : State} (hopen : s.sessionOpen n = true)
    (htag : gcmOpen ((s.slotKey (slotTraffic n)).take 32) ((s.session n).ivIn ++ be 8 seq) header ct tag = some text)
    (htime : s.now < (s.session n).deadline) (hfresh : (s.session n).freshSeq seq = true) :
    s.protectedRecord source n type seq index count header ct tag =
      let w := s.setSession n { ((s.session n).takeSeq seq) with deadline := s.now + s.cusIdle, address := source }
      if type = 0x12 then w.closeSession n else if type = 0x11 then w else w.dataFragment n seq index count text (s.session n).seqHi := by
  simp only [State.protectedRecord, hopen, htag, Nat.not_le.2 htime, hfresh, Bool.not_true, Bool.false_eq_true, if_false]

/-! ## The transport -/

/-- The oldest frame that is to be steered, on its edge (R572). -/
theorem exec_custodySteer {f : NetFrame} {s : State} (h : s.findFrame (fun g => g.stage = .steer) = some f) :
    exec .custodySteer s = .next ((s.advanceTo f.edge).dispatchOrStale f fun s =>
        if !s.inSession 0 then
          (s.dropFrame f 0 dCusLink).modNet fun n => { n with cusLink := satInc 255 n.cusLink }
        else if 8 ≤ s.net.keeperIn.length then
          (s.dropFrame f 0 dCusFull).modNet fun n => { n with cusFull := satInc 255 n.cusFull }
        else
          (s.frameLeaves f).modNet fun n =>
            { n with steered := satInc 65535 n.steered,
                     keeperIn := n.keeperIn ++ [(custodySource f.bytes (f.parse.steer.getD (0, 0)).1 (f.parse.steer.getD (0, 0)).2,
                       slice f.bytes ((f.parse.steer.getD (0, 0)).2 + 8) (be16 f.bytes ((f.parse.steer.getD (0, 0)).2 + 4) - 8))] }) := by
  change execCustodySteer s = _
  simp only [execCustodySteer, h]

theorem dispatchOrStale_inTime {f : NetFrame} {s : State} (h : s.now < f.residence) (body : State → State) :
    s.dispatchOrStale f body = body s := by
  simp only [State.dispatchOrStale, Nat.not_le.2 h, and_false, if_false]

theorem dispatchOrStale_stale {f : NetFrame} {s : State} (hlimit : f.unlimited = false) (h : f.residence ≤ s.now) (body : State → State) :
    s.dispatchOrStale f body = s.dropFrame f f.dir rStale (s.now = f.residence) := by
  simp only [State.dispatchOrStale, h, hlimit, Bool.not_false, and_self, if_true]

/-- An unprotected message that fits one record is sent as one (Table 3.8). -/
theorem custodyRecords_single {key iv body : Bytes} {type session seq fuel : Nat} (htype : type < 0x10) (hbody : body.length ≤ 1280) :
    custodyRecords key iv type session seq 1 (fuel + 1) 0 body
      = [[1] ++ le 1 type ++ be 2 session ++ zeros 8 ++ [0, 1] ++ be 2 body.length ++ body] := by
  simp only [custodyRecords, List.take_of_length_le hbody, Nat.not_le.2 htype, if_false, hbody, if_true]
  rfl

/-- Settles O19: a record by its kind and session, a steered frame by its time and room, a message by its kind. -/
theorem custodyRecordsAndTransport : Obligations.CustodyRecordsAndTransport := by
  unfold Obligations.CustodyRecordsAndTransport
  refine ⟨fun source record s => ⟨fun hshort => ?_, fun hversion hlen hindex hcount hlow hhigh hlength => ?_⟩,
    fun f s => ⟨fun hfound => ⟨fun hlimit hstale => ?_, fun htime hdown => ?_, fun htime hup hfull => ?_, fun ip udp hparse htime hup hroom => ?_⟩,
      fun m rest hout hup htype hbody => ?_, fun m rest hout hbarred => ?_⟩⟩
  · change execCustodyRecord source record s = _
    simp only [execCustodyRecord, hshort, true_or, if_true]
  · rw [exec_custodyRecord_protected hversion hlen hindex hcount hlow hhigh hlength]
    refine ⟨fun hclosed => ?_, fun hopen hfails => ?_, fun text hopen htag htime hfresh => ?_⟩
    · have : (s.cusTaken source record).sessionOpen (be16 record 2) = false := hclosed
      simp only [State.protectedRecord, this, Bool.not_false, if_true]
      rfl
    · have hopen' : (s.cusTaken source record).sessionOpen (be16 record 2) = true := hopen
      have hfails' : gcmOpen (((s.cusTaken source record).slotKey (slotTraffic (be16 record 2))).take 32)
          (((s.cusTaken source record).session (be16 record 2)).ivIn ++ be 8 (beVal (slice record 4 8))) (record.take 16)
          (slice record 16 (be16 record 14)) (record.drop (16 + be16 record 14)) = none := hfails
      simp only [State.protectedRecord, hopen', hfails', Bool.not_true, Bool.false_eq_true, if_false]
      rfl
    · rw [protectedRecord_fresh (s := s.cusTaken source record) hopen htag htime hfresh]
      refine ⟨fun htype => ?_, fun htype => ?_, fun htype => ?_⟩ <;>
        simp only [htype, reduceIte, Nat.reduceEqDiff] <;> rfl
  · simp only [exec_custodySteer hfound, dispatchOrStale_stale hlimit hstale]
  · simp only [exec_custodySteer hfound, dispatchOrStale_inTime htime, hdown, Bool.not_false, if_true]
  · have hfull' : 8 ≤ (s.advanceTo f.edge).net.keeperIn.length := hfull
    simp only [exec_custodySteer hfound, dispatchOrStale_inTime htime, hup, hfull', Bool.not_true, Bool.false_eq_true, if_false, if_true]
  · have hroom' : ¬ 8 ≤ (s.advanceTo f.edge).net.keeperIn.length := Nat.not_le.2 hroom
    simp only [exec_custodySteer hfound, dispatchOrStale_inTime htime, hup, hroom', hparse, Option.getD_some, Bool.not_true,
      Bool.false_eq_true, if_false]
  · have hup' : (s.modCus fun c => { c with out := rest }).inSession 0 = true := hup
    have hone : max 1 (ceilDiv m.body.length 1280) = 1 := Nat.max_eq_left (by unfold ceilDiv; omega)
    change execCustodyRecordTransmit s = _
    simp only [execCustodyRecordTransmit, hout, hup', Nat.not_le.2 htype, hone, custodyRecords_single htype hbody, Bool.not_true,
      Bool.false_eq_true, false_and, or_self, if_false, List.foldl_cons, List.foldl_nil]
    rfl
  · have hbarred' : (!(s.modCus fun c => { c with out := rest }).inSession 0) = true
        ∨ 0x10 ≤ m.type ∧ (!(s.modCus fun c => { c with out := rest }).sessionOpen m.session) = true := by
      simp only [Bool.not_eq_true']
      exact hbarred
    change execCustodyRecordTransmit s = _
    simp only [execCustodyRecordTransmit, hout, hbarred', if_true]

/-! ## The handshake -/

/-- A handshake ends before its deadline only by its records. -/
theorem handshakeOver_inTime {h : Handshake} {s : State} (hshake : s.cus.handshake = some h) (htime : s.now < h.deadline) (type : Nat) :
    s.handshakeOver type = s := by
  simp only [State.handshakeOver, hshake, Nat.not_le.2 htime, if_false]

/-- A C_HELLO that the limits bar, with no attempt under way (R137). -/
theorem helloFragment_busy {source body : Bytes} {count : Nat} {s : State} (hon : s.featureOff 2 = false) (hidle : s.cus.handshake = none)
    (hbusy : s.cusBusy = true) : s.helloFragment source 0 count body = s.cusReject 1 source := by
  simp only [State.helloFragment, hon, hidle, hbusy, Bool.false_eq_true, if_false, if_true]

/-- A C_FINISH in one fragment: it opens the session, or ends the attempt without a reply (R135). -/
theorem finishFragment_single {source body : Bytes} {h : Handshake} {s : State} (hshake : s.cus.handshake = some h) (hanswered : h.answered = true)
    (hparts : h.finishParts = []) (hbody : body.length = 48) :
    s.finishFragment source h.session 0 1 body =
      let h' : Handshake := { h with finishParts := [(0, body)], finishCount := 1 }
      let w := s.modCus fun c => { c with handshake := some h' }
      if body = hmac (s.slotKey slotFinC) h.transcript then w.openSession h' source body else w.endHandshake false := by
  have hjoined : joined (tins [] 0 body) 1 = some body := by simp [joined, tins, tfind]
  simp only [State.finishFragment, hshake, hanswered, hparts, hjoined, hbody, Bool.not_true, Bool.false_eq_true, ne_eq, not_true, or_self,
    if_false]
  rfl

/-! ## Sessions -/

theorem respond_sessions (o : Outstanding) (code : Nat) (payload : Bytes) (s : State) :
    (s.respond o code payload).cus.sessions = s.cus.sessions := by
  by_cases h : o.port = .cus
  · rw [respond_cus h]
    split <;> rfl
  · rw [respond_cus_other h]

theorem closeOne_sessions (p : Port) (n : Nat) (b : Bulk) (s : State) : (s.closeOne p n b).cus.sessions = s.cus.sessions := by
  unfold State.closeOne; dsimp only
  split
  · split
    · exact respond_sessions ..
    · rfl
  · rfl

theorem closeTransfers_sessions (p : Port) (n : Nat) (s : State) : (s.closeTransfers p n).cus.sessions = s.cus.sessions := by
  have hfold (l : List Bulk) (u : State) : (l.foldl (State.closeOne p n) u).cus.sessions = u.cus.sessions := by
    induction l generalizing u with
    | nil => rfl
    | cons b l ih => exact (ih _).trans (closeOne_sessions p n b u)
  exact closeTransfers_eq p n s ▸ hfold _ _

/-- The sessions after one closed. -/
theorem closeSession_sessions {n : Nat} {s : State} (h : s.sessionOpen n = true) : (s.closeSession n).cus.sessions = tdel s.cus.sessions n := by
  rw [State.closeSession, if_pos h, event_cus]
  exact congrArg (tdel · n) (closeTransfers_sessions .cus n s)

theorem endHandshake_cus (keep : Bool) (s : State) : (s.endHandshake keep).cus = { s.cus with handshake := none } := by
  unfold State.endHandshake
  split
  · rename_i h
    rw [← h]
  · dsimp only
    split <;> rfl

/-- Settles O20: the handshake by its records and its deadline; what an open session holds and what a closed one has lost. -/
theorem custodySessions : Obligations.CustodySessions := by
  unfold Obligations.CustodySessions
  refine ⟨fun source record s => ⟨fun hversion hbody hlength hindex hcount hcount' hseq hon => ⟨fun htype hsession hidle hbusy => ?_,
        fun h htype hone hshake htime hanswered hsession hparts hfull => ?_⟩, fun h hshake => ?_, fun n hopen => ?_⟩,
    fun h source finish s hshake => ?_, fun n s hopen => ?_⟩
  · have hidle' : (s.cusTaken source record).cus.handshake = none := hidle
    rw [exec_custodyRecord_handshake hversion hbody hlength hindex hcount hcount' hseq (by omega)]
    simp only [htype, if_true, hsession, State.handshakeOver, hidle']
    rw [helloFragment_busy (s := s.cusTaken source record) hon hidle hbusy]
    rfl
  · rw [exec_custodyRecord_handshake hversion hbody hlength hindex hcount hcount' hseq (by omega)]
    simp only [htype, hone, ← hsession]
    rw [handshakeOver_inTime (s := s.cusTaken source record) hshake htime,
      finishFragment_single (s := s.cusTaken source record) hshake hanswered hparts hfull]
    refine ⟨fun hright => ?_, fun hwrong => ?_⟩
    · have hright' : record.drop 16 = hmac ((s.cusTaken source record).slotKey slotFinC) h.transcript := hright
      simp only [reduceIte, if_pos hright', Nat.reduceEqDiff]
      rfl
    · have hwrong' : record.drop 16 ≠ hmac ((s.cusTaken source record).slotKey slotFinC) h.transcript := hwrong
      simp only [reduceIte, if_neg hwrong', Nat.reduceEqDiff]
      rfl
  · change execHandshakeTimeout s = _
    simp only [execHandshakeTimeout, hshake]
  · change execCusIdleExpiry n s = _
    simp only [execCusIdleExpiry, hopen, if_true]
  · simp only [State.openSession, State.session, event_cus]
    refine ⟨?_, ?_, ?_⟩
    · simp [State.cusSend, State.setSession, endHandshake_cus]
    · simp [State.cusSend, State.setSession, endHandshake_cus, tget_tset]
    · simp [State.cusSend, State.setSession, endHandshake_cus]
  · have hsessions := closeSession_sessions hopen
    have hclose : s.closeSession n = ((((s.closeTransfers .cus n).unsubscribe .cus n).modCus fun c =>
        { c with sessions := tdel c.sessions n, slots := tdel c.slots n }).emptySlot (slotTraffic n)).event 14 n 0x0507 := by
      rw [State.closeSession, if_pos hopen]
    refine ⟨?_, ?_, ?_, ?_, ?_, fun m hm => ?_⟩
    · rw [State.sessionOpen, hsessions, tget_tdel, if_pos rfl]
    · rw [hclose, State.slotValid, State.slot, event_flc]
      simp only [State.emptySlot, State.modFlc_flc, tget_tdel, if_true]
      decide
    · rw [hclose, State.transfer, event_paths]
      exact transfer_closeTransfers .cus n true s
    · rw [hclose, State.transfer, event_paths]
      exact transfer_closeTransfers .cus n false s
    · rw [hclose, event_subs]
      exact unsubscribe_subs _ _ _
    · rw [State.session, hsessions, tget_tdel, if_neg hm, State.session]

end Sys2Proof.Machine
end

section
/-! SUPPORT. The Sillage: its chain and batches and its store (SillageChainAndStore), and its commands (SillageCommands). -/

namespace Sys2Proof.Machine

/-! ## Records and batches -/

theorem keeperJob_log (w : KeeperWork) (s : State) : (s.keeperJob w).log = s.log := by
  unfold State.keeperJob
  split <;> rfl

/-- The seal signature is put in hand where CRYPTO is on and slot 122 holds its key (R707). -/
def State.sealSigns (s : State) : Bool := s.domainOn dCrypto && s.slotValid 122

/-- The Baton of a record of the ring. -/
def State.markOf (seq : Nat) (s : State) : Nat := match s.log.find seq with | some r => baton r.cycle r.slot | none => 0

/-- The open batch as it is sealed (R706). -/
def State.openBatch (s : State) : Batch :=
  { firstSeq := s.log.openFirst, count := s.log.openCount, firstBaton := s.markOf s.log.openFirst, lastBaton := s.markOf (s.log.nextSeq - 1),
    prevChain := s.log.openPrev, chain := s.log.chain, unsigned := !s.sealSigns, signing := s.sealSigns }

/-- A batch with records joins the sealed ones, and the next opens behind it. -/
theorem sealBatch_log {s : State} (h : s.log.openCount ≠ 0) :
    s.sealBatch.log = { s.log with sealed := s.log.sealed ++ [s.openBatch], last := some s.openBatch, openFirst := s.log.nextSeq,
                                   openPrev := s.log.chain } := by
  simp only [State.sealBatch, if_neg h]
  split
  · rw [keeperJob_log]; rfl
  · rfl

/-- The state after a record took its place, before a full batch is sealed (R702, R705). -/
def State.chained (r : Rec) (s : State) : State :=
  s.modLog fun l =>
    { l with ring := l.ring ++ [(l.nextSeq, r)], nextSeq := l.nextSeq + 1,
             chain := sha ((if l.nextSeq = 0 then s.chainStart else l.chain) ++ r.bytes l.nextSeq),
             openSince := if l.openCount = 0 then s.now else l.openSince,
             openPrev := if l.openCount = 0 then (if l.nextSeq = 0 then s.chainStart else l.chain) else l.openPrev,
             subs := l.subs.map (Subscription.take s.now l.nextSeq r) }

/-- A record placed in a ring that has room. -/
theorem placeRec_room {r : Rec} {s : State} (h : s.log.ring.length < 2048) :
    s.placeRec r = if (s.chained r).log.openCount = 120 then (s.chained r).sealBatch else s.chained r := by
  have hroom : s.makeRoom = s := by simp only [State.makeRoom, h, if_true]
  simp only [State.placeRec, hroom]
  rfl

theorem chained_openCount {r : Rec} {s : State} (h : s.log.openFirst ≤ s.log.nextSeq) :
    (s.chained r).log.openCount = s.log.openCount + 1 := by
  change s.log.nextSeq + 1 - s.log.openFirst = s.log.nextSeq - s.log.openFirst + 1
  omega

/-! ## The store -/

theorem putRec_store (r : Rec) (s : State) : (s.putRec r).log.store = s.log.store := by unfold State.putRec; split <;> rfl

theorem event_store (slot src code a0 a1 a2 : Nat) (s : State) : (s.event slot src code a0 a1 a2).log.store = s.log.store := putRec_store _ s

/-- A batch's third failure stops the store (R711). -/
theorem storeFails_stopped (b : Batch) (s : State) :
    (s.storeFails b).log.store.stopped = (s.log.store.stopped || decide (2 ≤ b.failures)) := by
  unfold State.storeFails
  by_cases h : 2 ≤ b.failures
  · simp only [Nat.succ_le_succ h, if_true, event_store, h, decide_true, Bool.or_true]
    rfl
  · have : ¬ 3 ≤ b.failures + 1 := by omega
    simp only [this, if_false, event_store, h, decide_false, Bool.or_false]
    rfl

/-- The store write in progress of a batch of the ring. -/
theorem exec_storeWriteDone {failed : Bool} {first : Nat} {b : Batch} {s : State} (hwriting : s.log.store.writing = some first)
    (hbatch : s.log.sealed.find? (fun x => x.firstSeq = first) = some b) (hcut : s.log.store.cut = false) :
    exec (.storeWriteDone failed) s = .next (
      if s.sectorAllowed s.log.store.nextSector = false then s.storeFails b
      else if failed then (s.tornSector s.log.store.nextSector (s.sectorImage b s.log.store.nextSsn)).storeFails b
      else (((s.writeSector s.log.store.nextSector 4096 (s.sectorImage b s.log.store.nextSsn)).modBatch first fun x =>
        { x with persisted := true, ssn := s.log.store.nextSsn }).modStore fun u => { u with lastSsn := u.nextSsn }).storeStep) := by
  change execStoreWriteDone failed s = _
  simp only [execStoreWriteDone, hwriting, hbatch, hcut, Bool.not_false, Bool.true_and, Bool.or_false, Bool.not_eq_true']

/-- Settles O21: the record's place, the store write by its start and its end, and the ring as bulk data. -/
theorem sillageChainAndStore : Obligations.SillageChainAndStore := by
  unfold Obligations.SillageChainAndStore
  refine ⟨fun r s hroom hopen => ?_, fun b s hdue huse hports => ⟨fun hfree => ?_, fun htaken => ?_⟩,
    fun first b s hwriting hbatch hcut => ⟨fun hbarred => ?_, fun hallowed => ⟨?_, ?_⟩⟩, storeFails_stopped,
    fun r o s u hruns hlen hzero hsource hrest hcount hmost => ?_⟩
  · have hcount := chained_openCount (r := r) hopen
    rw [placeRec_room hroom]
    by_cases hfull : (s.chained r).log.openCount = 120
    · rw [if_pos hfull]
      dsimp only
      rw [sealBatch_log (by omega)]
      refine ⟨rfl, rfl, rfl, fun _ => by omega, fun _ => ⟨rfl, (s.chained r).openBatch, rfl, rfl, hfull, rfl, ?_⟩⟩
      change (!(s.domainOn dCrypto && s.slotValid 122)) = false ↔ _
      rw [Bool.not_eq_false', Bool.and_eq_true]
    · rw [if_neg hfull]
      exact ⟨rfl, rfl, rfl, fun _ => ⟨rfl, rfl⟩, fun _ => by omega⟩
  · change execStoreWriteStart s = _
    simp only [execStoreWriteStart, hdue, huse, hports, hfree, Bool.not_true, Bool.false_eq_true, or_self, if_false]
  · change execStoreWriteStart s = _
    simp only [execStoreWriteStart, hdue, htaken, Bool.not_false, or_true, if_true]
  · rw [exec_storeWriteDone hwriting hbatch hcut, if_pos hbarred]
  · rw [exec_storeWriteDone hwriting hbatch hcut, if_neg (by simp [hallowed]), if_pos rfl]
  · rw [exec_storeWriteDone hwriting hbatch hcut, if_neg (by simp [hallowed]), if_neg Bool.false_ne_true]
    rfl
  · have hform : firstDetail [(decide (u32 o.payload 0 ≠ 0), 0), (decide (1 < byteAt o.payload 8), 8), (decide (byteAt o.payload 9 ≠ 0), 9),
        (decide (u16 o.payload 10 = 0 ∨ 64 < u16 o.payload 10), 10)] = none := by
      simp only [firstDetail, hzero, hsource, hrest, decide_eq_true_eq]
      simp
      omega
    change execLogExport r s = _
    simp only [execLogExport, command_runs hruns]
    rw [formed_pass hlen hform, if_pos hsource]

/-! ## Commands -/

/-- The SEQ of the ring's oldest record, or the next SEQ. -/
def State.oldestSeq (s : State) : Nat := match s.log.ring with | [] => s.log.nextSeq | x :: _ => x.1

theorem exec_logRead {r : Req} {o : Outstanding} {s u : State} (hruns : Runs 0xA000 r o s u) (hfits : o.fits 8 [(6, 2)])
    (hsome : 0 < u16 o.payload 4) (hmost : u16 o.payload 4 ≤ 120) :
    exec (.logRead r) s = .next (
      let recs := (u.log.ring.filter fun x => max (u32 o.payload 0) u.oldestSeq ≤ x.1).take (u16 o.payload 4)
      u.done o (le 4 u.log.nextSeq ++ le 4 u.oldestSeq ++ le 4 u.log.bootCount ++ le 2 recs.length ++ zeros 2
        ++ recs.flatMap fun x => x.2.bytes x.1)) := by
  change execLogRead r s = _
  simp only [execLogRead, command_runs hruns]
  rw [formedBy_fits hfits (by simp; omega)]
  rfl

/-- LOG.SEAL on its owner's turn: the batch that it seals, or that was sealed last. -/
theorem exec_logSeal {r : Req} {o : Outstanding} {s u : State} (hruns : Runs 0xA002 r o s u) (hfits : o.fits 0 []) :
    exec (.logSeal r) s = .next (u.sealBatch.log.last.elim (u.sealBatch.done o (zeros 192)) fun b =>
      if b.signing then u.sealBatch.modLog fun l => { l with waiters := l.waiters ++ [(o.port, o.session, o.tag, b.firstSeq)] }
      else u.sealBatch.done o (u.sealBatch.sealBlock b)) := by
  change execLogSeal r s = _
  simp only [execLogSeal, command_runs hruns, wellFormed_fits hfits]
  cases u.sealBatch.log.last <;> rfl

/-- LOG.SUBSCRIBE of listed values (R713). -/
theorem exec_logSubscribe {r : Req} {o : Outstanding} {s u : State} (hruns : Runs 0xA004 r o s u) (hfits : o.fits 4 [])
    (hmask : u16 o.payload 0 < 2 ^ 14) (hsev : byteAt o.payload 2 ≤ 3) (hzero : byteAt o.payload 3 = 0) :
    exec (.logSubscribe r) s = .next (
      let v := u.unsubscribe o.port o.session
      if u16 o.payload 0 = 0 then v.done o (zeros 4)
      else (v.modLog fun l =>
        { l with subs := l.subs ++ [{ port := o.port, session := o.session, tag := o.tag, number := u.log.nextSub, mask := u16 o.payload 0,
                                      minSev := byteAt o.payload 2, since := o.edge }],
                 nextSub := l.nextSub + 1 }).done o (le 4 u.log.nextSub)) := by
  change execLogSubscribe r s = _
  simp only [execLogSubscribe, command_runs hruns, wellFormed_fits hfits, Nat.not_le.2 hmask, Nat.not_lt.2 hsev, hzero, ne_eq, not_true,
    if_false]
  rfl

/-- LOG.CLEAR_ALERT of a latched kind of code (R721). -/
theorem exec_logClearAlert {r : Req} {o : Outstanding} {s u : State} (hruns : Runs 0xA005 r o s u) (hfits : o.fits 4 [(1, 3)])
    (hlow : 2 ≤ alertCodeList.idxOf (byteAt o.payload 0)) (hhigh : alertCodeList.idxOf (byteAt o.payload 0) ≤ 5) :
    exec (.logClearAlert r) s = .next (u.checks o [(!bit u.log.latched (alertCodeList.idxOf (byteAt o.payload 0)), 0x0001)] fun s =>
      let s := s.modLog fun l => { l with latched := l.latched - 2 ^ alertCodeList.idxOf (byteAt o.payload 0) }
      (s.event 2 0 0x0D05 (byteAt o.payload 0)).done o (le 4 s.logAlert)) := by
  change execLogClearAlert r s = _
  simp only [execLogClearAlert, command_runs hruns, wellFormed_fits hfits, State.checks, firstDetail, hlow, hhigh, decide_true, Bool.true_and,
    Bool.not_true, Bool.and_false, Bool.false_or, Bool.false_eq_true, if_false]

/-- The due records of a subscription whose last delivery is gone (R714). -/
theorem exec_subscriptionDelivery {p : Port} {n : Nat} {x : Subscription} {s : State}
    (hsub : s.log.subs.find? (fun y => y.port = p ∧ y.session = n) = some x) (hdue : x.due ≠ []) (hfree : s.deliveryWaits x = false) :
    exec (.subscriptionDelivery p n) s = .next ((s.modLog fun l =>
      { l with subs := l.subs.map fun y => if y.number = x.number then { y with due := [], skipped := 0 } else y }).notice p n
        { opcode := 0xA004, flags := 3, status := cOk, tag := x.tag,
          payload := le 4 x.number ++ le 1 x.due.length ++ le 1 x.skipped ++ zeros 2 ++ x.due.flatMap fun y => y.2.bytes y.1 }) := by
  have hbusy : ¬(x.due.isEmpty = true ∨ s.deliveryWaits x = true) := by simp [hdue, hfree]
  change execSubscriptionDelivery p n s = _
  simp only [execSubscriptionDelivery, hsub, hbusy, if_false]

/-- Settles O23: each command by its payload's values, a delivery by what is due. -/
theorem sillageCommands : Obligations.SillageCommands := by
  unfold Obligations.SillageCommands
  refine ⟨fun r o s u => ⟨fun hruns hfits hsome hmost => exec_logRead hruns hfits hsome hmost,
      fun hruns hfits => ⟨fun hnone => ?_, fun b hlast hended => ?_, fun b hlast hsigning => ?_⟩, fun hruns hfits => ?_,
      fun hruns hfits hmask hsev hzero => ⟨fun hend => ?_, fun hsome => ?_⟩,
      fun hruns hfits => ⟨fun hlow hhigh hset => ?_, fun hlow hhigh hclear => ?_⟩⟩,
    fun p n x s hsub => ⟨fun hnot => ?_, fun hdue hfree => exec_subscriptionDelivery hsub hdue hfree⟩⟩
  · rw [exec_logSeal hruns hfits, hnone]
    rfl
  · rw [exec_logSeal hruns hfits, hlast, Option.elim_some, if_neg (by simp [hended])]
    rfl
  · rw [exec_logSeal hruns hfits, hlast, Option.elim_some, if_pos hsigning]
  · change execLogGetHead r s = _
    simp only [execLogGetHead, command_runs hruns, wellFormed_fits hfits, State.done]
  · rw [exec_logSubscribe hruns hfits hmask hsev hzero]
    simp only [hend, if_true, State.done]
  · rw [exec_logSubscribe hruns hfits hmask hsev hzero]
    simp only [hsome, if_false, State.done]
  · rw [exec_logClearAlert hruns hfits hlow hhigh]
    simp only [hset, Bool.not_true, State.checks, firstDetail, Bool.false_eq_true, if_false]
    rfl
  · rw [exec_logClearAlert hruns hfits hlow hhigh, checks_fail (by rw [hclear]; rfl)]
  · have hbusy : x.due.isEmpty = true ∨ s.deliveryWaits x = true := by simpa using hnot
    change execSubscriptionDelivery p n s = _
    simp only [execSubscriptionDelivery, hsub, hbusy, if_true]

end Sys2Proof.Machine
end

section
/-! SUPPORT. The MACs and the slow path: links and reception (MacLinksAndReception), a frame's way (FrameWay). -/

namespace Sys2Proof.Machine

/-! ## Accesses and objects -/

/-- A command on an object that exists. -/
theorem onObject_pos {p : Bool} (h : p = true) (s : State) : onObject p s = .next s := if_pos h

/-- A core's access to a Relay register while its link is in SESSION. -/
theorem relayAccess_granted {core : CoreId} {s : State} (hsession : s.inSession 0 = true) (hwindow : core = .steward → s.cores.winRly = true)
    (addr : Nat) (body : State → State) : s.relayAccess core addr body = body s := by
  have hgranted : ¬(core = .steward ∧ (!s.cores.winRly) = true) := by
    rintro ⟨hcore, hoff⟩
    rw [hwindow hcore] at hoff
    exact absurd hoff (by decide)
  simp only [State.relayAccess, hgranted, if_false, hsession, Bool.not_true, Bool.false_eq_true]

theorem logReserved_none {v mask : Nat} (h : v < mask) (core : CoreId) (addr : Nat) (s : State) :
    s.logReserved core addr (v / mask * mask) = s := by
  simp only [State.logReserved, Nat.div_eq_of_lt h, Nat.zero_mul, if_true]

/-! ## What the MACs keep -/

@[simp] theorem mac_advanceTo (m t : Nat) (s : State) : (s.advanceTo t).mac m = s.mac m := rfl
@[simp] theorem mac_atTick (m t : Nat) (s : State) : (s.atTick t).mac m = s.mac m := rfl

/-! ## Links and reception -/

/-- A poll of a MAC that is on, on its tick (R537). -/
theorem exec_mdioPoll {m : Nat} {s : State} (hm : m < 2) (hmac : s.macOn m = true) (hnet : s.netOn = true)
    (bmcr bmsr adv partner gctl gstat : BitVec 16) :
    exec (.mdioPoll m bmcr bmsr adv partner gctl gstat) s = .next (
      let u := s.atTick (2 ^ 20)
      if !bmsr.getLsbD 2 then
        if !(s.mac m).up then u
        else
          let v := if (s.mac m).receiving = some true then u.drop m dRxErr (baton u.now (8 + m)) 0 else u
          ((v.modMac m fun k => { k with up := false, training := none, receiving := none }).dropQueued m).event (8 + m) 0 0x0802
      else if (s.mac m).up ∨ (bmcr.getLsbD 12 ∧ !bmsr.getLsbD 5) then u
      else (mdioSpeed bmcr adv partner gctl gstat).elim u fun v =>
        (u.modMac m fun k => { k with up := true, speed := v, training := some (u.now + 4096) }).event (8 + m) 0 0x0801) := by
  change execMdioPoll m bmcr bmsr adv partner gctl gstat s = _
  simp only [execMdioPoll, onObject, hm, decide_true, if_true, hmac, hnet, Bool.not_true, Bool.false_eq_true, or_self, if_false, mac_atTick]
  cases mdioSpeed bmcr adv partner gctl gstat <;> rfl

/-- The last nibble of a frame that is in reception (R540). -/
theorem exec_frameReception {m : Nat} {s : State} (hm : m < 2) (hmac : s.macOn m = true) (hnet : s.netOn = true)
    (hreceiving : (s.mac m).receiving = some true) (f : Bytes) (coding : Bool) :
    exec (.frameReception m f coding) s = .next (s.received m f coding) := by
  change execFrameReception m f coding s = _
  simp only [execFrameReception, onObject, hm, decide_true, if_true, hmac, hnet, hreceiving, Option.isNone_some, Bool.not_true,
    Bool.false_eq_true, or_self, if_false]

/-- A write of RLY.NET_MDIO_CMD without reserved bits (R539). -/
theorem exec_mdioCoreAccess {m d : Nat} {core : CoreId} {v : Word} {s : State} (hm : m < 2) (hmac : s.macOn m = true) (hnet : s.netOn = true)
    (hsession : s.inSession 0 = true) (hwindow : core = .steward → s.cores.winRly = true) (hv : v.toNat < 2 ^ 23) :
    exec (.mdioCoreAccess core m v d) s = .next (s.modMac m fun k =>
      { k with mdioData := if bit v.toNat 22 = true ∧ bit v.toNat 21 = false then d % 65536 else v.toNat % 65536,
               mdioReg := bits v.toNat 20 16, mdioWrite := bit v.toNat 21 }) := by
  have hread : ((bit v.toNat 22 && !bit v.toNat 21 && s.netOn && s.macOn m) = true) = (bit v.toNat 22 = true ∧ bit v.toNat 21 = false) := by
    simp only [hmac, hnet, Bool.and_true, Bool.and_eq_true, Bool.not_eq_true']
  change execMdioCoreAccess core m v d s = _
  simp only [execMdioCoreAccess, onObject, hm, decide_true, if_true, relayAccess_granted hsession hwindow, logReserved_none hv, hread]

/-- Settles O24: a poll, a link's training, an MDIO access, an SFD, a reception by its first fault, a PAUSE's end. -/
theorem macLinksAndReception : Obligations.MacLinksAndReception := by
  unfold Obligations.MacLinksAndReception
  intro m s hm hmac hnet
  refine ⟨fun bmcr bmsr adv partner gctl gstat => ⟨fun v hlink hdown hdone hspeed => ?_, fun hlink hup => ?_, fun hlink hup hquiet => ?_⟩,
    fun t htraining => ?_, fun core v d hsession hwindow hv => exec_mdioCoreAccess hm hmac hnet hsession hwindow hv,
    fun hup => ⟨fun hroom => ?_, fun hfull => ?_⟩,
    fun f coding hreceiving => ⟨fun hfcs => ?_, fun hfcs hshort => ?_, fun hfcs hlong => ?_, fun hfcs hlow hhigh => ⟨fun hbad => ?_,
      fun hgood htrained htype => ?_, fun hgood htrained htype => ?_⟩⟩, fun t hpaused => ?_⟩
  · have husable : ¬((s.mac m).up = true ∨ (bmcr.getLsbD 12 = true ∧ (!bmsr.getLsbD 5) = true)) := by
      rintro (hup | ⟨hneg, hnot⟩)
      · rw [hdown] at hup; exact absurd hup (by decide)
      · rw [hdone hneg] at hnot; exact absurd hnot (by decide)
    simp only [exec_mdioPoll hm hmac hnet, hlink, Bool.not_true, Bool.false_eq_true, if_false, husable, hspeed, Option.elim_some]
  · simp only [exec_mdioPoll hm hmac hnet, hlink, hup, Bool.not_true, Bool.false_eq_true, if_false, true_or, if_true]
  · simp only [exec_mdioPoll hm hmac hnet, hlink, hup, hquiet, Bool.not_false, Bool.not_true, Bool.false_eq_true, if_false, if_true,
      reduceCtorEq]
  · change execLinkTrainingEnd m s = _
    simp only [execLinkTrainingEnd, onObject, hm, decide_true, if_true, htraining]
  · change execFrameSfd m s = _
    simp only [execFrameSfd, onObject, hm, decide_true, hmac, hnet, and_self, if_true, State.sfd, hup, hroom, Bool.not_true,
      Bool.false_eq_true, if_false]
  · change execFrameSfd m s = _
    simp only [execFrameSfd, onObject, hm, decide_true, hmac, hnet, and_self, if_true, State.sfd, hup, hfull, Bool.not_true,
      Bool.false_eq_true, if_false]
  all_goals try rw [exec_frameReception hm hmac hnet hreceiving, State.received]
  · simp only [hfcs, Bool.not_false, if_true]
  · simp only [hfcs, Bool.not_true, Bool.false_eq_true, if_false, hshort, if_true]
  · simp only [hfcs, Bool.not_true, Bool.false_eq_true, if_false, hlong, if_true, show ¬ f.length < 64 by omega]
  · simp only [hfcs, Bool.not_true, Bool.false_eq_true, if_false, Nat.not_lt.2 hlow, Nat.not_lt.2 hhigh, hbad, if_true]
  · simp only [hfcs, Bool.not_true, Bool.false_eq_true, if_false, Nat.not_lt.2 hlow, Nat.not_lt.2 hhigh, hgood, htrained, Option.isSome_none,
      or_self, htype]
  · simp only [hfcs, Bool.not_true, Bool.false_eq_true, if_false, Nat.not_lt.2 hlow, Nat.not_lt.2 hhigh, hgood, htrained, Option.isSome_none,
      or_self, htype, if_true]
  · change execPauseExpiry s = _
    simp only [execPauseExpiry, hpaused]

/-! ## A frame's way -/

theorem frameLeaves_frames (f : NetFrame) (s : State) : (s.frameLeaves f).net.frames = s.net.frames.erase f := by
  unfold State.frameLeaves
  dsimp only
  split
  · split <;> rfl
  · rfl

/-- Beside the frames and the drained edge of the classifier a leaving frame changes nothing. -/
theorem frameLeaves_rest (f : NetFrame) (s : State) :
    s.frameLeaves f = { s with net := { s.net with frames := s.net.frames.erase f, cls := (s.frameLeaves f).net.cls } } := by
  unfold State.frameLeaves
  dsimp only
  split
  · split <;> rfl
  · rfl

theorem frameLeaves_now (f : NetFrame) (s : State) : (s.frameLeaves f).now = s.now := by rw [frameLeaves_rest]; rfl
theorem frameLeaves_mac (m : Nat) (f : NetFrame) (s : State) : (s.frameLeaves f).mac m = s.mac m := by rw [frameLeaves_rest]; rfl

theorem mirrorStart_plain {f : NetFrame} (h : f.mirror = false) (s : State) : s.mirrorStart f = s := by
  simp only [State.mirrorStart, h, Bool.not_false, if_true]

theorem dispatchOrStale_open {f : NetFrame} {s : State} (h : f.unlimited = true ∨ s.now < f.residence) (body : State → State) :
    s.dispatchOrStale f body = body s := by
  rcases h with h | h
  · simp only [State.dispatchOrStale, h, Bool.not_true, Bool.false_eq_true, false_and, if_false]
  · exact dispatchOrStale_inTime h body

/-- The parse end of the oldest frame that is in its parser (R544). -/
theorem exec_parseEnd {m : Nat} {f : NetFrame} {s : State} (hm : m < 2)
    (hfound : s.findFrame (fun g => g.dir = m ∧ g.stage = .parsing) = some f) :
    exec (.parseEnd m) s = .next (
      let u := s.advanceTo f.parseEnd
      if f.parse.reason = 0 then u.replaceFrame f { f with stage := .parsed }
      else if f.injected then u.dropFrame f m dInjLoop
      else if f.parse.reason = rMalformed ∧ pbMalf (s.macBlock m) = 0 then u.dropFrame f m rMalformed
      else u.replaceFrame f { f with stage := .slow, reason := f.parse.reason, rule := 0xFFFFFFFF, edge := f.parseEnd }) := by
  change execParseEnd m s = _
  simp only [execParseEnd, hfound]
  exact onObject_pos (decide_eq_true hm) _

/-- The copy of the frame that waits longest, in time and with the link in SESSION (R557, R558). -/
theorem exec_slowPathDelivery {f : NetFrame} {s : State} (hfound : earliest (s.net.frames.filter fun g => g.stage = .slow) = some f)
    (hsession : s.inSession 0 = true) (htime : (s.advanceTo (f.edge + 1)).now < f.residence) :
    exec .slowPathDelivery s = .next (
      let u := s.advanceTo (f.edge + 1)
      let cell := s.net.spTail % s.spCells
      let base := (s.partition 2).1
      if s.spLimit ≤ (s.net.spTail + 2 ^ 32 - s.net.spHead) % 2 ^ 32 then u.dropFrame f f.dir dSlowFull
      else
        let v := (u.poolWrite (base + 0x2000 + 0x800 * cell) f.bytes).poolWrite (base + 32 * (s.net.spTail % 256))
          (spDescriptor f cell s.net.spTail)
        let v := (v.frameLeaves f).modNet fun n => { n with spTail := (s.net.spTail + 1) % 2 ^ 32 }
        (v.advanceTo (v.now + ceilDiv f.bytes.length 16 + 1)).modCores fun c => { c with irqSteward := c.irqSteward ||| 4 }) := by
  have hsession' : (s.advanceTo (f.edge + 1)).inSession 0 = true := hsession
  change execSlowPathDelivery s = _
  simp only [execSlowPathDelivery, hfound]
  rw [dispatchOrStale_inTime htime]
  simp only [hsession', Bool.not_true, Bool.false_eq_true, if_false]
  rfl

/-- A free transmitter of a running network begins its next frame on its edge (R545). -/
theorem exec_frameTransmit {m : Nat} {f : NetFrame} {s : State} (hm : m < 2)
    (hfound : earliest (s.net.frames.filter fun g => g.stage = .forward ∧ g.txMac = m) = some f) (hpaused : (s.mac m).paused = none)
    (hnet : s.netOn = true) (hidle : (s.net.frames.any fun g => g.stage = .sending ∧ g.txMac = m) = false) :
    exec (.frameTransmit m) s = .next ((s.advanceTo (max f.edge (s.mac m).free)).dispatchOrStale f fun s =>
      let s := s.mirrorStart f
      let sent := { f with stage := .sending, ends := s.now + byteCycles (s.mac m).speed (8 + f.bytes.length), epoch := none }
      let s := (s.frameLeaves f).modNet fun n => { n with frames := n.frames ++ [sent] }
      s.modMac m fun k => { k with free := s.now + byteCycles k.speed (20 + f.bytes.length) }) := by
  change execFrameTransmit m s = _
  simp only [execFrameTransmit, hidle, hpaused, hnet, Option.isSome_none, Bool.not_true, Bool.false_eq_true, or_self, if_false, hfound]
  exact onObject_pos (decide_eq_true hm) _

/-- Settles O25: the parse end, the copy, the HEAD, the transmission and its end, and the residence by their frames. -/
theorem frameWay : Obligations.FrameWay := by
  unfold Obligations.FrameWay
  intro m f s hm
  refine ⟨fun hfound => ⟨fun hgood => ?_, fun hbad hinjected => ?_, fun hbad hown hmalformed hdrops => ?_, fun hbad hown hkept => ?_⟩,
    fun hfound hsession htime => ⟨fun hfull => ?_, fun hroom => ?_⟩, fun core v hsession hwindow => ⟨fun hin => ?_, fun hout => ?_⟩,
    fun hfound hpaused hnet hidle hplain => ⟨fun hopen => ?_, fun hlimit hstale => ?_⟩, fun hfound => ?_, fun hfound => ?_⟩
  · simp only [exec_parseEnd hm hfound, hgood, if_true]
  · simp only [exec_parseEnd hm hfound, hbad, hinjected, if_false, if_true]
  · simp only [exec_parseEnd hm hfound, hbad, hown, Bool.false_eq_true, if_false, hdrops, and_true]
    rw [if_pos hmalformed]
  · have hkept' : ¬(f.parse.reason = rMalformed ∧ pbMalf (s.macBlock m) = 0) := fun ⟨hm, hz⟩ => hkept hm hz
    simp only [exec_parseEnd hm hfound, hbad, hown, Bool.false_eq_true, if_false, hkept']
  · rw [exec_slowPathDelivery hfound hsession htime]
    simp only [hfull, if_true]
  · rw [exec_slowPathDelivery hfound hsession htime]
    simp only [Nat.not_le.2 hroom, if_false]
    refine ⟨_, rfl, ?_, rfl, ?_, ?_, ?_⟩ <;> rw [frameLeaves_rest] <;> rfl
  · change execSpHeadWrite core v s = _
    simp only [execSpHeadWrite, relayAccess_granted hsession hwindow, hin, if_true]
  · change execSpHeadWrite core v s = _
    simp only [execSpHeadWrite, relayAccess_granted hsession hwindow, hout, Bool.false_eq_true, if_false]
  · rw [exec_frameTransmit hm hfound hpaused hnet hidle, dispatchOrStale_open hopen]
    simp only [mirrorStart_plain hplain]
    refine ⟨_, rfl, ?_, ?_, ?_⟩
    · exact frameLeaves_now f _
    · exact congrArg (· ++ _) (frameLeaves_frames f _)
    · rw [mac_modMac_self]
      change (State.frameLeaves f _).now + byteCycles ((State.frameLeaves f _).mac m).speed _ = _
      rw [frameLeaves_now, frameLeaves_mac, mac_advanceTo]
  · rw [exec_frameTransmit hm hfound hpaused hnet hidle, dispatchOrStale_stale hlimit hstale]
  · change ∃ t, execFrameTransmitted m s = .next t ∧ _
    simp only [execFrameTransmitted, hfound]
    refine ⟨_, onObject_pos (decide_eq_true hm) _, rfl, rfl, ?_, ?_⟩ <;> rw [mac_modMac_self] <;> rfl
  · change execResidenceExpiry m s = _
    simp only [execResidenceExpiry, hfound]
    exact onObject_pos (decide_eq_true hm) _

end Sys2Proof.Machine
end

section
/-! SUPPORT. The classifier: classification (ClassificationRules), rules and commits (RuleCommands), counters, the mirror sink and injection
(CountersMirrorInjection). -/

namespace Sys2Proof.Machine

/-! ## Classification -/

/-- The oldest parsed frame of a direction on its classification edge (R567). -/
theorem exec_classification {m : Nat} {f : NetFrame} {s : State} (hm : m < 2)
    (hfound : s.findFrame (fun g => g.dir = m ∧ g.stage = .parsed) = some f) :
    exec (.classification m) s = .next (
      let u := s.advanceTo (f.parseEnd + 3)
      if f.residence ≤ u.now then u.dropFrame f m rStale (u.now = f.residence)
      else if m = 0 ∧ u.cusOn ∧ f.parse.steer.isSome then
        if f.injected then u.dropFrame f m dInjLoop else u.replaceFrame f { f with stage := .steer, edge := u.now }
      else u.meetRules f) := by
  change execClassification m s = _
  simp only [execClassification, hfound]
  exact onObject_pos (decide_eq_true hm) _

/-- The winning entry stands in the table, in its direction's part, and matches (R571). -/
theorem winningRule_spec {cl : Bytes} {t : Table} {d i : Nat} {p : Parsed} {b : Bytes} (h : winningRule cl t d p = some (i, b)) :
    (i, b) ∈ t.rules ∧ clTcamBase cl d ≤ i ∧ i < clTcamBase cl d + clTcam cl d
      ∧ ruleMatches t (clRangeBase cl d) (keyOf p) p.fv b = true :=
  ⟨List.mem_of_find?_eq_some h, by simpa using List.find?_some h⟩

/-- The counters of an entry after an admitted frame (R577). -/
def RuleCount.counted (n : Nat) (c : RuleCount) : RuleCount :=
  { c with frames := satInc 0xFFFFFFFF c.frames, bytes := satAdd (2 ^ 48 - 1) c.bytes n }

/-- A frame that an entry without a meter wins counts there and meets its action. -/
theorem meetRules_unmetered {f : NetFrame} {s : State} {i : Nat} {b : Bytes}
    (hwin : winningRule s.clsBody s.tableNow.1 f.dir f.parse = some (i, b)) (hmeter : ruFlag b 1 = false) :
    s.meetRules f = (s.modCls fun q =>
        { q with counts := tset {} q.counts i ((tget ({} : RuleCount) q.counts i).counted f.bytes.length) }).act f (ruAction b)
      ((i - clTcamBase s.clsBody f.dir) + 4096 * f.dir + 8192 * s.tableNow.2) s.tableNow.2 false := by
  simp only [State.meetRules, hwin, hmeter, Bool.false_eq_true, if_false, if_true, Bool.not_true, Bool.false_and]
  rfl

/-- Settles O26: the classification's edge, the winning entry, its counters and its action. -/
theorem classificationRules : Obligations.ClassificationRules := by
  unfold Obligations.ClassificationRules
  intro m f s hm
  refine ⟨fun hfound => ⟨fun hstale => ?_, fun htime hzero hcus hsteer hown => ?_, fun htime hplain => ?_⟩,
    fun cl t i b hwin => winningRule_spec hwin, fun i b hwin hmeter => meetRules_unmetered hwin hmeter,
    fun rule epoch refused => ⟨rfl, rfl, rfl, rfl, rfl⟩⟩
  · simp only [exec_classification hm hfound, hstale, if_true]
  · rw [exec_classification hm hfound]
    dsimp only
    rw [if_neg (Nat.not_le.2 htime), if_pos ⟨hzero, hcus, hsteer⟩, if_neg (by simp [hown])]
  · simp only [exec_classification hm hfound, Nat.not_le.2 htime, if_false, hplain]

/-! ## Writes of the shadow -/

theorem shadowChecks_free {s : State} (hwaiting : s.net.cls.waiting = none) (hcopying : s.net.cls.copying = none)
    (hheld : s.net.cls.copyHeld = false) : s.shadowChecks = [(false, 0x0014), (false, 0x0015)] := by
  simp only [State.shadowChecks, hwaiting, hcopying, hheld, Option.isSome_none]

theorem committing_unopposed {s : State} (h : s.unopposed [objTable 163840]) : s.committing = false := by
  change (s.winner [objTable 163840]).isSome = false
  rw [h]
  rfl

/-- NET.WRITE_RULE of a well-formed entry without meter or mirror, before the refusals of R581. -/
theorem exec_netWriteRule {r : Req} {o : Outstanding} {s u : State} (hruns : Runs 0x4010 r o s u) (hfits : o.fits 100 [(1, 3)])
    (hclear : byteAt o.payload 0 ≤ 1) (hsession : u.inSession 0 = true) (hform : ruleFault u.clsBody (o.payload.drop 4) = none)
    (hindex : ruIndex (o.payload.drop 4) < clTcam u.clsBody (ruDir (o.payload.drop 4))) (haction : ruAction (o.payload.drop 4) ≠ 3)
    (hmeter : ruFlag (o.payload.drop 4) 1 = false) (hfree : u.unopposed [objTable 163840]) :
    exec (.netWriteRule r) s = .next (u.checks o u.shadowChecks fun s =>
      let b := o.payload.drop 4
      let obj := [objTable (131072 + 4096 * ruDir b + ruIndex b)]
      s.order o obj fun s =>
        let i := clTcamBase u.clsBody (ruDir b) + ruIndex b
        let s := (s.takesEffect o.port o.opcode obj).modCls fun c =>
          { c with shadow := { c.shadow with rules := if ruFlag b 0 then tins c.shadow.rules i b else tdel c.shadow.rules i },
                   clears := if byteAt o.payload 0 = 1 then i :: c.clears.erase i else c.clears }
        s.done o []) := by
  have hcommit := committing_unopposed hfree
  change execNetWriteRule r s = _
  simp only [execNetWriteRule, command_runs hruns]
  rw [formedBy_fits hfits (by simp [hclear]), checks_pass (by simp [firstDetail, hsession]), hform]
  simp only [State.checks, List.cons_append, List.nil_append, firstDetail, Nat.not_le.2 hindex, haction, hmeter, decide_false, Bool.false_and,
    Bool.false_eq_true, if_false, hcommit, State.order, objRule]
  cases firstDetail u.shadowChecks
  · cases u.winner [objTable (131072 + 4096 * ruDir (o.payload.drop 4) + ruIndex (o.payload.drop 4))]
    · simp only [State.committed, hcommit, Bool.false_and, State.writeShadow, State.clearsCounter, Bool.false_eq_true, if_false]
      split <;> rfl
    · rfl
  · rfl

/-- NET.WRITE_RANGE of a well-formed comparator while the shadow may be written. -/
theorem exec_netWriteRange {r : Req} {o : Outstanding} {s u : State} (hruns : Runs 0x4011 r o s u) (hfits : o.fits 8 [])
    (hsession : u.inSession 0 = true) (hform : rangeFault o.payload = none)
    (hindex : rgIndex o.payload < clRange u.clsBody (rgDir o.payload)) (hwaiting : u.net.cls.waiting = none)
    (hcopying : u.net.cls.copying = none) (hheld : u.net.cls.copyHeld = false) (hfree : u.unopposed [objTable 163840])
    (hown : u.unopposed [objTable (147456 + 64 * rgDir o.payload + rgIndex o.payload)]) :
    exec (.netWriteRange r) s = .next (
      let i := clRangeBase u.clsBody (rgDir o.payload) + rgIndex o.payload
      ((u.takesEffect o.port o.opcode [objTable (147456 + 64 * rgDir o.payload + rgIndex o.payload)]).modCls fun c =>
        { c with shadow := { c.shadow with
            ranges := if byteAt o.payload 3 = 1 then tins c.shadow.ranges i o.payload else tdel c.shadow.ranges i } }).done o []) := by
  have hcommit := committing_unopposed hfree
  change execNetWriteRange r s = _
  simp only [execNetWriteRange, command_runs hruns, wellFormed_fits hfits]
  rw [checks_pass (by simp [firstDetail, hsession]), hform]
  simp only [hcommit, shadowChecks_free hwaiting hcopying hheld, Bool.false_eq_true, if_false, Nat.not_le.2 hindex, decide_false]
  rw [checks_pass rfl, objRange, order_unopposed hown]
  simp only [State.committed, hcommit, Bool.false_and, State.writeShadow, Bool.false_eq_true, if_false]

/-! ## Commits -/

/-- NET.COMMIT on its owner's turn, while nothing bars it (R580). -/
theorem exec_netCommit {r : Req} {o : Outstanding} {s u : State} (hruns : Runs 0x4012 r o s u) (hfits : o.fits 0 [])
    (hsession : u.inSession 0 = true) (hwaiting : u.net.cls.waiting = none) (hcopying : u.net.cls.copying = none)
    (hheld : u.net.cls.copyHeld = false) (hfree : u.unopposed [objTable 163840]) :
    exec (.netCommit r) s = .next (
      let v := u.takesEffect o.port o.opcode [objTable 163840]
      if u.oldLive then
        (v.ticketed o cPending []).2.modCls fun c =>
          { c with waiting := some (v.ticketed o cPending []).1, drained := max c.drained ((v.ticketed o cPending []).2.relayEdge - 1) }
      else (v.commitTakes v.relayEdge).done o ((v.commitTakes v.relayEdge).commitResult v.relayEdge)) := by
  change execNetCommit r s = _
  simp only [execNetCommit, command_runs hruns, wellFormed_fits hfits]
  rw [checks_pass (by simp [firstDetail, hsession]), objEpoch, order_unopposed hfree,
    checks_pass (by rw [shadowChecks_free hwaiting hcopying hheld]; rfl)]
  rfl

/-- The classifier after a commit took effect on edge `e`. -/
theorem commitTakes_cls (e : Nat) (s : State) :
    (s.commitTakes e).net.cls =
      { s.net.cls with current := s.net.cls.shadow, older := s.net.cls.current, shadow := s.net.cls.shadow, cur := (s.net.cls.cur + 1) % 4,
                       old := s.net.cls.cur, effect := e, copying := some (e + 512), commits := satInc 65535 s.net.cls.commits, clears := [],
                       waiting := none, counts := s.net.cls.counts.filter fun x => !s.net.cls.clears.contains x.1 } := by
  rw [State.commitTakes, logAt_net]
  rfl

/-- A commit that waits takes effect on the edge after the older table drained (R580). -/
theorem exec_epochDrainCommit {s : State} {k : Nat} (hwaiting : s.net.cls.waiting = some k) (hdrained : s.oldLive = false) :
    exec .epochDrainCommit s = .next (
      let e := s.net.cls.drained + 1
      let t := (s.advanceTo e).commitTakes (max e s.net.cls.effect)
      t.settleTicket k cOk (t.commitResult (max e s.net.cls.effect))) := by
  have hwaiting' : (s.advanceTo (s.net.cls.drained + 1)).net.cls.waiting = some k := hwaiting
  change execEpochDrainCommit s = _
  simp only [execEpochDrainCommit, hwaiting, hdrained, Option.isNone_some, Bool.false_eq_true, or_self, if_false, State.pendingTakes, hwaiting']

/-! ## Ports and limits -/

theorem exec_netGetPort {r : Req} {o : Outstanding} {s u : State} (hruns : Runs 0x4000 r o s u) (hfits : o.fits 4 [(1, 3)])
    (hmac : byteAt o.payload 0 ≤ 1) (hsession : u.inSession 0 = true) :
    exec (.netGetPort r) s = .next (
      let m := byteAt o.payload 0
      let k := u.mac m
      u.done o (le 1 m ++ le 1 (b2n (u.macOn m) + 2 * b2n k.up + 4 * b2n k.paused.isSome + 8 * b2n k.training.isSome) ++ le 1 k.speed
        ++ le 1 (b2n (pbFixed (u.macBlock m))) ++ le 1 k.depth ++ le 1 (pbMalf (u.macBlock m)) ++ le 2 k.window ++ le 4 k.rxOk
        ++ le 4 k.rxErrReg ++ le 4 k.dropReg ++ le 4 k.txOk ++ le 4 k.txErrReg ++ le 4 u.net.spTail ++ le 4 u.net.spHead ++ zeros 4)) := by
  change execNetGetPort r s = _
  simp only [execNetGetPort, command_runs hruns]
  rw [formedBy_fits hfits (by simp [hmac]), checks_pass (by simp [firstDetail, hsession])]

/-- NET.SET_LIMITS of a DEPTH and a WINDOW that Table 15.5 lists (R561, R562). -/
theorem exec_netSetLimits {r : Req} {o : Outstanding} {s u : State} (hruns : Runs 0x4001 r o s u) (hfits : o.fits 4 [])
    (hmac : byteAt o.payload 0 ≤ 1) (hdepth : 1 ≤ byteAt o.payload 1) (hdepth' : byteAt o.payload 1 ≤ 16) (hwindow : 64 ≤ u16 o.payload 2)
    (hwindow' : u16 o.payload 2 ≤ 256) (hstep : u16 o.payload 2 % 8 = 0) :
    exec (.netSetLimits r) s = .next (
      let m := byteAt o.payload 0
      u.checks o [(!u.macOn m, 0x0001), (pbFixed (u.macBlock m), 0x0002), (!u.inSession 0, 0x0004)] fun s =>
        s.order o [objTable (65536 + m)] fun s =>
          ((s.takesEffect o.port o.opcode [objTable (65536 + m)]).modMac m fun k =>
            { k with depthWas := k.depth, windowWas := k.window, limitsAt := s.now + 31, depth := byteAt o.payload 1,
                     window := u16 o.payload 2 }).done o (le 8 (baton (s.now + 31) (8 + m)))) := by
  have hzero : ¬(byteAt o.payload 1 = 0 ∨ 16 < byteAt o.payload 1) := by omega
  have hrange : ¬(u16 o.payload 2 < 64 ∨ 256 < u16 o.payload 2 ∨ u16 o.payload 2 % 8 ≠ 0) := by omega
  change execNetSetLimits r s = _
  simp only [execNetSetLimits, command_runs hruns, wellFormed_fits hfits, Nat.not_lt.2 hmac, hzero, hrange, if_false]
  rfl

/-- Settles O27: the writes by what bars them, the commit by the older table, the port commands by their fields. -/
theorem ruleCommands : Obligations.RuleCommands := by
  unfold Obligations.RuleCommands
  refine ⟨fun r o s u => ⟨fun hruns hfits hclear hsession hform hindex haction hmeter hfree =>
        ⟨fun hwaiting => ?_, fun hwaiting hcopying hheld hown => ?_⟩,
      fun hruns hfits hsession hform hindex hwaiting hcopying hheld hfree hown =>
        exec_netWriteRange hruns hfits hsession hform hindex hwaiting hcopying hheld hfree hown,
      fun hruns hfits hsession hwaiting hcopying hheld hfree => ⟨fun hlive => ?_, fun hdrained => ⟨?_, ?_⟩⟩,
      fun k hwaiting hdrained => exec_epochDrainCommit hwaiting hdrained, fun e hcopying => ?_⟩,
    fun r o s u => ⟨fun hruns hfits hmac hsession => exec_netGetPort hruns hfits hmac hsession,
      fun hruns hfits hmac hdepth hdepth' hwindow hwindow' hstep => ⟨fun hoff => ?_, fun hon hfixed => ?_, fun hon hgraph hsession hown => ?_⟩⟩⟩
  · rw [exec_netWriteRule hruns hfits hclear hsession hform hindex haction hmeter hfree,
      checks_fail (by simp only [State.shadowChecks, hwaiting]; rfl)]
  · rw [exec_netWriteRule hruns hfits hclear hsession hform hindex haction hmeter hfree,
      checks_pass (by rw [shadowChecks_free hwaiting hcopying hheld]; rfl)]
    dsimp only
    rw [order_unopposed hown]
    rfl
  · rw [exec_netCommit hruns hfits hsession hwaiting hcopying hheld hfree]
    simp only [hlive, if_true, State.ticketed, List.append_nil, State.relayEdge, respond_now]
    rfl
  · rw [exec_netCommit hruns hfits hsession hwaiting hcopying hheld hfree]
    simp only [hdrained, Bool.false_eq_true, if_false, State.commitResult, commitTakes_cls]
    rfl
  · rw [commitTakes_cls]
    exact ⟨rfl, rfl, rfl, rfl, rfl, rfl⟩
  · change execClassifierCopyEnd s = _
    simp only [execClassifierCopyEnd, hcopying]
  · rw [exec_netSetLimits hruns hfits hmac hdepth hdepth' hwindow hwindow' hstep]
    dsimp only
    rw [checks_fail (by rw [hoff]; rfl)]
  · rw [exec_netSetLimits hruns hfits hmac hdepth hdepth' hwindow hwindow' hstep]
    dsimp only
    rw [checks_fail (by rw [hon, hfixed]; rfl)]
  · rw [exec_netSetLimits hruns hfits hmac hdepth hdepth' hwindow hwindow' hstep]
    dsimp only
    rw [checks_pass (by rw [hon, hgraph, hsession]; rfl), order_unopposed hown]
    rfl

/-! ## Counters, the mirror sink and injection -/

/-- NET.GET_COUNTERS of counters that the direction has (R577). -/
theorem exec_netGetCounters {r : Req} {o : Outstanding} {s u : State} (hruns : Runs 0x4013 r o s u) (hfits : o.fits 8 [(6, 2)])
    (hdir : byteAt o.payload 0 ≤ 1) (hflags : byteAt o.payload 1 ≤ 1) (hsome : 0 < u16 o.payload 4) (hmost : u16 o.payload 4 ≤ 240)
    (hlast : u16 o.payload 2 + u16 o.payload 4 ≤ clTcam u.clsBody (byteAt o.payload 0)) (hsession : u.inSession 0 = true) :
    exec (.netGetCounters r) s = .next (
      let d := byteAt o.payload 0
      let first := u16 o.payload 2
      let n := u16 o.payload 4
      let base := clTcamBase u.clsBody d + first
      let one (i : Nat) : Bytes :=
        le 4 (tget ({} : RuleCount) u.net.cls.counts (base + i)).frames ++ le 8 (tget ({} : RuleCount) u.net.cls.counts (base + i)).bytes
          ++ le 4 (tget ({} : RuleCount) u.net.cls.counts (base + i)).refused
      if byteAt o.payload 1 = 1 ∧ o.port.rank = 5 then u.respond o cRank []
      else (if byteAt o.payload 1 = 1 then
          u.modCls fun c => { c with counts := c.counts.filter fun x => !(decide (base ≤ x.1) && decide (x.1 < base + n)) }
        else u).done o (le 1 d ++ zeros 1 ++ le 2 first ++ le 2 n ++ zeros 2 ++ le 4 (u.mac d).misses ++ le 4 (u.mac d).clsReg
          ++ (List.range n).flatMap one)) := by
  change execNetGetCounters r s = _
  simp only [execNetGetCounters, command_runs hruns]
  rw [formedBy_fits hfits (by simp; omega), checks_pass (by simp [firstDetail, hsession])]

/-- NET.SET_MIRROR while no copy is in progress (R587, R597). -/
theorem exec_netSetMirror {r : Req} {o : Outstanding} {s u : State} (hruns : Runs 0x4014 r o s u) (hfits : o.fits 4 [(1, 3)])
    (hmode : byteAt o.payload 0 ≤ 2) (hsession : u.inSession 0 = true) (hidle : u.net.mrJobs = []) (hown : u.unopposed [objTable 163841]) :
    exec (.netSetMirror r) s = .next (u.checks o [(decide (byteAt o.payload 0 ≠ 0) && u.featureOff 7, 0x00FE),
        (decide (byteAt o.payload 0 ≠ 0) && decide (byteAt (u.sect 0x04 0) 3 = 0), 0x0016)] fun _ =>
      ((u.takesEffect o.port o.opcode [objTable 163841]).modNet fun n =>
        { n with mrMode := byteAt o.payload 0, mrHead := n.mrTail, mrOff := satAdd 65535 n.mrOff n.mrJobs.length, mrJobs := [] }).done o
        (le 8 (baton (u.now + 31) 8) ++ le 4 u.net.mrTail)) := by
  have hidle' : (u.takesEffect o.port o.opcode [objTable 163841]).net.mrJobs = [] := hidle
  change execNetSetMirror r s = _
  simp only [execNetSetMirror, command_runs hruns]
  rw [formedBy_fits hfits (by simp [hmode])]
  simp only [State.checks, firstDetail, hsession, Bool.not_true, Bool.false_eq_true, if_false, order_unopposed hown, hidle', List.foldl_nil]
  rfl

/-- NET.INJECT of a frame that NET.INJECT takes, on a MAC that is on (R589). -/
theorem exec_netInject {r : Req} {o : Outstanding} {s u : State} (hruns : Runs 0x4015 r o s u) (hmac : byteAt o.payload 0 ≤ 1)
    (hmode : byteAt o.payload 1 ≤ 1) (hshort : 60 ≤ u16 o.payload 2) (hlong : u16 o.payload 2 ≤ 2044)
    (hfits : o.fits (8 + u16 o.payload 2) [(4, 4)]) (hsession : u.inSession 0 = true) (hpower : u.powered dRelayNet = true)
    (hon : u.macOn (byteAt o.payload 0) = true) :
    exec (.netInject r) s = .next (
      let m := byteAt o.payload 0
      let t := u.now + 31
      let bs := withFcs (o.payload.drop 8)
      u.checks o [(!u.roomFor (if byteAt o.payload 1 = 0 then 1 - m else m), 0x0017)] fun s =>
        let s := if byteAt o.payload 1 = 0 then
            let f : NetFrame := { dir := 1 - m, bytes := bs, recv := t, cells := 16, stage := .forward, edge := t, txMac := m }
            if !(s.mac m).up then s.drop m dTxLinkdown (baton t (8 + m)) 0
            else s.modNet fun n => { n with frames := n.frames ++ [f] }
          else
            let f : NetFrame := { dir := m, bytes := bs, recv := t, cells := ceilDiv bs.length 128, stage := .parsing, injected := true,
                                  parse := s.parseFrame m bs }
            (s.modMac m fun k => { k with rxOk := satInc 0xFFFFFFFF k.rxOk }).modNet fun n => { n with frames := n.frames ++ [f] }
        s.done o (le 8 (baton t (8 + m)))) := by
  obtain ⟨hlen, -⟩ := fits_iff.1 hfits
  have hlong' : ¬ o.payload.length < 8 := by omega
  rw [← hlen] at hfits
  change execNetInject r s = _
  simp only [execNetInject, command_runs hruns, hlong', if_false]
  rw [formedBy_fits hfits (by simp; omega)]
  simp only [State.checks, firstDetail, hsession, hpower, hon, Bool.not_true, Bool.false_eq_true, if_false]
  cases hroom : u.roomFor (if byteAt o.payload 1 = 0 then 1 - byteAt o.payload 0 else byteAt o.payload 0)
  · rfl
  · by_cases hzero : byteAt o.payload 1 = 0
    · simp only [hzero, if_true]
      rfl
    · simp only [hzero, if_false]
      rfl

/-- Settles O28: the counters by FLAGS, the mirror by its mode, the copy, the HEAD, and the injection by its mode. -/
theorem countersMirrorInjection : Obligations.CountersMirrorInjection := by
  unfold Obligations.CountersMirrorInjection
  refine ⟨fun r o s u => ⟨fun hruns hfits hdir hsome hmost hlast hsession => ⟨fun hkeep => ?_, fun hclear hrank => ?_, fun hclear hrank => ?_⟩,
      fun hruns hfits hmode hsession hidle hown => ⟨fun hsome hoff => ?_, fun hon hcount => ?_⟩, fun j rest hjobs => ?_,
      fun core v hsession hwindow => ⟨fun hin => ?_, fun hout => ?_⟩⟩,
    fun r o s u hruns hmac hshort hlong hfits hsession hpower hon => ⟨fun hmode hroom hup => ?_, fun hmode hroom => ?_, fun hmode hfull => ?_⟩⟩
  · rw [exec_netGetCounters hruns hfits hdir (by omega) hsome hmost hlast hsession]
    simp only [hkeep, Nat.zero_ne_one, false_and, if_false]
    rfl
  · rw [exec_netGetCounters hruns hfits hdir (by omega) hsome hmost hlast hsession]
    simp only [hclear, hrank, and_false, if_false, if_true]
    rfl
  · rw [exec_netGetCounters hruns hfits hdir (by omega) hsome hmost hlast hsession]
    simp only [hclear, hrank, and_self, if_true]
  · rw [exec_netSetMirror hruns hfits hmode hsession hidle hown, checks_fail (d := 0xFE) (by simp [firstDetail, hsome, hoff])]
  · rw [exec_netSetMirror hruns hfits hmode hsession hidle hown, checks_pass]
    · simp only [State.modNet, takesEffect_net, hidle, List.length_nil, satAdd, Nat.add_zero, Nat.min_eq_right hcount]
      rfl
    · by_cases hzero : byteAt o.payload 0 = 0
      · simp [firstDetail, hzero]
      · obtain ⟨hfeature, hslots⟩ := hon hzero
        simp [firstDetail, hfeature, hslots]
  · change execMirrorCopy s = _
    simp only [execMirrorCopy, hjobs]
    rfl
  · change execMrHeadWrite core v s = _
    simp only [execMrHeadWrite, relayAccess_granted hsession hwindow, hin, if_true]
  · change execMrHeadWrite core v s = _
    simp only [execMrHeadWrite, relayAccess_granted hsession hwindow, hout, Bool.false_eq_true, if_false]
  · rw [exec_netInject hruns hmac (by omega) hshort hlong hfits hsession hpower hon]
    simp only [hmode, if_true, State.checks, firstDetail, hroom, hup, Bool.not_true, Bool.false_eq_true, if_false]
    rfl
  · rw [exec_netInject hruns hmac (by omega) hshort hlong hfits hsession hpower hon]
    simp only [hmode, Nat.one_ne_zero, if_false, State.checks, firstDetail, hroom, Bool.not_true, Bool.false_eq_true]
    rfl
  · rw [exec_netInject hruns hmac hmode hshort hlong hfits hsession hpower hon]
    dsimp only
    rw [checks_fail (by rw [hfull]; rfl)]

end Sys2Proof.Machine
end

section
/-! SUPPORT. Compartments: CMP.OPEN (CompartmentOpen) and the other CMP commands (CompartmentCommands). -/

namespace Sys2Proof.Machine

/-! ## The shared forms of the CMP commands -/

/-- A command on a compartment number that Table 17.1 has. -/
theorem compCommand_fits {o : Outstanding} (hfits : o.fits 4 [(2, 2)]) (hn : u16 o.payload 0 ≤ 1023) (body : Nat → State → State) (s : State) :
    s.compCommand o body = body (u16 o.payload 0) s := by
  rw [State.compCommand, formedBy_fits hfits (by simp [hn])]

/-- A compartment that commands reach. -/
theorem compReach_reachable {n : Nat} {s : State} (h : s.reachable n) (o : Outstanding) (body : State → State) :
    s.compReach o [n] body = body s := by
  obtain ⟨hpresent, hdeclared, hlink, hdrain⟩ := h
  simp only [State.compReach, List.any_cons, List.any_nil, hpresent, hdeclared, hlink, Bool.not_true, Bool.false_eq_true, Bool.or_self,
    or_self, if_false, List.find?_cons, hdrain, List.find?_nil]

theorem compReach_undeclared {s : State} (h : s.bankDeclared 0 = false) (o : Outstanding) (ns : List Nat) (body : State → State) :
    s.compReach o ns body = s.refuse o 0x0001 := by
  simp only [State.compReach, h, Bool.not_false, or_true, if_true]

/-- A command on a single TARGET: its compartment is reached, its order runs, its refusals are asked. -/
theorem targetCommand_single {o : Outstanding} {len : Nat} {fields : List (Bool × Nat)} {lock : List (Nat × Nat)} {s : State}
    (hfits : o.fits len [(1, 1)]) (hfields : ∀ x ∈ fields, x.1 = false) (hone : byteAt o.payload 0 = 0 ∧ u16 o.payload 2 ≤ 1023)
    (hreach : s.reachable (u16 o.payload 2)) (hown : s.unopposed (objComp (u16 o.payload 2) :: lock)) (refusals : State → List (Bool × Nat))
    (each : Nat → State → State) :
    s.targetCommand o len fields lock refusals each
      = s.checks o (refusals s) fun s => (each (u16 o.payload 2) (s.takesEffect o.port o.opcode [objComp (u16 o.payload 2)])).done o [] := by
  obtain ⟨htarget, hindex⟩ := hone
  have hlisted : ∀ x ∈ targetFields o.payload ++ fields, x.1 = false := by
    simp only [List.mem_append]
    rintro x (hx | hx)
    · simp only [targetFields, htarget, List.mem_cons, List.not_mem_nil, or_false] at hx
      rcases hx with rfl | rfl
      · rfl
      · simp [hindex]
    · exact hfields x hx
  have hown' : s.unopposed ([objComp (u16 o.payload 2)] ++ [] ++ lock) := hown
  rw [State.targetCommand, formedBy_fits hfits hlisted]
  simp only [htarget, State.targets, compReach_reachable hreach, List.map_cons, List.map_nil, Nat.zero_ne_one, if_false]
  rw [order_unopposed hown']
  rfl

/-! ## Stages -/

theorem settleStage_none {n : Nat} {s : State} (h : (s.comp n).stage = none) : s.settleStage n = s := by
  simp [State.settleStage, State.stageKind, h]

/-- A stage whose terminal edge lies ahead stands, but for a delay, which opens its window on that edge. -/
theorem settleStage_ahead {n : Nat} {g : OpenStage} {s : State} (h : (s.comp n).stage = some g) (hdue : s.now < g.due) : s.settleStage n = s := by
  simp [State.settleStage, State.stageKind, State.stageDue, h, Nat.not_lt.2 hdue.le, Nat.not_le.2 hdue]

/-! ## CMP.OPEN -/

/-- The refusals of CMP.OPEN on a compartment without a stage, in their order (R617). -/
def State.openChecks (o : Outstanding) (n : Nat) (s : State) : List (Bool × Nat) :=
  [(s.redFlag && decide (o.port ≠ .kpr), 0x0040), ((s.comp n).disabled, 0x0003), ((s.comp n).frozen, 0x0006),
   (decide (s.now < (s.comp n).holdUntil), 0x0007), (decide (s.now < (s.comp n).lockUntil), 0x0008), (decide (s.stageKind n = 2), 0x000C),
   (decide (s.stageKind n = 1), 0x000A), (s.groupBlocks n, 0x0009), ((s.bank (n / 256)).halted, 0x0013)]

/-- CMP.OPEN on a compartment that commands reach, its stage settled (R617). -/
theorem exec_cmpOpen {r : Req} {o : Outstanding} {s u : State} {n : Nat} (hruns : Runs 0x2000 r o s u) (hfits : o.fits 4 [(2, 2)])
    (hnum : u16 o.payload 0 = n) (hn : n ≤ 1023) (hstage : u.settleStage n = u) (hreach : u.reachable n)
    (hown : u.unopposed (objComp n :: o.lockObjs)) :
    exec (.cmpOpen r) s = .next (u.checks o (u.openChecks o n) fun s =>
      if s.stageKind n = 3 then
        if s.stageDue n = s.now then (s.stageEnds n).refuseLate o 0x000D
        else (s.takesEffect o.port o.opcode [objComp n]).confirmOpen o n
      else (s.takesEffect o.port o.opcode [objComp n]).openStages o n) := by
  subst hnum
  change execCmpOpen r s = _
  simp only [execCmpOpen, command_runs hruns, compCommand_fits hfits hn, hstage, compReach_reachable hreach, order_unopposed hown]
  rfl

theorem openPort_iff {o : Outstanding} {s : State} :
    (s.redFlag && decide (o.port ≠ .kpr)) = false ↔ (s.redFlag = true → o.port = .kpr) := by
  simp only [Bool.and_eq_false_imp, decide_eq_false_iff_not, not_not, ne_eq]

/-- What CMP.OPEN starts: the answer DEFERRED with a ticket, and the stage or the pulse (R617). -/
theorem openStages_eq (o : Outstanding) (n : Nat) (s : State) :
    s.openStages o n =
      let c := s.comp n
      let k := s.paths.nextTicket
      let kind := if s.compDual n then 1 else if c.delayS ≠ 0 then 2 else 0
      let v := (s.newTicket o).2.respond o cDeferred (le 4 k ++ le 1 kind ++ zeros 3)
      let g : OpenStage := { kind := 1, ticket := k, port := o.port, session := o.session, cause := o.baton,
                             due := s.now + c.dualS * 600000000, delayS := c.delayS, windowS := c.windowS }
      if kind = 1 then v.modComp n fun c => { c with stage := some g } else v.afterDual n s.now g := by
  have hnow (payload : Bytes) : ((s.newTicket o).2.respond o cDeferred payload).now = s.now := respond_now o cDeferred payload _
  simp only [State.openStages, hnow]
  rfl

/-! ## The Bank's side of an OPEN -/

theorem compLog_comps (n t code a0 a1 cause : Nat) (late : Bool) (s : State) : (s.compLog n t code a0 a1 cause late).comps = s.comps := by
  unfold State.compLog State.bankLog
  dsimp only
  split
  · exact putRec_comps _ _
  · rfl

theorem reportState_comp_other {n m : Nat} (h : m ≠ n) (s : State) : (s.reportState n).comp m = s.comp m := by
  unfold State.reportState
  split
  · exact comp_modComp_other h _ _
  · rfl

/-- A report changes no more than the state last reported. -/
theorem reportState_comp_self (n : Nat) (s : State) : ∃ k, (s.reportState n).comp n = { s.comp n with last := k } := by
  unfold State.reportState
  split
  · exact ⟨_, comp_modComp_self _ _ _⟩
  · exact ⟨_, rfl⟩

/-- A compartment that enters a state on edge `t`, its timers set by its profile. -/
def Comp.entered (relock ajar : Nat) (st fault t : Nat) (c : Comp) : Comp :=
  { c with state := st, cause := fault, relock := if st = stUnlocked then some (t + relock) else none,
           ajar := if st = stOpen ∧ ajar ≠ 0 then some (t + ajar) else none, verify := none }

/-- A compartment's change of state, with its log record and its report where its code changed. -/
theorem setComp_eq (n st fault t cause : Nat) (s : State) :
    s.setComp n st fault t cause =
      let v := s.modComp n (Comp.entered (pfRelock (s.compProfile n)) (pfAjar (s.compProfile n)) st fault t)
      if (v.comp n).code = (s.comp n).code then v
      else (v.compLog n t 0x0A01 (s.comp n).code (v.comp n).code cause).reportState n := rfl

theorem setComp_comp_other {n m : Nat} (h : m ≠ n) (st fault t cause : Nat) (s : State) :
    (s.setComp n st fault t cause).comp m = s.comp m := by
  rw [setComp_eq]
  dsimp only
  generalize Comp.entered _ _ st fault t = f
  by_cases hcode : ((s.modComp n f).comp n).code = (s.comp n).code
  · rw [if_pos hcode, comp_modComp_other h]
  · rw [if_neg hcode, reportState_comp_other h, State.comp, compLog_comps]
    exact comp_modComp_other h f s

/-- A compartment that changes its state keeps its request. -/
theorem setComp_comp_self (n st fault t cause : Nat) (s : State) :
    ((s.setComp n st fault t cause).comp n).state = st ∧ ((s.setComp n st fault t cause).comp n).req = (s.comp n).req := by
  rw [setComp_eq]
  dsimp only
  by_cases hcode : ((s.modComp n (Comp.entered (pfRelock (s.compProfile n)) (pfAjar (s.compProfile n)) st fault t)).comp n).code = (s.comp n).code
  · rw [if_pos hcode, comp_modComp_self]
    exact ⟨rfl, rfl⟩
  · rw [if_neg hcode]
    have hlog := compLog_comps n t 0x0A01 (s.comp n).code
      ((s.modComp n (Comp.entered (pfRelock (s.compProfile n)) (pfAjar (s.compProfile n)) st fault t)).comp n).code cause false
      (s.modComp n (Comp.entered (pfRelock (s.compProfile n)) (pfAjar (s.compProfile n)) st fault t))
    obtain ⟨k, hk⟩ := reportState_comp_self n _
    rw [hk, State.comp, hlog]
    change (State.comp n (State.modComp n _ s)).state = st ∧ (State.comp n (State.modComp n _ s)).req = _
    rw [comp_modComp_self]
    exact ⟨rfl, rfl⟩

/-- A request issued where none stands. -/
theorem issueReq_comp_self {n : Nat} {s : State} (h : (s.comp n).req = none) (unlock : Bool) (t cause : Nat) :
    (s.issueReq n unlock t cause).comp n = { s.comp n with req := some { unlock := unlock, cause := cause, applied := t } } := by
  rw [State.issueReq, comp_modComp_self, h]

/-- An OPEN applied to a LOCKED compartment without a request (Table 17.6). -/
theorem applyOpen_locked {n : Nat} {s : State} (hcode : (s.comp n).code = 0) (ticket : Option Nat) (t cause : Nat) :
    s.applyOpen n ticket t cause
      = ((s.setComp n stUnlockPending 0 t cause).issueReq n true t cause).modComp n fun c => { c with openTicket := ticket } := by
  simp only [State.applyOpen, hcode]

/-- Settles O31: the bars in their order, then the stage that begins or the confirmation; and the request of an OPEN applied. -/
theorem compartmentOpen : Obligations.CompartmentOpen := by
  unfold Obligations.CompartmentOpen
  refine ⟨fun r o s u hruns hfits => ?_, fun n ticket t cause s hcode hreq => ?_⟩
  · dsimp only
    generalize hnum : u16 o.payload 0 = n
    intro hn hreach hown
    refine ⟨fun hstage => ?_, fun g hstage hkind hdue hflag hdisabled hfrozen hhold hlock hgroup hhalted => ?_⟩
    · have hkind : u.stageKind n = 0 := by simp only [State.stageKind, hstage]
      rw [exec_cmpOpen hruns hfits hnum hn (settleStage_none hstage) hreach hown]
      refine ⟨fun hflag hport => ?_, fun hport => ⟨fun hdisabled => ?_, fun hdisabled hfrozen => ?_, fun hdisabled hfrozen hhold => ?_,
        fun hdisabled hfrozen hhold hlock => ?_, fun hdisabled hfrozen hhold hlock hgroup => ?_,
        fun hdisabled hfrozen hhold hlock hgroup hhalted => ?_⟩⟩
      · rw [checks_fail (by rw [State.openChecks, hflag, decide_eq_true hport]; rfl)]
      all_goals rw [← openPort_iff] at hport
      · rw [checks_fail (by rw [State.openChecks, hport, hdisabled]; rfl)]
      · rw [checks_fail (by rw [State.openChecks, hport, hdisabled, hfrozen]; rfl)]
      · rw [checks_fail (by rw [State.openChecks, hport, hdisabled, hfrozen, decide_eq_true hhold]; rfl)]
      · rw [checks_fail (by rw [State.openChecks, hport, hdisabled, hfrozen, decide_eq_false (Nat.not_lt.2 hhold), decide_eq_true hlock]; rfl)]
      · rw [checks_fail (by rw [State.openChecks, hport, hdisabled, hfrozen, decide_eq_false (Nat.not_lt.2 hhold),
          decide_eq_false (Nat.not_lt.2 hlock), hkind, hgroup]; rfl)]
      · rw [checks_pass (by rw [State.openChecks, hport, hdisabled, hfrozen, decide_eq_false (Nat.not_lt.2 hhold),
          decide_eq_false (Nat.not_lt.2 hlock), hkind, hgroup, hhalted]; rfl), if_neg (by omega), openStages_eq]
        refine ⟨fun hdual => ?_, fun hsingle hdelay => ?_, fun hsingle hdirect => ?_⟩
        · have hdual' : (u.takesEffect o.port o.opcode [objComp n]).compDual n = true := hdual
          simp only [hdual', if_true]
          rfl
        · have hsingle' : (u.takesEffect o.port o.opcode [objComp n]).compDual n = false := hsingle
          have hdelay' : ((u.takesEffect o.port o.opcode [objComp n]).comp n).delayS ≠ 0 := hdelay
          simp only [hsingle', Bool.false_eq_true, if_false, hdelay', ne_eq, not_false_eq_true, if_true, State.afterDual, Nat.reduceEqDiff]
          rfl
        · have hsingle' : (u.takesEffect o.port o.opcode [objComp n]).compDual n = false := hsingle
          have hdirect' : ((u.takesEffect o.port o.opcode [objComp n]).comp n).delayS = 0 := hdirect
          simp only [hsingle', Bool.false_eq_true, if_false, hdirect', ne_eq, not_true, State.afterDual, Nat.zero_ne_one]
          rfl
    · have hkind' : u.stageKind n = 3 := by simp only [State.stageKind, hstage, hkind]
      have hdue' : u.stageDue n ≠ u.now := by
        simp only [State.stageDue, hstage]
        omega
      rw [exec_cmpOpen hruns hfits hnum hn (settleStage_ahead hstage hdue) hreach hown,
        checks_pass (by rw [State.openChecks, hflag, hdisabled, hfrozen, decide_eq_false (Nat.not_lt.2 hhold),
          decide_eq_false (Nat.not_lt.2 hlock), hkind', hgroup, hhalted]; rfl), if_pos hkind', if_neg hdue']
  · rw [applyOpen_locked hcode]
    have hself := setComp_comp_self n stUnlockPending 0 t cause s
    refine ⟨?_, ?_, ?_, fun m hm => ?_⟩
    · rw [comp_modComp_self, issueReq_comp_self (hself.2.trans hreq)]
      exact hself.1
    · rw [comp_modComp_self, issueReq_comp_self (hself.2.trans hreq)]
    · rw [comp_modComp_self]
    · rw [comp_modComp_other hm, State.issueReq, comp_modComp_other hm, setComp_comp_other hm]

/-! ## The other commands -/

/-- CMP.RELOCK on a compartment that nothing bars (R614). -/
theorem exec_cmpRelock {r : Req} {o : Outstanding} {s u : State} {n : Nat} (hruns : Runs 0x2001 r o s u) (hfits : o.fits 4 [(2, 2)])
    (hnum : u16 o.payload 0 = n) (hn : n ≤ 1023) (hreach : u.reachable n) (hown : u.unopposed [objComp n])
    (hdisabled : (u.comp n).disabled = false) (hhalted : (u.bank (n / 256)).halted = false) :
    exec (.cmpRelock r) s = .next ((((u.takesEffect o.port o.opcode [objComp n]).newTicket o).2.respond o cDeferred
      (le 4 u.paths.nextTicket)).applyRelock n (some u.paths.nextTicket) (u.now + 33) o.baton) := by
  subst hnum
  have hedge (v : State) (payload : Bytes) : (v.respond o cDeferred payload).bankEdge = v.now + 33 := by
    rw [State.bankEdge, respond_now]
  change execCmpRelock r s = _
  simp only [execCmpRelock, command_runs hruns, compCommand_fits hfits hn, compReach_reachable hreach, order_unopposed hown]
  rw [checks_pass (by rw [hdisabled, hhalted]; rfl)]
  simp only [State.ticketed, List.append_nil, hedge]
  rfl

/-- CMP.HOLD on one compartment (R618, R620). -/
theorem exec_cmpHold {r : Req} {o : Outstanding} {s u : State} (hruns : Runs 0x2002 r o s u) (hfits : o.fits 8 [(1, 1)])
    (hone : byteAt o.payload 0 = 0 ∧ u16 o.payload 2 ≤ 1023) (hsome : 1 ≤ u32 o.payload 4) (hmost : u32 o.payload 4 ≤ 86400)
    (hreach : u.reachable (u16 o.payload 2)) (hown : u.unopposed [objComp (u16 o.payload 2)]) :
    exec (.cmpHold r) s = .next (
      let m := u16 o.payload 2
      ((((u.takesEffect o.port o.opcode [objComp m]).modComp m fun c =>
        { c with holdUntil := max c.holdUntil (u.now + u32 o.payload 4 * 600000000) }).endStage m cState (refusedResult 0x17)).cancelUnlock m
          (u.now + 33) o.baton cState (refusedResult 0x17)).done o []) := by
  change execCmpHold r s = _
  simp only [execCmpHold, command_runs hruns]
  rw [targetCommand_single hfits (by simp; omega) hone hreach hown, checks_pass rfl]
  rfl

/-- CMP.FREEZE on one compartment (R620). -/
theorem exec_cmpFreeze {r : Req} {o : Outstanding} {s u : State} (hruns : Runs 0x2003 r o s u) (hfits : o.fits 4 [(1, 1)])
    (hone : byteAt o.payload 0 = 0 ∧ u16 o.payload 2 ≤ 1023) (hreach : u.reachable (u16 o.payload 2))
    (hown : u.unopposed [objComp (u16 o.payload 2)]) :
    exec (.cmpFreeze r) s = .next (
      let m := u16 o.payload 2
      (((((u.takesEffect o.port o.opcode [objComp m]).endStage m cState (refusedResult 0x17)).cancelUnlock m (u.now + 33) o.baton cState
        (refusedResult 0x17)).relockIfOpenable m (u.now + 33) o.baton).setFreeze m (u.now + 33) o.baton true).done o []) := by
  change execCmpFreeze r s = _
  simp only [execCmpFreeze, command_runs hruns]
  rw [targetCommand_single hfits (by simp) hone hreach hown, checks_pass rfl]
  rfl

/-- CMP.UNFREEZE on one compartment (R609). -/
theorem exec_cmpUnfreeze {r : Req} {o : Outstanding} {s u : State} (hruns : Runs 0x2004 r o s u) (hfits : o.fits 4 [(1, 1)])
    (hone : byteAt o.payload 0 = 0 ∧ u16 o.payload 2 ≤ 1023) (hreach : u.reachable (u16 o.payload 2))
    (hown : u.unopposed (objComp (u16 o.payload 2) :: o.lockObjs)) :
    exec (.cmpUnfreeze r) s = .next (u.checks o [(u.redFlag && decide (o.port ≠ .kpr), 0x0040)] fun s =>
      ((s.takesEffect o.port o.opcode [objComp (u16 o.payload 2)]).setFreeze (u16 o.payload 2) (s.now + 33) o.baton false).done o []) := by
  change execCmpUnfreeze r s = _
  simp only [execCmpUnfreeze, command_runs hruns]
  rw [targetCommand_single hfits (by simp) hone hreach hown]
  rfl

/-- CMP.CREDENTIAL on a compartment whose DUAL stage lasts (R617, R622). -/
theorem exec_cmpCredential {r : Req} {o : Outstanding} {s u : State} {g : OpenStage} {n : Nat} (hruns : Runs 0x2005 r o s u)
    (hfits : o.fits 4 [(2, 2)]) (hnum : u16 o.payload 0 = n) (hn : n ≤ 1023) (hpresent : u.compPresent n = true)
    (hdeclared : u.bankDeclared 0 = true) (hown : u.unopposed (objComp n :: o.lockObjs)) (hport : u.redFlag = true → o.port = .kpr)
    (hstage : (u.comp n).stage = some g) (hkind : g.kind = 1) (hdue : u.now < g.due) :
    exec (.cmpCredential r) s = .next (
      if g.port = o.port ∧ (g.port ≠ .cus ∨ g.session = o.session) then u.refuse o 0x0011
      else ((u.takesEffect o.port o.opcode [objComp n]).afterDual n u.now g).done o []) := by
  subst hnum
  have hkind' : u.stageKind (u16 o.payload 0) = 1 := by simp only [State.stageKind, hstage, hkind]
  change execCmpCredential r s = _
  simp only [execCmpCredential, command_runs hruns, compCommand_fits hfits hn, settleStage_ahead hstage hdue]
  rw [checks_pass (by rw [hpresent, hdeclared]; rfl), order_unopposed hown, checks_pass (by rw [openPort_iff.2 hport, hkind']; rfl), hstage]
  simp only [Nat.not_le.2 hdue, if_false]
  rfl

/-- CMP.DISABLE on a compartment that commands reach (Table 17.3). -/
theorem exec_cmpDisable {r : Req} {o : Outstanding} {s u : State} {n : Nat} (hruns : Runs 0x2009 r o s u) (hfits : o.fits 4 [(2, 2)])
    (hnum : u16 o.payload 0 = n) (hn : n ≤ 1023) (hreach : u.reachable n) (hown : u.unopposed [objComp n]) :
    exec (.cmpDisable r) s = .next (((((((u.takesEffect o.port o.opcode [objComp n]).modComp n fun c => { c.cancelReq with disabled := true }).setComp n
      stDisabled 0 (u.now + 33) o.baton).openRefused n 0x17).relockRefused n 0x17).bankClaim (n / 256)).done o []) := by
  subst hnum
  change execCmpDisable r s = _
  simp only [execCmpDisable, command_runs hruns, compCommand_fits hfits hn, compReach_reachable hreach, order_unopposed hown]
  rfl

/-- CMP.ENABLE on a compartment that commands reach (R613). -/
theorem exec_cmpEnable {r : Req} {o : Outstanding} {s u : State} {n : Nat} (hruns : Runs 0x200A r o s u) (hfits : o.fits 4 [(2, 2)])
    (hnum : u16 o.payload 0 = n) (hn : n ≤ 1023) (hreach : u.reachable n) (hown : u.unopposed (objComp n :: o.lockObjs))
    (hport : u.redFlag = true → o.port = .kpr) :
    exec (.cmpEnable r) s = .next (
      let v := (u.takesEffect o.port o.opcode [objComp n]).modComp n fun c => { c with disabled := false }
      (if (v.comp n).state = stFault ∨ (v.comp n).state = stDisabled then v.deriveComp n (u.now + 33) o.baton else v).done o []) := by
  subst hnum
  change execCmpEnable r s = _
  simp only [execCmpEnable, command_runs hruns, compCommand_fits hfits hn, compReach_reachable hreach, order_unopposed hown]
  rw [checks_pass (by rw [openPort_iff.2 hport]; rfl)]
  rfl

/-- CMP.SET_TIMELOCK on a compartment that the package has (R618, R629). -/
theorem exec_cmpSetTimelock {r : Req} {o : Outstanding} {s u : State} {n until_ : Nat} (hruns : Runs 0x2008 r o s u)
    (hfits : o.fits 12 [(2, 2)]) (hfields : ∀ x ∈ timelockFields o.payload, x.1 = false) (hnum : u16 o.payload 0 = n)
    (huntil : (if u32 o.payload 4 = 0 then 0 else u.now + u32 o.payload 4 * 600000000) = until_) (hpresent : u.compPresent n = true)
    (hdeclared : u.bankDeclared 0 = true) (hown : u.unopposed [objComp n]) :
    exec (.cmpSetTimelock r) s = .next (
      if u.now < (u.comp n).lockUntil ∧ until_ < (u.comp n).lockUntil ∧ (u.comp n).lockRank < o.port.rank then u.respond o cRank []
      else ((u.takesEffect o.port o.opcode [objComp n]).modComp n fun c =>
        { c with lockUntil := until_, lockRank := if until_ = 0 then 0 else o.port.rank, delayS := u16 o.payload 8,
                 windowS := byteAt o.payload 10, dualS := byteAt o.payload 11 }).done o []) := by
  subst hnum huntil
  change execCmpSetTimelock r s = _
  simp only [execCmpSetTimelock, command_runs hruns, formedBy_fits hfits hfields]
  rw [checks_pass (by rw [hpresent, hdeclared]; rfl), order_unopposed hown]

/-- A compartment leaves or joins a group on the present edge (R619, R629). -/
def State.moveTo (v : Option Nat) (s : State) (n : Nat) : State :=
  s.modComp n fun c => { c with group := v, groupEdge := s.now, groupWas := if c.groupEdge = s.now then c.groupWas else c.group }

/-- A compartment belongs to a group other than `b`. -/
def State.inOtherGroup (b : Nat) (s : State) (n : Nat) : Bool := match (s.comp n).group with | some h => h ≠ b | none => false

/-- CMP.SET_GROUP of members that the package has (R619). -/
theorem exec_cmpSetGroup {r : Req} {o : Outstanding} {s u : State} {b : Nat} {ns : List Nat} (hruns : Runs 0x200B r o s u)
    (hgroup : byteAt o.payload 0 = b) (hb : b ≤ 31) (hcount : byteAt o.payload 1 ≤ 32) (hfits : o.fits (4 + 2 * byteAt o.payload 1) [(2, 2)])
    (hfields : ∀ x ∈ memberFields o.payload, x.1 = false)
    (hns : ((List.range (byteAt o.payload 1)).map fun i => u16 o.payload (4 + 2 * i)) = ns) (hpresent : ∀ i ∈ ns, u.compPresent i = true)
    (hdeclared : u.bankDeclared 0 = true) (hown : u.unopposed [objGroup b]) :
    exec (.cmpSetGroup r) s = .next (u.checks o [((u.groupMembers b).any (fun n => (u.comp n).active), 0x0009),
        (ns.any (u.inOtherGroup b) || !decide ns.Nodup, 0x0016)] fun s =>
      let w := s.takesEffect o.port o.opcode [objGroup b]
      (ns.foldl (State.moveTo (some b)) ((w.groupMembers b).foldl (State.moveTo none) w)).done o []) := by
  subst hgroup hns
  obtain ⟨hlen, -⟩ := fits_iff.1 hfits
  have hshort : ¬ o.payload.length < 4 := by omega
  have hlisted : ∀ x ∈ [(decide (31 < byteAt o.payload 0), 0), (decide (32 < byteAt o.payload 1), 1)] ++ memberFields o.payload, x.1 = false := by
    simp only [List.mem_append, List.mem_cons, List.not_mem_nil, or_false]
    rintro x ((rfl | rfl) | hx)
    · simp [hb]
    · simp [hcount]
    · exact hfields x hx
  have habsent : (((List.range (byteAt o.payload 1)).map fun i => u16 o.payload (4 + 2 * i)).any fun n => !u.compPresent n) = false := by
    simpa using hpresent
  change execCmpSetGroup r s = _
  simp only [execCmpSetGroup, command_runs hruns]
  rw [if_neg hshort, if_neg (Nat.not_lt.2 hcount), formedBy_fits hfits hlisted, checks_pass (by rw [habsent, hdeclared]; rfl), order_unopposed hown]
  rfl

/-- Settles O32: each command by what bars it. -/
theorem compartmentCommands : Obligations.CompartmentCommands := by
  unfold Obligations.CompartmentCommands
  refine ⟨fun r o s u => ⟨fun hruns hfits hn hreach hown hdisabled hhalted => exec_cmpRelock hruns hfits rfl hn hreach hown hdisabled hhalted,
      fun hruns hfits hone hsome hmost hreach hown => exec_cmpHold hruns hfits hone hsome hmost hreach hown,
      fun hruns hfits hone hreach hown => exec_cmpFreeze hruns hfits hone hreach hown,
      fun hruns hfits hone hreach hown => ⟨fun hport => ?_, fun hflag hport => ?_⟩,
      fun g hruns hfits hn hpresent hdeclared hown hport hstage hkind hdue => ⟨fun hother => ?_, fun hsame hsession => ?_⟩,
      fun hruns hfits hn hreach hown => exec_cmpDisable hruns hfits rfl hn hreach hown,
      fun hruns hfits hn hreach hown hport => ⟨fun hderive => ?_, fun hfault hdisabled => ?_⟩,
      fun op _ hruns hfits hn hdeclared => ⟨?_, ?_⟩⟩,
    fun r o s u => ⟨fun hruns hfits hn hsome hmost hbank hlink => ?_, fun hruns hfits hb hdeclared hlink => ?_,
      fun hruns hfits hfields hpresent hdeclared => ⟨fun hstands hearlier hrank hown => ?_, fun hfree hown => ?_⟩,
      fun hruns hb hcount hfits hfields hpresent hdeclared => ⟨fun hactive hown => ?_, fun hidle hdistinct hfree hown => ?_⟩⟩⟩
  · rw [exec_cmpUnfreeze hruns hfits hone hreach hown, checks_pass (by rw [openPort_iff.2 hport]; rfl)]
    rfl
  · rw [exec_cmpUnfreeze hruns hfits hone hreach hown, checks_fail (by rw [hflag, decide_eq_true hport]; rfl)]
  · rw [exec_cmpCredential hruns hfits rfl hn hpresent hdeclared hown hport hstage hkind hdue, if_neg fun h => hother h.1]
    rfl
  · rw [exec_cmpCredential hruns hfits rfl hn hpresent hdeclared hown hport hstage hkind hdue, if_pos ⟨hsame, .inr hsession⟩]
  · rw [exec_cmpEnable hruns hfits rfl hn hreach hown hport]
    dsimp only
    rw [if_pos hderive]
    rfl
  · rw [exec_cmpEnable hruns hfits rfl hn hreach hown hport]
    dsimp only
    rw [if_neg fun h => h.elim hfault hdisabled]
    rfl
  · rintro rfl
    change execCmpRelock r s = _
    simp only [execCmpRelock, command_runs hruns, compCommand_fits hfits hn, compReach_undeclared hdeclared]
  · rintro rfl
    change execCmpDisable r s = _
    simp only [execCmpDisable, command_runs hruns, compCommand_fits hfits hn, compReach_undeclared hdeclared]
  · have hrange : ¬(u16 o.payload 2 = 0 ∨ 256 < u16 o.payload 2
        ∨ (u16 o.payload 0 + u16 o.payload 2 - 1) / 256 ≠ u16 o.payload 0 / 256) := by omega
    change execCmpGetState r s = _
    simp only [execCmpGetState, command_runs hruns, wellFormed_fits hfits, Nat.not_lt.2 hn, hrange, if_false]
    rw [checks_pass (by rw [hlink]; rfl)]
    rfl
  · change execCmpGetBank r s = _
    simp only [execCmpGetBank, command_runs hruns, wellFormed_fits hfits]
    rw [checks_pass (by rw [decide_eq_true hb, hdeclared, hlink]; rfl)]
    rfl
  · rw [exec_cmpSetTimelock hruns hfits hfields rfl rfl hpresent hdeclared hown, if_pos ⟨hstands, hearlier, hrank⟩]
  · rw [exec_cmpSetTimelock hruns hfits hfields rfl rfl hpresent hdeclared hown, if_neg hfree]
    rfl
  · rw [exec_cmpSetGroup hruns rfl hb hcount hfits hfields rfl hpresent hdeclared hown, checks_fail (by rw [hactive]; rfl)]
  · rw [exec_cmpSetGroup hruns rfl hb hcount hfits hfields rfl hpresent hdeclared hown, checks_pass]
    · rfl
    · have htaken : ((List.range (byteAt o.payload 1)).map fun i => u16 o.payload (4 + 2 * i)).any
          (u.inOtherGroup (byteAt o.payload 0)) = false := by
        rw [List.any_eq_false]
        intro n hn
        rw [State.inOtherGroup, hfree n hn]
        exact Bool.false_ne_true
      rw [hidle, htaken, decide_eq_true hdistinct]
      rfl

end Sys2Proof.Machine
end

section
/-! SUPPORT. Power states, the governor and the monitors (PowerStates). -/

namespace Sys2Proof.Machine

/-! ## Payloads -/

theorem fits_length {o : Outstanding} {len : Nat} {zs : List (Nat × Nat)} (h : o.fits len zs) : o.payload.length = len := (fits_iff.1 h).1

theorem fits_zeros {o : Outstanding} {len : Nat} {zs : List (Nat × Nat)} (h : o.fits len zs) {off n : Nat} (hz : (off, n) ∈ zs) :
    firstNonZero o.payload off n = none := (fits_iff.1 h).2 _ hz

/-- A byte of a range without a nonzero byte. -/
theorem byteAt_of_firstNonZero {bs : Bytes} {off n : Nat} (h : firstNonZero bs off (n + 1) = none) : byteAt bs off = 0 := by
  by_contra hne
  simp [firstNonZero, hne] at h

/-! ## Power states -/

theorem sealBatch_now (s : State) : s.sealBatch.now = s.now := by
  unfold State.sealBatch
  dsimp only
  split
  · rfl
  · split
    · unfold State.keeperJob
      split <;> rfl
    · rfl

/-- The Banks take a power state on their own edges; the Keeper's part stands. -/
theorem foldl_applyWatch_pwr (l : List Nat) (f : State → Nat) (watch : Bool) (s : State) :
    (l.foldl (fun s b => s.applyWatch b (f s) watch) s).pwr = s.pwr := by
  induction l generalizing s with
  | nil => rfl
  | cons b l ih => exact ih _

theorem enterPower_pwr (st : PowerState) (cause : Nat) (s : State) :
    (s.enterPower st cause).pwr = { s.pwr with state := st, lastChange := s.now } := by
  unfold State.enterPower
  dsimp only
  rw [foldl_applyWatch_pwr, event_pwr]
  rfl

/-- PWR.SET_STATE after closure, while no move to VAULT is due (R667). -/
theorem exec_pwrSetState {r : Req} {o : Outstanding} {s u : State} (hruns : Runs 0x1001 r o s u) (hfits : o.fits 4 [(1, 3)])
    (hstate : byteAt o.payload 0 ≤ 3) (hclosed : u.flc.closed = true) (hdue : u.pwr.vaultDue = none) (hown : u.unopposed [objPower]) :
    exec (.pwrSetState r) s = .next (
      let target := powerState (byteAt o.payload 0)
      let w := u.fusePower.takesEffect o.port o.opcode [objPower]
      u.checks o [(decide (target ≠ u.pwr.state) && u.outsideOn target, 0x0010)] fun _ =>
        (if target = u.pwr.state then w
        else if target = .vault then w.sealBatch.modPwr fun p => { p with vaultDue := some (w.now + 2 ^ 20) }
        else w.enterPower target 0).done o (le 8 (baton o.edge 2))) := by
  have hform : (firstDetail [(decide (3 < byteAt o.payload 0), 0)]).or (firstNonZero o.payload 1 3) = none := by
    rw [decide_eq_false (Nat.not_lt.2 hstate), fits_zeros hfits (by simp)]
    rfl
  change execPwrSetState r s = _
  simp only [execPwrSetState, command_runs hruns]
  rw [formed_pass (fits_length hfits) hform, checks_pass (by rw [hclosed, hdue]; rfl), order_unopposed hown]
  rfl

/-! ## The governor and the monitors -/

/-- PWR.SET_GOVERNOR of settings that Table 19.7 lists (R688). -/
theorem exec_pwrSetGovernor {r : Req} {o : Outstanding} {s u : State} (hruns : Runs 0x1005 r o s u) (hfits : o.fits 8 [(1, 1), (6, 2)])
    (hscope : byteAt o.payload 0 ≤ 4) (hknee : byteAt o.payload 2 ≤ 150) (hstop : byteAt o.payload 3 ≤ 150)
    (hless : byteAt o.payload 2 < byteAt o.payload 3) (hfloor : u16 o.payload 4 ≤ 32000) (hkeeper : byteAt o.payload 0 = 0 → u16 o.payload 4 = 0) :
    exec (.pwrSetGovernor r) s = .next (
      let scope := byteAt o.payload 0
      if scope = 0 then
        (u.modPwr fun p => { p with keeperGov := { knee := byteAt o.payload 2, stop := byteAt o.payload 3, floor := 0, since := u.now,
                                                   was := (u.pwr.keeperGov.knee, u.pwr.keeperGov.stop, 0) } }).done o (le 8 (baton u.now 2))
      else
        u.checks o [(!u.bankDeclared (scope - 1), 0x0001), (!u.inSession scope, 0x0008)] fun _ =>
          let g : Governor := { knee := byteAt o.payload 2, stop := byteAt o.payload 3, floor := u16 o.payload 4, since := u.now + 33,
                                was := u.bankGovernor (scope - 1) }
          (u.modPwr fun p => { p with bankGov := tins p.bankGov (scope - 1) g }).done o (le 8 (baton (u.now + 33) (9 + scope)))) := by
  have hzero : byteAt o.payload 1 = 0 := byteAt_of_firstNonZero (n := 0) (fits_zeros hfits (by simp))
  have hrest : firstNonZero o.payload 6 2 = none := fits_zeros hfits (by simp)
  change execPwrSetGovernor r s = _
  simp only [execPwrSetGovernor, command_runs hruns, hknee, hstop, if_true]
  rw [formed_pass (fits_length hfits)]
  · rfl
  · have hknee' : ¬ (byteAt o.payload 2 : Int) < -40 := by omega
    have hstop' : ¬((byteAt o.payload 3 : Int) < -40 ∨ (byteAt o.payload 3 : Int) ≤ byteAt o.payload 2) := by omega
    have hfloor' : ¬(32000 < u16 o.payload 4 ∨ byteAt o.payload 0 = 0 ∧ u16 o.payload 4 ≠ 0) := by
      rintro (hlarge | ⟨hscope, hsome⟩)
      · omega
      · exact hsome (hkeeper hscope)
    rw [hrest, Option.or_none]
    simp only [firstDetail, Nat.not_lt.2 hscope, hzero, hknee', hstop', hfloor', ne_eq, not_true, decide_false, Bool.false_eq_true, if_false]

/-- A reading that a running monitor takes (R689, R690). -/
theorem exec_monitorReading {d c v : Nat} {x : State} (hd : d < 6) (hc : c < channels d) (hruns : x.monitorRuns d = true) :
    exec (.monitorReading d c v) x = .next (
      let old := tget ({} : Reading) x.pwr.readings (16 * d + c)
      let limits := x.overLimit d c (v % 65536) old.high old.low
      let same := old.edge = x.now && old.presented
      let r : Reading := { value := v % 65536, edge := x.now, before := if same then old.before else old.value,
                           beforeEdge := if same then old.beforeEdge else old.edge, presented := true, high := limits.1, low := limits.2 }
      let u := x.modPwr fun p => { p with readings := tins p.readings (16 * d + c) r }
      let w := if limits.1 != old.high then u.event (monitorSlot d).1 (monitorSlot d).2 0x0C03 c (v % 65536) (b2n limits.1) else u
      if limits.2 != old.low then w.event (monitorSlot d).1 (monitorSlot d).2 0x0C03 c (v % 65536) (b2n limits.2) else w) := by
  change execMonitorReading d c v x = _
  simp only [execMonitorReading, onObject, hd, hc, and_self, decide_true, if_true, hruns, Bool.not_true, Bool.false_eq_true, if_false]

/-- Settles O34: each order by what bars it, the wake by the state it finds, the queries and a reading by their fields. -/
theorem powerStates : Obligations.PowerStates := by
  unfold Obligations.PowerStates
  intro r o s u
  refine ⟨fun hruns hfits hstate hclosed hdue => ⟨fun hmoves hout hown => ?_, fun hmoves hin hown => ⟨fun hvault => ?_, fun hother => ?_⟩,
      fun hsame hown => ?_⟩, fun st cause x => ⟨by rw [enterPower_pwr], by rw [enterPower_pwr]⟩,
    fun hstarted hown => ⟨fun hwatch => ?_, fun hup => ?_⟩,
    fun hruns hfits hknee hstop hless hfloor => ⟨fun hscope hzero => ?_, fun hlow hhigh hdeclared hsession => ?_⟩, fun hruns hfits => ?_,
    fun hruns hfits hdie hfresh => ?_, fun d c v x hd hc hmonitor => ⟨_, exec_monitorReading hd hc hmonitor, ?_, ?_, fun hlimit => ?_⟩⟩
  · rw [exec_pwrSetState hruns hfits hstate hclosed hdue hown, checks_fail (by rw [decide_eq_true hmoves, hout]; rfl)]
  · rw [exec_pwrSetState hruns hfits hstate hclosed hdue hown, checks_pass (by rw [hin, Bool.and_false]; rfl)]
    simp only [if_neg hmoves, if_pos hvault, sealBatch_now]
    rfl
  · rw [exec_pwrSetState hruns hfits hstate hclosed hdue hown, checks_pass (by rw [hin, Bool.and_false]; rfl)]
    simp only [if_neg hmoves, if_neg hother]
    rfl
  · rw [exec_pwrSetState hruns hfits hstate hclosed hdue hown, checks_pass (by rw [decide_eq_false (not_not.2 hsame)]; rfl)]
    simp only [if_pos hsame]
    rfl
  · change execWakenLow s = _
    have hfree : ((s.modPwr fun p => { p with wake := true }).winner [objPower]).isSome = false := congrArg Option.isSome hown
    simp only [execWakenLow, State.modPwr_boot, State.modPwr_pwr, hstarted, hwatch, hfree, event_pwr, Bool.not_true, Bool.false_eq_true,
      reduceCtorEq, or_self, if_false, if_true]
  · change execWakenLow s = _
    have hfree : ((s.modPwr fun p => { p with wake := true }).winner [objPower]).isSome = false := congrArg Option.isSome hown
    have hvault : ¬ s.pwr.state = .vault := by rcases hup with h | h <;> rw [h] <;> decide
    have hwatch : ¬ s.pwr.state = .watch := by rcases hup with h | h <;> rw [h] <;> decide
    simp only [execWakenLow, State.modPwr_boot, State.modPwr_pwr, hstarted, hvault, hwatch, hfree, event_pwr, Bool.not_true, Bool.false_eq_true,
      or_self, if_false]
  · rw [exec_pwrSetGovernor hruns hfits (by omega) hknee hstop hless hfloor fun _ => hzero]
    simp only [hscope, if_true]
    rfl
  · rw [exec_pwrSetGovernor hruns hfits hhigh hknee hstop hless hfloor (by omega)]
    dsimp only
    rw [if_neg (by omega), checks_pass (by rw [hdeclared, hsession]; rfl)]
    rfl
  · change execPwrGetState r s = _
    simp only [execPwrGetState, command_runs hruns, wellFormed_fits hfits]
    rfl
  · have hform : (firstDetail [(decide (5 < byteAt o.payload 0), 0)]).or (firstNonZero o.payload 1 3) = none := by
      rw [hdie, fits_zeros hfits (by simp)]
      rfl
    change execPwrGetMonitors r s = _
    simp only [execPwrGetMonitors, command_runs hruns]
    rw [formed_pass (fits_length hfits) hform, checks_pass (by rw [hdie]; rfl)]
    simp only [hdie, Nat.mul_zero, hfresh, Bool.false_eq_true, if_false, show ¬ 2 ≤ 0 by decide]
    rfl
  · simp only [apply_ite State.pwr, event_pwr, ite_self, State.modPwr_pwr, tget_tins, if_true]
  · simp only [apply_ite State.pwr, event_pwr, ite_self, State.modPwr_pwr, tget_tins, if_true]
  · simp only [hlimit, bne_self_eq_false, Bool.false_eq_true, if_false]
    rfl

end Sys2Proof.Machine
end

section
/-! SUPPORT. The NOS commands (NoseCommands). -/

namespace Sys2Proof.Machine

/-- The Nose is ready for its commands: enabled, powered and in no drain (R656). -/
abbrev State.noseReady (s : State) : Prop := s.featureOff 1 = false ∧ s.draining dNose = false ∧ s.powered dNose = true

theorem noseCommand_ready {s : State} (h : s.noseReady) (o : Outstanding) (query : Bool) (body : State → State) :
    s.noseCommand o query body = body s := by
  obtain ⟨hfeature, hdrain, hpower⟩ := h
  simp only [State.noseCommand, hfeature, hdrain, hpower, Bool.false_eq_true, false_and, if_false, Bool.not_true]

/-- A query runs in a drain. -/
theorem noseCommand_query {s : State} (hfeature : s.featureOff 1 = false) (hpower : s.powered dNose = true) (o : Outstanding)
    (body : State → State) : s.noseCommand o true body = body s := by
  simp only [State.noseCommand, hfeature, hpower, Bool.false_eq_true, and_false, if_false, Bool.not_true]

theorem noseCommand_disabled {s : State} (hfeature : s.featureOff 1 = true) (o : Outstanding) (query : Bool) (body : State → State) :
    s.noseCommand o query body = s.refuse o 0x00FE := by
  simp only [State.noseCommand, hfeature, if_true]

/-! ## NOS.IMPORT -/

/-- NOS.IMPORT while the Nose and CRYPTO are ready and nothing opposes it, before its import is looked for (R646). -/
theorem exec_nosImport {r : Req} {o : Outstanding} {s u : State} (hruns : Runs 0x9000 r o s u) (hfits : o.fits 8 []) (hready : u.noseReady)
    (hclosed : u.flc.closed = true) (htenants : byteAt (u.sect 0x0C 0) 0 ≠ 0) (hdrain : u.draining dCrypto = false)
    (hcrypto : u.domainOn dCrypto = true) (hown : u.unopposed [objNose]) :
    exec (.nosImport r) s = .next (if !(u.nose.state = .staging ∧ u.nose.importing = some (o.port, o.session, o.tag)) then u.refuse o 0x0002
      else (packageFault o.bulk).elim ((u.packageRefusal o.bulk).elim (u.importRuns o) fun d => u.refuse o d)
        fun off => u.malformed o off).closeImport := by
  change execNosImport r s = _
  simp only [execNosImport, command_runs hruns, wellFormed_fits hfits, noseCommand_ready hready]
  rw [checks_pass (by rw [hclosed, decide_eq_false htenants]; rfl), needsCrypto_on hdrain hcrypto, order_unopposed hown]
  cases packageFault o.bulk
  · cases u.packageRefusal o.bulk <;> rfl
  · rfl

/-- An import whose package opens, and whose model is valid on its tenant's channels, is loaded (R646, R649). -/
theorem importRuns_loads {o : Outstanding} {s : State} {i : Nat} {body : Bytes} (htenant : tenantIndex (s.sect 0x0C 0) (pkTenant o.bulk) = some i)
    (hopens : ((s.takesEffect o.orderPort 0x9000 [objNose]).openTenant i).openPackage o.bulk = some body) (hvalid : modelValid body = true)
    (hsources : sourcesOk body (byteAt (tenantAt (s.sect 0x0C 0) i) 50) = true) :
    s.importRuns o =
      let v := ((s.takesEffect o.orderPort 0x9000 [objNose]).openTenant i).modNose fun n =>
        { n with state := .loaded, model := body, tenantId := pkTenant o.bulk, version := u32 o.bulk 80, importing := none, stagedOpen := false }
      v.done o (le 1 i ++ zeros 3 ++ le 4 (u32 o.bulk 80) ++ le 4 (u32 o.bulk 12) ++ le 4 (infCycles body) ++ le 2 (loadCycles body) ++ zeros 2
        ++ le 4 v.nose.session) := by
  simp only [State.importRuns, htenant, Option.getD_some, hopens, hvalid, hsources, Bool.not_true, Bool.false_eq_true, if_false]

/-! ## NOS.START, NOS.STOP and the queries -/

theorem exec_nosStart {r : Req} {o : Outstanding} {s u : State} (hruns : Runs 0x9001 r o s u) (hfits : o.fits 4 [(1, 3)]) (hready : u.noseReady)
    (hown : u.unopposed [objNose]) :
    exec (.nosStart r) s = .next (u.checks o [(decide (u.nose.state ≠ .loaded), 0x0002), (!u.domainOn dSensor, 0x0014)] fun u =>
      ((u.modNose fun n => { n with state := .running, report := byteAt o.payload 0, since := u.now, rings := [] }).takesEffect o.port 0x9001
        [objNose]).done o (le 8 (nextTick (mHop u.nose.model * 600) u.now))) := by
  change execNosStart r s = _
  simp only [execNosStart, command_runs hruns, wellFormed_fits hfits, noseCommand_ready hready, order_unopposed hown]
  rfl

/-- NOS.STOP with a listed mode (R662). -/
theorem exec_nosStop {r : Req} {o : Outstanding} {s u : State} (hruns : Runs 0x9002 r o s u) (hfits : o.fits 4 [(1, 3)])
    (hmode : byteAt o.payload 0 ≤ 1) (hready : u.noseReady) (hown : u.unopposed [objNose]) :
    exec (.nosStop r) s = .next (
      let ends := decide (byteAt o.payload 0 = 1)
      u.checks o [(!(decide (u.nose.state = .running) || (ends && decide (u.nose.state = .loaded))), 0x0002)] fun u =>
        let v := (u.takesEffect o.port 0x9002 [objNose]).settleCompute.done o (le 8 (baton u.now 5))
        if ends then v.endTenant v.now endStop
        else (v.dropLoad v.now).spoil.modNose fun n => { n with state := .loaded, compute := none, freeFrom := v.now + 1 }) := by
  change execNosStop r s = _
  simp only [execNosStop, command_runs hruns]
  rw [formedBy_fits hfits (by simp [hmode]), noseCommand_ready hready, order_unopposed hown]

/-- Settles O37: the import by its package, START and STOP by the Nose's state, the queries by their fields. -/
theorem noseCommands : Obligations.NoseCommands := by
  unfold Obligations.NoseCommands
  intro r o s u
  refine ⟨fun hruns hfits hready hclosed htenants hdrain hcrypto hown =>
      ⟨fun hother => ?_, fun i body hstaging himporting hform hrefusal htenant hopens hvalid hsources => ?_⟩,
    fun hruns hfits hready hown => ⟨fun hnot => ?_, fun hloaded hsensor => ?_⟩,
    fun hruns hfits hmode hready hown => ⟨fun hnot hnot' => ?_, fun hrunning hpauses => ?_, fun hstate hends => ?_⟩,
    fun hruns hfits hfeature hpower hmodel hclosed => ?_, fun hruns hfits hfeature hpower => ?_,
    fun op _ hruns hfits hfeature => ⟨?_, ?_⟩⟩
  · rw [exec_nosImport hruns hfits hready hclosed htenants hdrain hcrypto hown, if_pos (by rw [decide_eq_false hother]; rfl)]
  · rw [exec_nosImport hruns hfits hready hclosed htenants hdrain hcrypto hown, if_neg (by simp [hstaging, himporting]), hform, hrefusal,
      Option.elim_none, Option.elim_none, importRuns_loads htenant hopens hvalid hsources]
    rfl
  · rw [exec_nosStart hruns hfits hready hown, checks_fail (by rw [decide_eq_true hnot]; rfl)]
  · rw [exec_nosStart hruns hfits hready hown, checks_pass (by rw [decide_eq_false (not_not.2 hloaded), hsensor]; rfl)]
    rfl
  · rw [exec_nosStop hruns hfits hmode hready hown]
    dsimp only
    rw [checks_fail (by rw [decide_eq_false hnot, decide_eq_false hnot', Bool.and_false]; rfl)]
  · rw [exec_nosStop hruns hfits hmode hready hown]
    dsimp only
    rw [checks_pass (by rw [decide_eq_true hrunning]; rfl), hpauses]
    rfl
  · have hcan : (decide (u.nose.state = .running) || (decide (byteAt o.payload 0 = 1) && decide (u.nose.state = .loaded))) = true := by
      rcases hstate with h | h <;> simp [h, hends]
    rw [exec_nosStop hruns hfits hmode hready hown]
    dsimp only
    rw [checks_pass (by rw [hcan]; rfl), hends]
    rfl
  · change execNosGetStatus r s = _
    simp only [execNosGetStatus, command_runs hruns, wellFormed_fits hfits, noseCommand_query hfeature hpower, Nose.infTime, Nose.loadTime, hmodel,
      hclosed, List.isEmpty_nil, Bool.not_true, Bool.false_eq_true, if_false, if_true]
    rfl
  · change execNosGetEvents r s = _
    simp only [execNosGetEvents, command_runs hruns, wellFormed_fits hfits, noseCommand_query hfeature hpower]
    rfl
  · rintro rfl
    change execNosStart r s = _
    simp only [execNosStart, command_runs hruns, wellFormed_fits hfits, noseCommand_disabled hfeature]
  · rintro rfl
    have hfits' : o.fits 4 [] := fits_iff.2 ⟨fits_length hfits, by simp⟩
    change execNosGetEvents r s = _
    simp only [execNosGetEvents, command_runs hruns, wellFormed_fits hfits', noseCommand_disabled hfeature]

end Sys2Proof.Machine
end

section
/-! SUPPORT. The cold start's steps (ColdStartSteps), and activation, restarts and VAULT (RestartsActivationVault). -/

namespace Sys2Proof.Machine

/-! ## The cold start -/

/-- DRBG_READY while step 5 stands (R228, R230). -/
theorem exec_drbgReady {s : State} (hstage : s.boot.stage = 0x03) (hready : s.drbgReady = true) :
    exec .drbgReady s = .next (
      let u := s.modBoot fun b => { b with esWait := false }
      let v := [0, 1, 2, 3].foldl State.reseedMesh (if s.vlt.startClass ≠ 0 then u.newBaseNote else u)
      let w := if s.vlt.startClass ≠ 0 ∧ (v.lifecycle = 2 ∨ v.lifecycle = 3) then v.enterRedFlag [(17, 0)] else v
      (w.advanceTo (w.now + 1)).startFormula) := by
  change execDrbgReady s = _
  simp only [execDrbgReady, hstage, hready, ne_eq, not_true, Bool.not_true, Bool.false_eq_true, or_self, if_false]
  rfl

/-- PORTS_OPEN while it is due (R345, R346). -/
theorem exec_portsOpen {s : State} (hdue : s.boot.portsDue = true) :
    exec .portsOpen s = .next (
      let u := ((s.advanceTo (s.now + 1)).modBoot fun b => { b with portsDue := false }).setStage 0x08
      let v := (u.modMb fun m => { m with isOpen := true }).modSvc fun x => { x with isOpen := true }
      let w := if v.boot.stwVerdict = 0 then (v.setDomain dSteward { condition := .on }).stewardStarts else v
      if (w.link 0).state = .down then w.readEverything else (w.bootPlats.foldl State.platWaits w).holdPorts) := by
  change execPortsOpen s = _
  simp only [execPortsOpen, hdue, Bool.not_true, Bool.false_eq_true, if_false]

/-- Settles O39: each step where it stands. -/
theorem coldStartSteps : Obligations.ColdStartSteps := by
  unfold Obligations.ColdStartSteps
  intro s
  refine ⟨fun vres faults => ⟨fun hstarted hvault => ?_, rfl, fun hstarted => ?_⟩,
    fun hstage hready => ⟨fun hlive => ?_, fun hfresh hlifecycle => ?_⟩, fun hdue => ⟨fun hdown => ?_, fun hup => ?_⟩, fun hmay => ?_⟩
  · change execPornRelease true vres faults s = _
    simp only [execPornRelease, hstarted, hvault, Bool.not_true, Bool.false_eq_true, or_self, if_false]
  · change execPornRelease true vres faults s = _
    simp only [execPornRelease, hstarted, true_or, or_true, if_true]
  · rw [exec_drbgReady hstage hready]
    simp only [hlive, ne_eq, not_true, if_false, false_and]
  · rw [exec_drbgReady hstage hready]
    dsimp only
    rw [if_pos hfresh, if_pos ⟨hfresh, hlifecycle⟩]
  · rw [exec_portsOpen hdue]
    exact congrArg _ (if_pos hdown)
  · rw [exec_portsOpen hdue]
    exact congrArg _ (if_neg hup)
  · change execHeartClosure s = _
    simp only [execHeartClosure, hmay, Bool.not_true, Bool.false_eq_true, if_false, List.isEmpty_iff]

/-! ## Activation -/

/-- FRM.ACTIVATE while no restart is on its way (R179). -/
theorem exec_frmActivate {r : Req} {o : Outstanding} {s u : State} (hruns : Runs 0xC002 r o s u) (hfits : o.fits 48 [])
    (hidle : u.restarting = false) (hown : u.unopposed (o.lockObjs ++ u.everyObject)) :
    exec (.frmActivate r) s = .next (u.checks o
      [(u.frm.staged.isNone, 0x0001), (u.staging o, 0x0002), (u.redRefuses o, 0x0003),
       (decide (u.frm.staged.elim [] (fun f => sized 48 f.digest) ≠ o.payload), 0x0004)] fun u =>
        (((u.takesEffect o.port o.opcode u.everyObject).modFrm fun f =>
          { f with active := 1 - f.active, activating := true }).restartBegins).done o []) := by
  change execFrmActivate r s = _
  simp only [execFrmActivate, command_runs hruns, wellFormed_fits hfits]
  rw [checks_pass (by rw [hidle]; rfl), order_unopposed hown]
  cases u.frm.staged <;> rfl

/-! ## Restarts -/

/-- A restart keeps what the part is made of. -/
theorem restart_part (s : State) : s.restart.part = s.part := by
  obtain ⟨-, hpart, -, -⟩ := keeps_restart (keeps_refl s)
  exact hpart

/-- An install that ends without its image in place (R460). -/
def State.installRefused (k d : Nat) (s : State) : State :=
  (s.modWdn fun w => { w with install := none }).settleTicket k cState (le 2 d ++ zeros 2)

/-- An install on its edge: its image is allowed, verified, written and checked (R460). -/
def State.installRuns (k : Nat) (s : State) : State :=
  let x := s.stagedKeeper
  if s.recoveryAllows 0 keeperWindow (ihLen x.header + x.block.length) then
    (s.keeperRefusal x).elim
      (if (s.installImage x).1 then ((s.installImage x).2.settleTicket k cOk []).restart else ((s.installImage x).2.installRefused k 0x000B).restart)
      fun d => s.installRefused k d
  else s.installRefused k 0x000B

/-- KEEPER_INSTALL_RESTART while an install waits and nothing runs (R460). -/
theorem exec_keeperInstallRestart {s : State} {k : Nat} (hinstall : s.wdn.install = some k) (hquiet : s.quiet = true) (hcan : s.canRestart = true) :
    exec .keeperInstallRestart s = .next ((s.advanceTo s.frm.restartFrom).installRuns k) := by
  change execKeeperInstallRestart s = _
  simp only [execKeeperInstallRestart, State.installRuns, hinstall, hquiet, hcan, Bool.and_self, Bool.not_true, Bool.false_eq_true, if_false]
  generalize s.advanceTo s.frm.restartFrom = u
  generalize u.stagedKeeper = x
  cases u.recoveryAllows 0 keeperWindow (ihLen x.header + x.block.length)
  · rfl
  · cases u.keeperRefusal x
    · generalize u.installImage x = y
      obtain ⟨ok, v⟩ := y
      rfl
    · rfl

/-- Settles O40: the activation by its checks, VAULT and the restart by what they keep, each cause of a restart by its own condition. -/
theorem restartsActivationVault : Obligations.RestartsActivationVault := by
  unfold Obligations.RestartsActivationVault
  refine ⟨⟨fun r o s u hruns hfits hidle hown => ⟨fun hnone => ?_, fun f hstaged hstaging => ⟨fun hred => ?_, fun hred hdigest => ?_,
        fun hred hdigest => ?_⟩⟩, fun s hmain => ?_, fun s hmain => ?_, fun s hcan => ⟨fun hnone => ?_, fun e hdue => ?_⟩⟩,
    fun s => ⟨restart_part s, rfl, rfl, rfl, rfl, rfl, rfl, rfl, rfl, rfl, rfl, rfl, rfl, rfl, rfl, rfl⟩,
    fun w s => ⟨fun hshort => ?_, fun hlong => ?_, fun hlow hhigh => ⟨_, rfl, ?_⟩⟩,
    fun s hcan => ⟨?_, ?_, fun n => ⟨fun hlow hhigh => ?_, fun hout => ?_⟩, fun t hfrom => ?_, fun hnone => ?_, fun hactivating hquiet => ?_,
      fun hnot => ?_, fun k hinstall hquiet => ?_⟩⟩
  · rw [exec_frmActivate hruns hfits hidle hown, checks_fail (by rw [hnone]; rfl)]
  · rw [exec_frmActivate hruns hfits hidle hown, checks_fail (by rw [hstaged, hstaging, hred]; rfl)]
  · rw [exec_frmActivate hruns hfits hidle hown,
      checks_fail (by rw [hstaged, hstaging, hred, Option.elim_some, decide_eq_true hdigest]; rfl)]
  · rw [exec_frmActivate hruns hfits hidle hown,
      checks_pass (by rw [hstaged, hstaging, hred, Option.elim_some, decide_eq_false (not_not.2 hdigest)]; rfl)]
    rfl
  · change ∃ t, execMainPowerLost s = .next t ∧ _
    simp only [execMainPowerLost, hmain, Bool.not_true, Bool.false_eq_true, if_false]
    exact ⟨_, rfl, rfl, rfl, rfl, rfl, rfl, rfl⟩
  · change execMainPowerLost s = _
    simp only [execMainPowerLost, hmain, Bool.not_false, if_true]
  · change execVaultEntry s = _
    simp only [execVaultEntry, hnone]
  · change ∃ t, execVaultEntry s = .next t ∧ _
    simp only [execVaultEntry, hdue, hcan, if_true]
    exact ⟨_, rfl, rfl, rfl, rfl, rfl⟩
  · change execPornLow w s = _
    simp only [execPornLow, hshort, if_true]
  · change execPornLow w s = _
    simp only [execPornLow, show ¬ w < 1000 by omega, Nat.not_lt.2 hlong, if_false]
    rfl
  · change execPornLow w s = _ ∨ execPornLow w s = _
    simp only [execPornLow, Nat.not_lt.2 hlow, hhigh, if_false, if_true]
    by_cases hodd : s.freeVal.1 % 2 = 1
    · exact .inl (congrArg _ (if_pos hodd))
    · exact .inr (congrArg _ (if_neg hodd))
  · change execKeeperWdogExpiry s = _
    simp only [execKeeperWdogExpiry, hcan, if_true]
  · change execLossOfPllLock s = _
    simp only [execLossOfPllLock, hcan, if_true, State.clockFault]
  · change execClockMonitorWindow n s = _
    simp only [execClockMonitorWindow, hcan, Bool.not_true, Bool.false_eq_true, if_false, Nat.not_lt.2 hlow, Nat.not_lt.2 hhigh, or_self]
  · change execClockMonitorWindow n s = _
    simp only [execClockMonitorWindow, hcan, Bool.not_true, Bool.false_eq_true, if_false, hout, if_true, State.clockFault]
  · change execLifecycleRestart s = _
    simp only [execLifecycleRestart, hfrom, hcan, if_true]
  · change execLifecycleRestart s = _
    simp only [execLifecycleRestart, hnone]
  · change execActivateRestart s = _
    simp only [execActivateRestart, hactivating, hquiet, hcan, Bool.and_self, if_true]
  · have hbarred : (s.frm.activating && s.quiet && s.canRestart) = false := by
      rcases hnot with h | h <;> simp [h]
    change execActivateRestart s = _
    simp only [execActivateRestart, hbarred, Bool.false_eq_true, if_false]
  · rw [exec_keeperInstallRestart hinstall hquiet hcan]
    dsimp only
    generalize s.advanceTo s.frm.restartFrom = u
    unfold State.installRuns
    dsimp only
    generalize u.stagedKeeper = x
    cases u.keeperRefusal x
    · generalize u.installImage x = y
      rfl
    · rfl

end Sys2Proof.Machine
end

section
/-! SUPPORT. The platform commands (PlatformCommands), and the staging of a Formula and its queries (FormulaStaging). -/

namespace Sys2Proof.Machine

/-! ## Platforms -/

/-- SYS.RELEASE_PLATFORM on its owner's turn (R360). -/
theorem exec_sysReleasePlatform {r : Req} {o : Outstanding} {s u : State} {p : Nat} (hruns : Runs 0x0030 r o s u)
    (hplat : byteAt o.payload 0 = p) (hp : p ≤ 3) (hfits : o.fits 4 [(1, 3)]) (hown : u.unopposed (objReset p :: o.lockObjs)) :
    exec (.sysReleasePlatform r) s = .next (u.checks o
      [(u.redRefuses o, 0x0040), (!u.hasBoot p, 0x0001), (!u.flc.closed, 0x0002), (!u.eligibleNow p, 0x0003),
       (!(u.plat p).ordered, 0x0006), (!u.inSession 0, 0x0007), (!u.pgoodMet p, 0x0004)] fun s =>
        if (s.plat p).released then s.done o (le 8 (s.plat p).releaseBaton)
        else
          let w := (s.takesEffect o.port o.opcode [objReset p]).sendLaunch p s.relayEdge
          w.modPlat p fun q => { q with heldCmd := false, releaseAt := some (w.now + 62), releaseCmd := some (o.port, o.session, o.tag) }) := by
  subst hplat
  change execSysReleasePlatform r s = _
  simp only [execSysReleasePlatform, command_runs hruns]
  rw [formedBy_fits hfits (by simp [hp]), order_unopposed hown]

/-- The checks of SYS.RELEASE_PLATFORM that leave PGOOD to be asked. -/
theorem releaseChecks_pgood {o : Outstanding} {p : Nat} {u : State} (hred : u.redRefuses o = false) (hboot : u.hasBoot p = true)
    (hclosed : u.flc.closed = true) (heligible : u.eligibleNow p = true) (hordered : (u.plat p).ordered = true) (hlink : u.inSession 0 = true) :
    firstDetail [(u.redRefuses o, 0x0040), (!u.hasBoot p, 0x0001), (!u.flc.closed, 0x0002), (!u.eligibleNow p, 0x0003),
       (!(u.plat p).ordered, 0x0006), (!u.inSession 0, 0x0007), (!u.pgoodMet p, 0x0004)] = if u.pgoodMet p then none else some 0x0004 := by
  rw [hred, hboot, hclosed, heligible, hordered, hlink]
  cases u.pgoodMet p <;> rfl

theorem exec_sysHoldPlatform {r : Req} {o : Outstanding} {s u : State} {p : Nat} (hruns : Runs 0x0031 r o s u)
    (hplat : byteAt o.payload 0 = p) (hp : p ≤ 3) (hfits : o.fits 4 [(1, 3)]) (hown : u.unopposed [objReset p]) :
    exec (.sysHoldPlatform r) s = .next (((u.takesEffect o.port o.opcode [objReset p]).holdByCommand p).done o
      (le 8 (baton (if u.heldLow p then o.edge else o.edge + 1) 15))) := by
  subst hplat
  change execSysHoldPlatform r s = _
  simp only [execSysHoldPlatform, command_runs hruns]
  rw [formedBy_fits hfits (by simp [hp]), order_unopposed hown]

/-! ## Phases -/

theorem viaLink_session {l : Nat} {s : State} (h : s.inSession l = true) (o : Outstanding) (body : State → State) : s.viaLink o l body = body s :=
  if_pos h

/-- A WDN command of a listed port and listed fields. -/
theorem wdnCommand_fits {o : Outstanding} {len : Nat} {fields : List (Bool × Nat)} {zs : List (Nat × Nat)} {s : State} (hfits : o.fits len zs)
    (hport : byteAt o.payload 0 ≤ 4) (hfields : ∀ x ∈ fields, x.1 = false) (body : Nat → State → State) :
    s.wdnCommand o len fields zs body = body (byteAt o.payload 0) s := by
  rw [State.wdnCommand, formedBy_fits hfits]
  exact List.forall_mem_cons.2 ⟨by simp [hport], hfields⟩

/-- WDN.SET_PHASE of a listed phase on a declared port whose link is in SESSION (R414). -/
theorem exec_wdnSetPhase {r : Req} {o : Outstanding} {s u : State} {p target : Nat} (hruns : Runs 0x3005 r o s u)
    (hport : byteAt o.payload 0 = p) (hp : p ≤ 3) (htarget : byteAt o.payload 1 = target) (hlisted : target = 0 ∨ target = 3 ∨ target = 4)
    (hfits : o.fits 4 [(2, 2)]) (hdeclared : u.portDeclared p = true) (hclosed : u.flc.closed = true) (hlink : u.inSession 0 = true)
    (hnotMeasure : (u.wport p).phase ≠ 2) (hred : target ≠ 0 → u.redRefuses o = false)
    (hown : u.unopposed (if target = 0 then u.holdObjs p else objWarden p :: o.lockObjs)) :
    exec (.wdnSetPhase r) s = .next (
      u.checks o [(target == 3 || (target == 4 && (u.wport p).phase != 3 && (u.wport p).phase != 4), 0x0003)] fun s =>
        if target = 4 then
          if (u.wport p).phase = 4 then s.done o (le 8 (s.wport p).phaseBaton)
          else ((s.takesEffect o.port o.opcode [objWarden p]).setPhase p 4 s.relayEdge).done o (le 8 (baton s.relayEdge 6))
        else s.phaseHold o p) := by
  subst hport htarget
  have hbound : (byteAt o.payload 0 == 4) = false := by simp; omega
  have hphase : ((u.wport (byteAt o.payload 0)).phase == 2) = false := by simp [hnotMeasure]
  have hred' : (decide (byteAt o.payload 1 ≠ 0) && u.redRefuses o) = false := by
    by_cases hzero : byteAt o.payload 1 = 0
    · simp [hzero]
    · rw [hred hzero, Bool.and_false]
  change execWdnSetPhase r s = _
  simp only [execWdnSetPhase, command_runs hruns]
  rw [wdnCommand_fits hfits (by omega) (by simp; omega), checks_pass (by rw [hbound, hdeclared, hclosed, hred']; rfl), viaLink_session hlink,
    order_unopposed hown]
  simp only [State.checks, firstDetail, hphase, Bool.false_eq_true, if_false]

/-- WDN.SET_PHASE out of HOLD while the Red flag bars its port (R249). -/
theorem exec_wdnSetPhase_red {r : Req} {o : Outstanding} {s u : State} (hruns : Runs 0x3005 r o s u) (hp : byteAt o.payload 0 ≤ 3)
    (htarget : byteAt o.payload 1 = 4) (hfits : o.fits 4 [(2, 2)]) (hdeclared : u.portDeclared (byteAt o.payload 0) = true)
    (hclosed : u.flc.closed = true) (hred : u.redRefuses o = true) : exec (.wdnSetPhase r) s = .next (u.refuse o 0x0040) := by
  have hbound : (byteAt o.payload 0 == 4) = false := by simp; omega
  change execWdnSetPhase r s = _
  simp only [execWdnSetPhase, command_runs hruns]
  rw [wdnCommand_fits hfits (by omega) (by simp [htarget]), checks_fail (by rw [hbound, hdeclared, hclosed, hred, htarget]; rfl)]

/-- Settles O46: the release by its checks, the hold, the phases by their target, the query by its fields. -/
theorem platformCommands : Obligations.PlatformCommands := by
  unfold Obligations.PlatformCommands
  intro r o s u
  refine ⟨fun hruns hp hfits hown => ⟨fun hred => ?_, fun hred hboot hclosed heligible hordered hlink =>
      ⟨fun hgood => ?_, fun hgood hreleased => ?_, fun hgood hheld => ?_⟩⟩,
    fun hruns hp hfits hown => exec_sysHoldPlatform hruns rfl hp hfits hown, fun x => ?_,
    fun hruns hp hfits hdeclared hclosed hlink hphase => ⟨fun htarget hred => ?_, fun htarget hred hown => ⟨fun hrun => ?_, fun hlaunch => ?_⟩,
      fun htarget hred hown => ?_, fun x htarget hplat hown => ?_⟩, fun hruns hfits => ?_⟩
  · rw [exec_sysReleasePlatform hruns rfl hp hfits hown, checks_fail (by rw [hred]; rfl)]
  · rw [exec_sysReleasePlatform hruns rfl hp hfits hown,
      checks_fail (by rw [releaseChecks_pgood hred hboot hclosed heligible hordered hlink, hgood]; rfl)]
  · rw [exec_sysReleasePlatform hruns rfl hp hfits hown,
      checks_pass (by rw [releaseChecks_pgood hred hboot hclosed heligible hordered hlink, hgood]; rfl), if_pos hreleased]
    rfl
  · rw [exec_sysReleasePlatform hruns rfl hp hfits hown,
      checks_pass (by rw [releaseChecks_pgood hred hboot hclosed heligible hordered hlink, hgood]; rfl), if_neg (by simp [hheld])]
    rfl
  · rw [State.holdByCommand, plat_modPlat_self]
    exact ⟨rfl, rfl⟩
  · exact exec_wdnSetPhase_red hruns hp htarget hfits hdeclared hclosed hred
  · rw [exec_wdnSetPhase hruns rfl hp htarget (.inr (.inr rfl)) hfits hdeclared hclosed hlink hphase (fun _ => hred) hown,
      checks_pass (by rw [hrun]; rfl), if_pos rfl, if_pos hrun]
    rfl
  · rw [exec_wdnSetPhase hruns rfl hp htarget (.inr (.inr rfl)) hfits hdeclared hclosed hlink hphase (fun _ => hred) hown,
      checks_pass (by rw [hlaunch]; rfl), if_pos rfl, if_neg (by omega)]
    rfl
  · rw [exec_wdnSetPhase hruns rfl hp htarget (.inr (.inl rfl)) hfits hdeclared hclosed hlink hphase (fun _ => hred) hown, checks_fail rfl]
  · have hobjs : u.holdObjs (byteAt o.payload 0) = [objWarden (byteAt o.payload 0), objReset x] := by rw [State.holdObjs, hplat]
    rw [exec_wdnSetPhase hruns rfl hp htarget (.inl rfl) hfits hdeclared hclosed hlink hphase (fun h => absurd rfl h) (by rwa [if_pos rfl, hobjs]),
      checks_pass rfl, if_neg (by decide), State.phaseHold, hplat]
    rfl
  · change execSysGetBoot r s = _
    simp only [execSysGetBoot, command_runs hruns, wellFormed_fits hfits]
    rfl

/-! ## Staging -/

theorem rejectFormula_frm (code off : Nat) (s : State) :
    (s.rejectFormula code off).frm = { s.frm with rejectCode := code, rejectOffset := off } := by
  rw [State.rejectFormula, event_frm]
  rfl

/-- FRM.STAGE of a length that a Formula can have, while no other is outstanding (R178). -/
theorem exec_frmStage {r : Req} {o : Outstanding} {s u : State} (hruns : Runs 0xC001 r o s u) (hshort : 64 ≤ o.bulk.length)
    (hlong : o.bulk.length ≤ 98304) (hfits : o.fits 8 []) (hown : u.unopposed [objStage]) :
    exec (.frmStage r) s = .next (u.checks o [(u.staging o, 0x0002)] fun s =>
      let v := (s.takesEffect o.orderPort o.opcode [objStage]).unstage
      let w := v.writeSlot v.stagingSlot o.bulk
      (w.validate o.bulk).elim
        ((w.modFrm fun q => { q with staged := some (formulaOf o.bulk) }).done o
          (sized 48 (formulaOf o.bulk).digest ++ le 4 (formulaOf o.bulk).serial))
        fun x => ((w.rejectFormula x.1 x.2).eraseSlot (w.rejectFormula x.1 x.2).stagingSlot).refuse o x.1) := by
  have hlen : ¬(o.bulk.length < 64 ∨ 98304 < o.bulk.length) := by omega
  change execFrmStage r s = _
  simp only [execFrmStage, command_runs hruns, hlen, if_false, wellFormed_fits hfits, order_unopposed hown, State.checks]
  cases firstDetail [(u.staging o, 0x0002)]
  · dsimp only
    generalize (u.takesEffect o.orderPort o.opcode [objStage]).unstage = v
    generalize v.writeSlot v.stagingSlot o.bulk = w
    have hslot (code off : Nat) : (w.rejectFormula code off).stagingSlot = w.stagingSlot := by
      rw [State.stagingSlot, rejectFormula_frm]
      rfl
    cases w.validate o.bulk
    · rfl
    · simp only [Option.elim_some, hslot]
  · rfl

/-- Settles O47: the staging by its validation, the revalidation, the queries by their fields. -/
theorem formulaStaging : Obligations.FormulaStaging := by
  unfold Obligations.FormulaStaging
  intro r o s u
  refine ⟨fun hruns hshort hlong hfits hown => ⟨fun hstaging => ?_, fun hfree => ?_⟩, fun hruns hlen => ?_, fun x hdue => ?_, fun x hdone => ?_,
    fun hruns hfits => ?_, fun hruns hfits => ?_⟩
  · rw [exec_frmStage hruns hshort hlong hfits hown, checks_fail (by rw [hstaging]; rfl)]
  · rw [exec_frmStage hruns hshort hlong hfits hown, checks_pass (by rw [hfree]; rfl)]
    dsimp only
    cases State.validate o.bulk _ <;> rfl
  · change execFrmStage r s = _
    simp only [execFrmStage, command_runs hruns, hlen, if_true]
  · change execStagingRevalidate x = _
    simp only [execStagingRevalidate, hdue, Bool.not_true, Bool.false_eq_true, if_false] <;> rfl
  · change execStagingRevalidate x = _
    simp only [execStagingRevalidate, hdone, Bool.not_false, if_true]
  · change execFrmGetInfo r s = _
    simp only [execFrmGetInfo, command_runs hruns, wellFormed_fits hfits]
    rfl
  · change execFrmGetRanks r s = _
    simp only [execFrmGetRanks, command_runs hruns, wellFormed_fits hfits]
    rfl

end Sys2Proof.Machine
end

section
/-! SUPPORT. The NVM controller and the accesses of the cores, by what grants them. -/

namespace Sys2Proof.Machine

/-! ## The NVM controller -/

/-- A byte outside the range that is cleared reads as before. -/
theorem tget_mclear_outside {a n x : Nat} (hx : ¬(a ≤ x ∧ x < a + n)) (m : Memory) : tget 0xFF (mclear m a n) x = tget 0xFF m x := by
  induction m with
  | nil => rfl
  | cons c m ih =>
    simp only [mclear, List.filter_cons]
    split
    · simp only [tget, ← ih]
      rfl
    · next hcut =>
      have hne : c.1 ≠ x := by
        rintro rfl
        exact hx (by simpa using hcut)
      simp only [tget, hne, if_false]
      exact ih

/-- The answers of the NVM controller to a request in range of a core that runs (R51). -/
theorem nvmProgramErase_answers (core : CoreId) (op : NvmOp) (s : State) (hruns : s.coreRuns core = true) (hin : nvmOffset op < 0x100000) :
    (core = .keeper → s.cores.opA = none →
       exec (.nvmProgramErase core false 0 op) s = .next ((s.readResult core cOk).modCores fun c => { c with opA := some op }))
     ∧ (core = .keeper → s.cores.opA ≠ none → exec (.nvmProgramErase core false 0 op) s = .next (s.readResult core cState))
     ∧ (s.cores.opB = none →
         exec (.nvmProgramErase core false 1 op) s = .next ((s.readResult core cOk).modCores fun c => { c with opB := some op }))
     ∧ (s.cores.opB ≠ none → exec (.nvmProgramErase core false 1 op) s = .next (s.readResult core cState))
     ∧ exec (.nvmProgramErase core true 1 op) s = .next (s.readResult core cSelfBank)
     ∧ (core = .steward → ∀ b, exec (.nvmProgramErase core b 0 op) s = .next (s.accessFault core (0x10000000 + nvmOffset op))) := by
  have hrange : ¬0x100000 ≤ nvmOffset op := by omega
  have hexec (b : Bool) (bank : Nat) : exec (.nvmProgramErase core b bank op) s = execNvmProgramErase core b bank op s := rfl
  refine ⟨?_, ?_, fun hfree => ?_, fun hbusy => ?_, ?_, ?_⟩
  · rintro rfl hfree
    simp [hexec, execNvmProgramErase, onObject_pos, hruns, hrange, hfree]
  · rintro rfl hbusy
    simp [hexec, execNvmProgramErase, onObject_pos, hruns, hrange, Option.isSome_iff_ne_none.mpr hbusy]
  · simp [hexec, execNvmProgramErase, onObject_pos, hruns, hrange, hfree]
  · simp [hexec, execNvmProgramErase, onObject_pos, hruns, hrange, Option.isSome_iff_ne_none.mpr hbusy]
  · simp [hexec, execNvmProgramErase, onObject_pos, hruns, hrange]
  · rintro rfl b
    simp [hexec, execNvmProgramErase, onObject_pos, hruns]

/-! ## Accesses of the cores -/

theorem exec_accessFault {core : CoreId} {addr : Nat} {s : State} (hruns : s.coreRuns core = true) :
    exec (.accessFault core addr) s = .next (if s.granted core true (placeOf addr) then s else s.accessFault core addr) := by
  change execAccessFault core addr s = _
  simp [execAccessFault, hruns]

theorem exec_registerWrite_denied {core : CoreId} {addr : Nat} {v : Word} {s : State} (hruns : s.coreRuns core = true)
    (hdenied : s.granted core true (placeOf addr) = false) : exec (.registerWrite core addr v) s = .next (s.accessFault core addr) := by
  change execRegisterWrite core addr v s = _
  simp [execRegisterWrite, hruns, hdenied]

/-- A write that is granted and loses to the Keeper's of the same edge is only logged (R55). -/
theorem exec_registerWrite_loses {core : CoreId} {addr : Nat} {v : Word} {s : State} (hruns : s.coreRuns core = true)
    (hgranted : s.granted core true (placeOf addr) = true) (hloses : s.writeLoses core (addr / 4 * 4) = true) :
    exec (.registerWrite core addr v) s = .next (s.event 3 0 0x0003 0 (addr / 4 * 4) v.toNat) := by
  have hsteward : core = .steward := by
    simp only [State.writeLoses, Bool.and_eq_true, decide_eq_true_eq] at hloses
    exact hloses.1
  subst hsteward
  change execRegisterWrite .steward addr v s = _
  simp [execRegisterWrite, hruns, hgranted, hloses, State.logRefusedWrite]

/-- A write that is granted goes to the register's own row, where it has one, and is stored where it has none. -/
theorem exec_registerWrite_granted {core : CoreId} {addr : Nat} {v : Word} {s : State} (hruns : s.coreRuns core = true)
    (hgranted : s.granted core true (placeOf addr) = true) (hwins : s.writeLoses core (addr / 4 * 4) = false) :
    exec (.registerWrite core addr v) s
      = (ownWrite core (addr / 4 * 4) v (s.writeWins core (addr / 4 * 4))).getD
          (.next ((s.writeWins core (addr / 4 * 4)).storePlace core (addr / 4 * 4) v (placeOf addr))) := by
  change execRegisterWrite core addr v s = _
  simp only [execRegisterWrite, hruns, hgranted, hwins, Bool.not_true, Bool.false_eq_true, if_false]
  cases ownWrite core (addr / 4 * 4) v (s.writeWins core (addr / 4 * 4)) <;> rfl

/-- Steward TCM has no register with a row of its own. -/
theorem ownWrite_tcmSteward {core : CoreId} {addr off : Nat} {v : Word} {s : State} (hplace : placeOf addr = .tcmSteward off) :
    ownWrite core addr v s = none := by
  simp only [ownWrite, hplace]

/-- A read that is granted, of a register whose read has no row of its own, returns what its place reads as. -/
theorem exec_rcRegisterRead {core : CoreId} {addr : Nat} {s : State} (hruns : s.coreRuns core = true)
    (hgranted : s.granted core false (placeOf addr) = true) (hnow : addr / 4 * 4 ≠ 0x40000300) (htick : addr / 4 * 4 ≠ 0x40000744)
    (hdone0 : addr / 4 * 4 ≠ 0x41030040) (hdone1 : addr / 4 * 4 ≠ 0x41030140) :
    exec (.rcRegisterRead core addr) s = .next (s.readPlace core (placeOf addr)) := by
  change execRcRegisterRead core addr s = _
  simp only [execRcRegisterRead, hruns, hgranted, Bool.not_true, Bool.false_eq_true, hnow, htick, hdone0, hdone1, if_false]

/-- Steward TCM lies at the bottom of the address map (Table 1.5). -/
theorem lt_of_placeOf_tcmSteward {addr off : Nat} (hplace : placeOf addr = .tcmSteward off) : addr / 4 * 4 < 0x20000 := by
  simp only [placeOf] at hplace
  split at hplace
  · assumption
  · split_ifs at hplace

/-- Settles O50: requests by bank and state; accesses by their grant, writes by the row of the register, reads by the place. -/
theorem registerAndNvmAccess : Obligations.RegisterAndNvmAccess := by
  unfold Obligations.RegisterAndNvmAccess
  refine ⟨fun core s hruns => ⟨fun op hin => nvmProgramErase_answers core op s hruns hin, fun op hop => ?_, fun op hop => ?_, fun a m _ x hx => ?_⟩,
    fun core addr s => ⟨fun b off write habsent => ?_, fun hruns => ⟨fun hdenied => ⟨?_, fun v => exec_registerWrite_denied hruns hdenied⟩,
      fun hdenied => ?_, fun hgranted => ?_, fun v hgranted hwins => ⟨fun hnone => ?_, fun out hown => ?_⟩,
      fun v hgranted hloses => exec_registerWrite_loses hruns hgranted hloses, fun off hword hplace => ⟨fun v hwins => ?_, ?_⟩,
      fun off hplace hgranted hnow htick hdone0 hdone1 => ?_⟩, fun hstopped v => ⟨?_, ?_⟩, rfl, ?_⟩⟩
  · change execNvmOperationDone 0 s = _
    simp [execNvmOperationDone, onObject_pos, State.modCores, hop]
  · change execNvmOperationDone 1 s = _
    simp [execNvmOperationDone, onObject_pos, State.modCores, hop]
  · exact congrArg (fun b => [b]) (tget_mclear_outside hx m)
  · simp only [State.granted, habsent, Bool.not_true, Bool.false_and]
  · rw [exec_accessFault hruns, hdenied]
    rfl
  · change execRcRegisterRead core addr s = _
    simp [execRcRegisterRead, hruns, hdenied]
  · rw [exec_accessFault hruns, hgranted]
    rfl
  · rw [exec_registerWrite_granted hruns hgranted hwins, hnone]
    rfl
  · rw [exec_registerWrite_granted hruns hgranted hwins, hown]
    rfl
  · have hgranted : s.granted core true (placeOf addr) = true := by rw [hplace]; rfl
    rw [exec_registerWrite_granted hruns hgranted (by rw [hword]; exact hwins), hword, ownWrite_tcmSteward hplace, hplace]
    rfl
  · have hlow := lt_of_placeOf_tcmSteward hplace
    rw [exec_rcRegisterRead hruns (by rw [hplace]; rfl) (by omega) (by omega) (by omega) (by omega), hplace]
    rfl
  · rw [exec_rcRegisterRead hruns (by rw [hplace]; exact hgranted) hnow htick hdone0 hdone1, hplace]
    rfl
  · change execRegisterWrite core addr v s = _
    simp only [execRegisterWrite, hstopped, Bool.not_false, if_true]
  · change execRcRegisterRead core addr s = _
    simp only [execRcRegisterRead, hstopped, Bool.not_false, if_true]
  · exact ⟨_, event_frame ..⟩

end Sys2Proof.Machine
end

section
/-! SUPPORT. The fuse commands: what begins an operation, and the words of the arrays. -/

namespace Sys2Proof.Machine

theorem fuseBegin_free {s : State} (h : s.fus.op = none) (o : Outstanding) (op : FuseOp) :
    s.fuseBegin o op = s.fuseNext { op with opcode := o.opcode } := by
  simp only [State.fuseBegin, h, Option.isSome_none, Bool.false_eq_true, if_false]

theorem fuseBegin_busy {s : State} (h : s.fus.op.isSome = true) (o : Outstanding) (op : FuseOp) : s.fuseBegin o op = s.refuse o 1 :=
  if_pos h

/-- A word that is set keeps the bits it had and gains those of its data. -/
theorem fuseArray_setFuse_same (w : FuseWord) (s : State) :
    (s.setFuse w).fuseArray w.anti w.addr = s.fuseArray w.anti w.addr ||| w.data := by
  cases hanti : w.anti <;> simp [State.setFuse, State.fuseArray, State.modFus, hanti, tget_tset]

theorem fuseArray_setFuse_other {w : FuseWord} {anti : Bool} {a : Nat} (hother : ¬(anti = w.anti ∧ a = w.addr)) (s : State) :
    (s.setFuse w).fuseArray anti a = s.fuseArray anti a := by
  have hne (hanti : anti = w.anti) : a ≠ w.addr := fun ha => hother ⟨hanti, ha⟩
  cases hw : w.anti <;> cases anti <;> simp_all [State.setFuse, State.fuseArray, State.modFus, tget_tset]

/-- Every FUS.PROGRAM whose form is right comes to its checks with the words of its payload. -/
theorem exec_fusProgram {r : Req} {o : Outstanding} {s u : State} (hruns : Runs 0xD001 r o s u) (harray : byteAt o.payload 0 ≤ 1)
    (hlow : 1 ≤ u16 o.payload 4) (hhigh : u16 o.payload 4 ≤ 64) (hfits : o.fits (8 + 4 * u16 o.payload 4) [(1, 1), (6, 2)])
    (hmarker : markerFault o.payload = none)
    (hallowed : ((programWords o.payload).all fun w => u.programAllowed w.anti w.addr) = true)
    (hfinal : ((programWords o.payload).any fun w => programArea w.anti w.addr = 1 ∧ u.fuseArray w.anti (finalOf w.anti w.addr) ≠ 0) = false)
    (hclear : ((programWords o.payload).any fun w => u.fuseArray w.anti w.addr &&& ~~~w.data ≠ 0) = false)
    (huse : ((programWords o.payload).any fun w => w.anti ∧ programArea true w.addr = 2 ∧ u.keyInUse (w.addr - 0xC8)) = false) :
    exec (.fusProgram r) s = .next (u.fuseBegin o { cmd := o.ref, words := programWords o.payload }) := by
  have hlen : ¬o.payload.length < 8 := by rw [fits_length hfits]; omega
  change execFusProgram r s = _
  simp only [execFusProgram, command_runs hruns, hlen, if_false, hhigh, Nat.lt_of_lt_of_le Nat.zero_lt_one hlow, and_self, decide_true, if_true]
  rw [formedBy_fits hfits (by simp [harray]), hmarker]
  dsimp only
  rw [checks_pass (by rw [hallowed, hfinal, hclear, huse]; rfl)]

/-- FUS.FINALISE of a unit that can be finalised, whose FINAL marker is whole (R208). -/
theorem exec_fusFinalise_final {r : Req} {o : Outstanding} {s u : State} {anti : Bool} {a n : Nat} (hruns : Runs 0xD002 r o s u)
    (hfits : o.fits 4 [(1, 3)]) (hunit : unitOf (byteAt o.payload 0) = some (anti, a, n))
    (hcode : byteAt o.payload 0 ∈ [0x03, 0x04, 0x12, 0x13, 0x14, 0x15, 0x16, 0x17]) (hfinal : u.fuseArray anti (a + n + 4) = 0xFFFFFFFF#32) :
    exec (.fusFinalise r) s = .next (u.refuse o 3) := by
  change execFusFinalise r s = _
  simp only [execFusFinalise, command_runs hruns, wellFormed_fits hfits, hunit, hcode, not_true_eq_false, if_false, hfinal, if_true]

/-- FUS.FINALISE of a unit that is not: its digest words, then its FINAL marker (R207, R208). -/
theorem exec_fusFinalise_open {r : Req} {o : Outstanding} {s u : State} {anti : Bool} {a n : Nat} (hruns : Runs 0xD002 r o s u)
    (hfits : o.fits 4 [(1, 3)]) (hunit : unitOf (byteAt o.payload 0) = some (anti, a, n))
    (hcode : byteAt o.payload 0 ∈ [0x03, 0x04, 0x12, 0x13, 0x14, 0x15, 0x16, 0x17]) :
    let content := fuseBytes (if anti then u.fus.antifuse else u.fus.efuse) a n
    let dig := unitDigest (byteAt o.payload 0) content
    let words := (List.range 4).map fun k => ({ anti := anti, addr := a + n + k, data := (digestWords dig).getD k 0 } : FuseWord)
    u.fuseArray anti (a + n + 4) = 0#32 → (anti = false ∨ (content.all fun x => x = 0) = false) → u.fus.op = none →
    (words.any fun w => u.fuseArray anti w.addr &&& ~~~w.data ≠ 0) = false →
    exec (.fusFinalise r) s = .next (u.fuseNext
      { cmd := o.ref, opcode := 0xD002, words := words ++ [({ anti := anti, addr := a + n + 4, data := 0xFFFFFFFF#32 } : FuseWord)],
        subject := byteAt o.payload 0, digest := dig }) := by
  intro content dig words hfinal hcontent hfree hclear
  have hblank : ¬(anti = true ∧ (content.all fun x => x = 0) = true) := by
    rintro ⟨hanti, hzero⟩
    rcases hcontent with h | h
    · exact absurd (hanti.symm.trans h) (by decide)
    · exact absurd (hzero.symm.trans h) (by decide)
  change execFusFinalise r s = _
  simp only [execFusFinalise, command_runs hruns, wellFormed_fits hfits, hunit, hcode, not_true_eq_false, if_false, hfinal,
    show (0#32 : Word) = 0xFFFFFFFF#32 ↔ False by decide, show ((0#32 : Word) ≠ 0) ↔ False by decide, fuseBegin_free hfree, hruns.opcode]
  rw [if_neg hblank, hfree, Option.isSome_none, if_neg Bool.false_ne_true, if_neg (Bool.eq_false_iff.mp hclear)]

theorem exec_fusFinalise_otherUnit {r : Req} {o : Outstanding} {s u : State} (hruns : Runs 0xD002 r o s u) (hfits : o.fits 4 [(1, 3)])
    (hcode : byteAt o.payload 0 ∉ [0x03, 0x04, 0x12, 0x13, 0x14, 0x15, 0x16, 0x17]) : exec (.fusFinalise r) s = .next (u.refuse o 2) := by
  change execFusFinalise r s = _
  simp only [execFusFinalise, command_runs hruns, wellFormed_fits hfits, hcode, not_false_eq_true, if_true]
  cases unitOf (byteAt o.payload 0) <;> rfl

/-- A transition whose checks pass, at the window check of its marker (R196, R203). -/
theorem exec_fusSetLifecycle {r : Req} {o : Outstanding} {s u : State} (hruns : Runs 0xD003 r o s u) (hfits : o.fits 20 [(1, 3)])
    (hlow : 1 ≤ byteAt o.payload 0) (hhigh : byteAt o.payload 0 ≤ 5) :
    exec (.fusSetLifecycle r) s = .next (u.checks o
      [(slice o.payload 4 16 ≠ u.devid, 0x000B), (!transitionListed u.lifecycle (byteAt o.payload 0), 0x000C),
       (!u.transitionReady (byteAt o.payload 0), 0x000D), (u.fus.op.isSome, 0x0001)] fun s =>
        if !s.fuseWindow.1 then s.fuseWindow.2.respond o cFusWindow []
        else (if byteAt o.payload 0 = 4 ∨ byteAt o.payload 0 = 5 then s.fuseWindow.2.zeroizeNotes else s.fuseWindow.2).fuseBegin o
          (if fuseWord s.fus.efuse (markerOf (byteAt o.payload 0)) = 0xFFFFFFFF then { cmd := o.ref, words := [], subject := byteAt o.payload 0 }
           else { cmd := o.ref, words := [{ anti := false, addr := markerOf (byteAt o.payload 0), data := 0xFFFFFFFF#32 }],
                  subject := byteAt o.payload 0 })) := by
  have hdst : ¬(byteAt o.payload 0 = 0 ∨ 5 < byteAt o.payload 0) := by omega
  change execFusSetLifecycle r s = _
  simp only [execFusSetLifecycle, command_runs hruns]
  rw [formedBy_fits hfits (by simp [hdst])]

/-- A bump whose target is one that a thermometer can have (R201). -/
theorem exec_fusBumpCounter {r : Req} {o : Outstanding} {s u : State} (hruns : Runs 0xD004 r o s u) (hfits : o.fits 4 [(2, 2)])
    (hcounter : byteAt o.payload 0 ≤ 63 ∨ byteAt o.payload 0 ∈ [0x80, 0x81, 0x82]) (hlow : 1 ≤ byteAt o.payload 1) (hhigh : byteAt o.payload 1 ≤ 64) :
    exec (.fusBumpCounter r) s = .next (if u.bumpRollsBack (byteAt o.payload 0) (byteAt o.payload 1) then u.refuse o 0x000E
      else u.fuseBegin o
        { cmd := o.ref,
          words := bumpWords (counterAt (byteAt o.payload 0)).1 (counterAt (byteAt o.payload 0)).2
            (thermoBits (if (counterAt (byteAt o.payload 0)).1 then u.fus.antifuse else u.fus.efuse) (counterAt (byteAt o.payload 0)).2)
            (byteAt o.payload 1),
          subject := byteAt o.payload 0, before := u.counterLive (byteAt o.payload 0) }) := by
  have hlisted : ¬(63 < byteAt o.payload 0 ∧ byteAt o.payload 0 ∉ [0x80, 0x81, 0x82]) := by
    rintro ⟨hhigh, hother⟩
    exact hcounter.elim (fun h => by omega) hother
  have htarget : ¬(byteAt o.payload 1 = 0 ∨ 64 < byteAt o.payload 1) := by omega
  change execFusBumpCounter r s = _
  simp only [execFusBumpCounter, command_runs hruns]
  rw [formedBy_fits hfits (by simp only [List.forall_mem_cons, decide_eq_false hlisted, decide_eq_false htarget]; simp)]

/-- Settles O51: the commands by their checks and what they begin, a word by its verification. -/
theorem fuseCommands : Obligations.FuseCommands := by
  unfold Obligations.FuseCommands
  intro r o s u
  dsimp only
  refine ⟨fun hruns hfits harray hword hlow hhigh hend => ?_, fun a hlow hhigh => ?_,
    fun hruns harray hlow hhigh hfits hmarker hallowed hfinal hclear huse => ?_,
    fun hruns hfits => ⟨fun anti a n hunit hcode => ⟨exec_fusFinalise_final hruns hfits hunit hcode, exec_fusFinalise_open hruns hfits hunit hcode⟩,
      exec_fusFinalise_otherUnit hruns hfits⟩,
    fun hruns hfits hlow hhigh => ?_, fun hruns hfits hcounter hlow hhigh => ?_, fun x op w rest hop hwords => ⟨?_, ?_, fuseArray_setFuse_same w x,
      fun anti a hother => fuseArray_setFuse_other hother x⟩⟩
  · change execFusRead r s = _
    simp only [execFusRead, command_runs hruns]
    rw [formedBy_fits hfits (by simp; omega)]
    rfl
  · have hsecret : secretWord a = true := decide_eq_true ⟨hlow, hhigh⟩
    simp only [State.readFuse, hsecret, if_true]
    rfl
  · rw [exec_fusProgram hruns harray hlow hhigh hfits hmarker hallowed hfinal hclear huse]
    exact ⟨fun hbusy => by rw [fuseBegin_busy hbusy], fun hfree => by rw [fuseBegin_free hfree, hruns.opcode]⟩
  · rw [exec_fusSetLifecycle hruns hfits hlow hhigh]
    generalize byteAt o.payload 0 = dst at *
    refine ⟨fun hdevid => ?_, fun hdevid hlisted => ?_, fun hdevid hlisted hready hfree => ?_⟩
    · rw [checks_fail (by rw [decide_eq_true hdevid]; rfl)]
    · rw [checks_fail (d := 0x0C) (by rw [hdevid, hlisted, decide_eq_false (not_not_intro rfl)]; rfl)]
    · rw [checks_pass (by rw [hdevid, hlisted, hready, hfree, decide_eq_false (not_not_intro rfl)]; rfl)]
      refine ⟨fun hwindow => ?_, fun hwindow hdst hblank => ?_, fun hwindow hdst hblank => ?_⟩
      · simp only [hwindow, Bool.not_false, if_true]
        rfl
      · have hkept : ¬(dst = 4 ∨ dst = 5) := by omega
        simp only [hwindow, Bool.not_true, Bool.false_eq_true, if_false, hkept, markerOf, hblank]
      · simp only [hwindow, Bool.not_true, Bool.false_eq_true, if_false, hdst, if_true, markerOf, hblank]
  · rw [exec_fusBumpCounter hruns hfits hcounter hlow hhigh]
    refine ⟨fun hback => by rw [hback]; rfl, fun hforth hfree => ?_⟩
    rw [hforth, if_neg Bool.false_ne_true, fuseBegin_free hfree, hruns.opcode]
  · change execFuseWordDone true x = _
    simp only [execFuseWordDone, hop, hwords, if_true]
  · change execFuseWordDone false x = _
    simp only [execFuseWordDone, hop, hwords, Bool.false_eq_true, if_false]

end Sys2Proof.Machine
end

section
/-! SUPPORT. The key commands: what fills a slot and what refuses it, and a Swirl pass, which keeps every value. -/

namespace Sys2Proof.Machine

/-! ## The Swirl -/

/-- Two strings masked with one mask as long have the sum that they had. -/
theorem xorBytes_mask (a b m : Bytes) (ha : a.length ≤ m.length) (hb : b.length ≤ m.length) :
    xorBytes (xorBytes a m) (xorBytes b m) = xorBytes a b := by
  induction m generalizing a b with
  | nil => simp_all [xorBytes]
  | cons z m ih =>
    cases a with
    | nil => rfl
    | cons x a =>
      cases b with
      | nil => rfl
      | cons y b =>
        have hrest := ih a b (by simpa using ha) (by simpa using hb)
        have hbyte : (x ^^^ z) ^^^ (y ^^^ z) = x ^^^ y := by
          rw [BitVec.xor_comm y z, BitVec.xor_assoc, ← BitVec.xor_assoc z z y, BitVec.xor_self, BitVec.zero_xor]
        simp only [xorBytes, List.zipWith_cons_cons] at hrest ⊢
        rw [hrest, hbyte]

/-- A sized string of the length asked for is itself. -/
theorem sized_of_length {n : Nat} {b : Bytes} (h : b.length = n) : sized n b = b := by
  rw [sized, ← h, List.take_left']
  rfl

/-- A slot whose shares are whole keeps its key when it is re-masked (R288). -/
theorem key_remask {m : Bytes} {k : Slot} (hm : m.length = 64) (ha : k.shareA.length = 64) (hb : k.shareB.length = 64) : (k.remask m).key = k.key := by
  simp only [Slot.key, Slot.remask, sized_of_length ha, sized_of_length hb]
  rw [xorBytes_mask _ _ _ (by omega) (by omega)]

theorem tget_map_of_mem {α : Type} (d : α) (f : Nat → α) {ks : List Nat} {k : Nat} (h : k ∈ ks) : tget d (ks.map fun i => (i, f i)) k = f k := by
  induction ks with
  | nil => exact absurd h List.not_mem_nil
  | cons i ks ih =>
    by_cases hik : i = k
    · simp [tget, hik]
    · have hmem : k ∈ ks := (List.mem_cons.1 h).resolve_left (Ne.symm hik)
      simpa [tget, hik] using ih hmem

/-- A pass re-masks the slots as they stand and counts itself. -/
theorem execSwirlPass_next (x : State) : ∃ (y : State) (n base : Nat), y.flc.slots = x.flc.slots ∧ y.flc.passes = x.flc.passes
    ∧ exec .swirlPass x = .next (y.modFlc fun f =>
        { f with slots := (List.range 128).map (fun k => (k, (tget ({} : Slot) f.slots k).remask (passMask base k))),
                 maskStale := !x.drbgReady, swirlRun := n, passes := (f.passes + 1) % 65536 }) := by
  refine ⟨_, _, _, ?_, ?_, rfl⟩
  all_goals split_ifs <;> simp [State.freeVal]

/-- What a pass leaves of a slot whose shares are whole (R288, R290). -/
theorem exec_swirlPass (x : State) : ∃ t, exec .swirlPass x = .next t ∧ t.flc.passes = (x.flc.passes + 1) % 65536 ∧ t.flc.maskStale = !x.drbgReady
    ∧ ∀ k, k < 128 → (x.slot k).shareA.length = 64 → (x.slot k).shareB.length = 64 →
        t.slotKey k = x.slotKey k ∧ (t.slot k).attr = (x.slot k).attr := by
  obtain ⟨y, n, base, hslots, hpasses, hexec⟩ := execSwirlPass_next x
  refine ⟨_, hexec, by rw [State.modFlc_flc, hpasses], rfl, fun k hk ha hb => ?_⟩
  have hslot : (y.modFlc fun f =>
      { f with slots := (List.range 128).map (fun k => (k, (tget ({} : Slot) f.slots k).remask (passMask base k))),
               maskStale := !x.drbgReady, swirlRun := n, passes := (f.passes + 1) % 65536 }).slot k = (x.slot k).remask (passMask base k) := by
    rw [State.slot, State.modFlc_flc, tget_map_of_mem _ _ (List.mem_range.2 hk), hslots]
    rfl
  rw [State.slotKey, hslot]
  exact ⟨key_remask (fit_length ..) ha hb, rfl⟩

theorem nextTick_mod (p t : Nat) : nextTick p t % p = 0 := Nat.mul_mod_left ..

theorem lt_nextTick {p : Nat} (hp : 0 < p) (t : Nat) : t < nextTick p t := by
  rw [nextTick, Nat.add_mul, Nat.one_mul]
  have := Nat.mod_lt t hp
  have := Nat.div_add_mod' t p
  omega

/-! ## Filling a slot -/

/-- KEY.GENERATE of a random key, up to its checks (R276). -/
theorem exec_keyGenerate {r : Req} {o : Outstanding} {s u : State} (hruns : Runs 0x5000 r o s u) (hlen : 12 ≤ o.payload.length)
    (hn : byteAt o.payload 0 ≤ 105) (hmode : byteAt o.payload 1 = 0) (hparent : byteAt o.payload 2 = 0) (hzero : byteAt o.payload 3 = 0)
    (hattr : attrFault o.payload 4 = none) (hlabel : u16 o.payload 8 = 0) (hctx : u16 o.payload 10 = 0) (hfits : o.fits 12 []) :
    exec (.keyGenerate r) s = .next (u.checks o
      [(systemSlot (byteAt o.payload 0), 0x0003), (u.slotTaken (byteAt o.payload 0), 0x0001), (destReserved (u32 o.payload 4), 0x000C)] fun s =>
        s.withDrbg o false fun s => if hasPublic (u32 o.payload 4) then s.needsCrypto o (State.keyGenerate o) else s.keyGenerate o) := by
  have hlen' : ¬o.payload.length < 12 := by omega
  have hn' : ¬127 < byteAt o.payload 0 := by omega
  change execKeyGenerate r s = _
  simp [execKeyGenerate, command_runs hruns, hlen', hn', hmode, hparent, hzero, hattr, hlabel, hctx, wellFormed_fits hfits]
  rfl

/-- The fill of a random key (R277). -/
theorem keyGenerate_unopposed {o : Outstanding} {u : State} (hmode : byteAt o.payload 1 = 0) (hown : u.unopposed [objSlot (byteAt o.payload 0)]) :
    let n := byteAt o.payload 0
    let a := u32 o.payload 4
    let g := u.generate (keyInput (bits a 20 18) (bits a 24 21))
    let key := keyOfKind (bits a 20 18) (bits a 24 21) g.1
    let v := g.2.fillByCommand o 0x5000 n a key
    u.keyGenerate o = v.respond o cOk (le 4 (v.slot n).attr ++ le 2 (publicHalf (bits a 20 18) key).length ++ zeros 2 ++ publicHalf (bits a 20 18) key) := by
  simp only [State.keyGenerate, order_unopposed hown, State.generated, hmode, if_true]
  rfl

/-- KEY.IMPORT of a plain key of the length that its ATTR states, up to its checks (R280). -/
theorem exec_keyImport_plain {r : Req} {o : Outstanding} {s u : State} (hruns : Runs 0x5001 r o s u) (hlen : 12 ≤ o.payload.length)
    (hn : byteAt o.payload 0 ≤ 105) (hmode : byteAt o.payload 1 = 0) (hkek : byteAt o.payload 2 = 0) (hzero : byteAt o.payload 3 = 0)
    (hattr : attrFault o.payload 4 = none) (hklen : u16 o.payload 8 = 4 * (bits (u32 o.payload 4) 24 21 + 1))
    (hfits : o.fits (12 + u16 o.payload 8) [(10, 2)]) (hscalar : scalarInRange (bits (u32 o.payload 4) 20 18) (o.payload.drop 12) = true) :
    exec (.keyImport r) s = .next (u.checks o
      [(systemSlot (byteAt o.payload 0), 0x0003), (u.slotTaken (byteAt o.payload 0), 0x0001), (destReserved (u32 o.payload 4), 0x000C)]
      (State.importPlain o)) := by
  have hlen' : ¬o.payload.length < 12 := by omega
  have hn' : ¬127 < byteAt o.payload 0 := by omega
  rw [hklen] at hfits
  change execKeyImport r s = _
  simp [execKeyImport, command_runs hruns, hlen', hn', hmode, hkek, hzero, hattr, hklen, wellFormed_fits hfits, hscalar]

/-- KEY.IMPORT of a well-formed blob, up to its checks (R280). -/
theorem exec_keyImport_blob {r : Req} {o : Outstanding} {s u : State} (hruns : Runs 0x5001 r o s u) (hlen : 12 ≤ o.payload.length)
    (hn : byteAt o.payload 0 ≤ 105) (hmode : byteAt o.payload 1 = 1) (hkek : byteAt o.payload 2 ≤ 127) (hzero : byteAt o.payload 3 = 0)
    (hattr : u32 o.payload 4 &&& 0x13FFC = u32 o.payload 4) (hfits : o.fits (12 + u16 o.payload 8) [(10, 2)])
    (hblob : blobFault (o.payload.drop 12) = none) :
    exec (.keyImport r) s = .next (u.checks o
      [(systemSlot (byteAt o.payload 0), 0x0003), (u.slotTaken (byteAt o.payload 0), 0x0001), (destReserved (u32 o.payload 4), 0x000C)] fun s =>
        if !s.slotValid (byteAt o.payload 2) then s.refuse o 0x0002
        else if rankMissing (u.slot (byteAt o.payload 2)).attr o.port then s.respond o cRank []
        else if !kekUsable (u.slot (byteAt o.payload 2)).attr then s.refuse o 0x0007
        else s.importBlob o) := by
  have hlen' : ¬o.payload.length < 12 := by omega
  have hn' : ¬127 < byteAt o.payload 0 := by omega
  have hkek' : ¬127 < byteAt o.payload 2 := by omega
  change execKeyImport r s = _
  simp [execKeyImport, command_runs hruns, hlen', hn', hmode, hkek', hzero, hattr, wellFormed_fits hfits, hblob]

/-- The fill of a blob is what its KEK opens it to. -/
theorem importBlob_eq (o : Outstanding) (u : State) :
    u.importBlob o =
      (gcmOpen (u.slotKey (byteAt o.payload 2)) (slice (o.payload.drop 12) 8 12) ((o.payload.drop 12).take 24)
          (slice (o.payload.drop 12) 24 (u16 (o.payload.drop 12) 20)) ((o.payload.drop 12).drop (24 + u16 (o.payload.drop 12) 20))).elim
        (u.refuse o 9) fun key => u.order o [objSlot (byteAt o.payload 0)] fun s =>
          let v := s.fillByCommand o 0x5001 (byteAt o.payload 0)
            ((u32 (o.payload.drop 12) 4 &&& u32 o.payload 4 &&& 0x13FFC) + (u32 (o.payload.drop 12) 4 &&& 0x1FC0000) + 3 * 16384) key
          v.respond o cOk (le 4 (v.slot (byteAt o.payload 0)).attr) := by
  simp only [State.importBlob]
  cases gcmOpen (u.slotKey (byteAt o.payload 2)) (slice (o.payload.drop 12) 8 12) ((o.payload.drop 12).take 24)
    (slice (o.payload.drop 12) 24 (u16 (o.payload.drop 12) 20)) ((o.payload.drop 12).drop (24 + u16 (o.payload.drop 12) 20)) <;> rfl

theorem systemSlot_false {n : Nat} (h : n ≤ 105) : systemSlot n = false := decide_eq_false (by omega)

theorem systemSlot_true {n : Nat} (h : 106 ≤ n) : systemSlot n = true := decide_eq_true h

/-! ## Wrapping, destroying, reading -/

/-- KEY.WRAP of a filled slot under a filled KEK, both of a rank that the port holds, up to its checks (R279). -/
theorem exec_keyWrap {r : Req} {o : Outstanding} {s u : State} (hruns : Runs 0x5002 r o s u) (hfits : o.fits 4 [(2, 2)])
    (hn : byteAt o.payload 0 ≤ 127) (hk : byteAt o.payload 1 ≤ 127) :
    exec (.keyWrap r) s = .next
      (if !u.slotValid (byteAt o.payload 0) ∨ !u.slotValid (byteAt o.payload 1) then u.refuse o 0x0002
       else if rankMissing (u.slot (byteAt o.payload 0)).attr o.port ∨ rankMissing (u.slot (byteAt o.payload 1)).attr o.port then u.respond o cRank []
       else u.checks o [(!kekUsable (u.slot (byteAt o.payload 1)).attr, 0x0007), (!bit (u.slot (byteAt o.payload 0)).attr 16, 0x0008)] fun s =>
         s.withDrbg o false fun s =>
           let g := s.generate 12
           let key := g.2.slotKey (byteAt o.payload 0)
           let head := ascii "TXKW" ++ le 4 ((u.slot (byteAt o.payload 0)).attr &&& attrRequest) ++ g.1 ++ le 2 key.length ++ zeros 2
           let sealed := gcmSeal (g.2.slotKey (byteAt o.payload 1)) g.1 head key
           g.2.respond o cOk (head ++ sealed.1 ++ sealed.2)) := by
  change execKeyWrap r s = _
  simp only [execKeyWrap, command_runs hruns]
  rw [formedBy_fits hfits (by simp; omega)]
  rfl

/-- KEY.DESTROY (R292, R293). -/
theorem exec_keyDestroy {r : Req} {o : Outstanding} {s u : State} (hruns : Runs 0x5003 r o s u) (hfits : o.fits 4 [(1, 3)])
    (hn : byteAt o.payload 0 ≤ 127) :
    exec (.keyDestroy r) s = .next
      (if systemSlot (byteAt o.payload 0) then u.refuse o 0x0003
       else if rankMissing (u.slot (byteAt o.payload 0)).attr o.port then u.respond o cRank []
       else u.order o [objSlot (byteAt o.payload 0)] fun s =>
         ((if s.slotValid (byteAt o.payload 0)
           then ((s.cryptoDestroyed (byteAt o.payload 0)).emptySlot (byteAt o.payload 0)).event 2 0 0x0302 (byteAt o.payload 0)
           else s).takesEffect o.port 0x5003 [objSlot (byteAt o.payload 0)]).respond o cOk []) := by
  change execKeyDestroy r s = _
  simp only [execKeyDestroy, command_runs hruns]
  rw [formedBy_fits hfits (by simp; omega)]
  refine congrArg Host.Outcome.next ?_
  split_ifs
  · rfl
  · rfl
  · refine congrArg (fun body => u.order o [objSlot (byteAt o.payload 0)] body) (funext fun s => ?_)
    cases s.slotValid (byteAt o.payload 0) <;> rfl

/-- An emptied slot is not filled. -/
theorem slotValid_emptySlot (n : Nat) (s : State) : (s.emptySlot n).slotValid n = false := by
  rw [State.slotValid, slot_emptySlot_self]
  rfl

theorem exec_keyGetAttr {r : Req} {o : Outstanding} {s u : State} (hruns : Runs 0x5004 r o s u) (hfits : o.fits 4 [(1, 3)])
    (hn : byteAt o.payload 0 ≤ 127) :
    exec (.keyGetAttr r) s = .next
      (let k : Slot := if u.slotValid (byteAt o.payload 0) then u.slot (byteAt o.payload 0) else {}
       u.respond o cOk (le 4 k.attr ++ le 8 k.baton ++ le 1 k.port ++ zeros 3)) := by
  change execKeyGetAttr r s = _
  simp only [execKeyGetAttr, command_runs hruns]
  rw [formedBy_fits hfits (by simp; omega)]
  rfl

/-- KEY.PROVENANCE of a key slot that is filled, while the cluster runs (R286). -/
theorem exec_keyProvenance {r : Req} {o : Outstanding} {s u : State} (hruns : Runs 0x5005 r o s u) (hfits : o.fits 36 [(1, 3)])
    (hn : byteAt o.payload 0 ≤ 105) (hvalid : u.slotValid (byteAt o.payload 0) = true)
    (hrank : rankMissing (u.slot (byteAt o.payload 0)).attr o.port = false) (hdrain : u.draining dCrypto = false) (hon : u.domainOn dCrypto = true) :
    let g := u.generate 48
    let text := u.provenance (byteAt o.payload 0) (slice o.payload 4 32)
    exec (.keyProvenance r) s = .next (g.2.respond o cOk (text ++ sign sEcdsa384 96 (g.2.slotKey 122) (sha (ascii "TXI-PRV" ++ text)) g.1)) := by
  change execKeyProvenance r s = _
  simp only [execKeyProvenance, command_runs hruns]
  rw [formedBy_fits hfits (by simp; omega)]
  simp only [hn, true_or, not_true_eq_false, if_false, hvalid, hrank, Bool.not_true, Bool.false_eq_true, and_false, needsCrypto_on hdrain hon]
  rfl

/-- Settles O52: each command by its checks and its fill; the Swirl by the masks that cancel. -/
theorem keyCommands : Obligations.KeyCommands := by
  unfold Obligations.KeyCommands
  intro r o s u
  dsimp only
  refine ⟨fun hruns hlen hn hmode hparent hzero hattr hlabel hctx hfits => ⟨fun htaken => ?_, fun hfree hdest hready hdue hpub =>
      ⟨?_, fun hown => keyGenerate_unopposed hmode hown⟩⟩,
    fun hruns hlen hn hmode hkek hzero hattr hklen hfits hscalar => ⟨fun htaken => ?_, fun hfree hdest hown => ?_⟩,
    fun hruns hlen hn hmode hkek hzero hattr hfits hblob hfree hdest => ⟨fun hempty => ?_, fun hvalid hrank husable => ?_⟩,
    fun hruns hfits hn hk => ⟨fun hempty => ?_, fun hvalid hkvalid hrank hkrank => ⟨fun husable => ?_, fun husable hexport hready hdue => ?_⟩⟩,
    fun hruns hfits => ⟨fun hsystem hn => ?_, fun hn hrank => ?_, fun hn hrank hown => ?_⟩, slotValid_emptySlot,
    fun hruns hfits hn => ?_, exec_keyProvenance, fun hruns hfits hlow hhigh hnow => ⟨?_, nextTick_mod .., lt_nextTick (by positivity) _⟩,
    exec_swirlPass⟩
  · rw [exec_keyGenerate hruns hlen hn hmode hparent hzero hattr hlabel hctx hfits, checks_fail (by rw [systemSlot_false hn, htaken]; rfl)]
  · rw [exec_keyGenerate hruns hlen hn hmode hparent hzero hattr hlabel hctx hfits, checks_pass (by rw [systemSlot_false hn, hfree, hdest]; rfl),
      withDrbg_ready hready hdue, hpub]
    rfl
  · rw [exec_keyImport_plain hruns hlen hn hmode hkek hzero hattr hklen hfits hscalar, checks_fail (by rw [systemSlot_false hn, htaken]; rfl)]
  · rw [exec_keyImport_plain hruns hlen hn hmode hkek hzero hattr hklen hfits hscalar,
      checks_pass (by rw [systemSlot_false hn, hfree, hdest]; rfl)]
    simp only [State.importPlain, order_unopposed hown]
    rfl
  · rw [exec_keyImport_blob hruns hlen hn hmode hkek hzero hattr hfits hblob, checks_pass (by rw [systemSlot_false hn, hfree, hdest]; rfl), hempty]
    rfl
  · rw [exec_keyImport_blob hruns hlen hn hmode hkek hzero hattr hfits hblob, checks_pass (by rw [systemSlot_false hn, hfree, hdest]; rfl)]
    simp only [hvalid, hrank, husable, Bool.not_true, Bool.false_eq_true, if_false, importBlob_eq]
    exact ⟨fun hopened => by rw [hopened]; rfl, fun key hopened hown => by rw [hopened, Option.elim_some, order_unopposed hown]⟩
  · rw [exec_keyWrap hruns hfits hn hk, if_pos (by simpa using hempty)]
  · rw [exec_keyWrap hruns hfits hn hk, if_neg (by simp [hvalid, hkvalid]), if_neg (by simp [hrank, hkrank]), checks_fail (by rw [husable]; rfl)]
  · rw [exec_keyWrap hruns hfits hn hk, if_neg (by simp [hvalid, hkvalid]), if_neg (by simp [hrank, hkrank]),
      checks_pass (by rw [husable, hexport]; rfl), withDrbg_ready hready hdue]
  · rw [exec_keyDestroy hruns hfits hn, systemSlot_true hsystem]
    rfl
  · rw [exec_keyDestroy hruns hfits (by omega), systemSlot_false hn, hrank]
    rfl
  · rw [exec_keyDestroy hruns hfits (by omega), systemSlot_false hn, hrank, if_neg Bool.false_ne_true, if_neg Bool.false_ne_true, order_unopposed hown]
    exact ⟨fun hempty => by rw [hempty]; rfl, fun hvalid => by rw [hvalid]; rfl⟩
  · rw [exec_keyGetAttr hruns hfits hn]
    exact ⟨fun hvalid => by rw [hvalid]; rfl, fun hempty => by simp only [hempty, Bool.false_eq_true, if_false]; rfl⟩
  · change execKeySetSwirl r s = _
    simp only [execKeySetSwirl, command_runs hruns]
    rw [formedBy_fits hfits (by simp; omega)]
    rfl

end Sys2Proof.Machine
end

section
/-! SUPPORT. Crypto jobs: the submission of a hash, the start and the end of a job, and the claim timer. -/

namespace Sys2Proof.Machine

/-! ## Hashes -/

/-- What CRY.SUBMIT asks of an algorithm, for the hashes of Table 8.3. -/
theorem hash_facts {alg : Nat} (h : alg ∈ [0x10, 0x11, 0x12, 0x13, 0x14]) (op n : Nat) (d : Bytes) :
    algKeyed alg op = false ∧ dataSuits alg n = true ∧ hmacFiltered alg d = false ∧ algEngine alg = 3 ∧ alg ≠ 0x28
      ∧ ¬(alg = 0x20 ∨ alg = 0x21) := by
  have hrange : 0x10 ≤ alg ∧ alg ≤ 0x14 := by simp at h; omega
  obtain ⟨hlow, hhigh⟩ := hrange
  refine ⟨?_, ?_, ?_, ?_, by omega, by omega⟩
  · simp [algKeyed, hlow, hhigh]
  · simp [dataSuits, show ¬(alg = 1 ∨ alg = 2) by omega, show alg ≠ 5 by omega,
      show ¬(alg = 0x1C ∨ alg = 0x1D ∨ alg = 0x22 ∨ alg = 0x23) by omega, show alg ≠ 0x20 by omega, show alg ≠ 0x21 by omega,
      show alg ≠ 0x2C by omega]
  · simp [hmacFiltered, show ¬(0x18 ≤ alg) by omega]
  · simp only [algEngine, show ¬alg ≤ 6 by omega, show alg ≤ 0x1D by omega, if_true, if_false]

/-- The job that a hash becomes. -/
def Outstanding.hashJob (o : Outstanding) : Job :=
  { cmd := some o.ref, alg := byteAt o.payload 0, op := byteAt o.payload 1, keySlot := 0xFF, outAttr := u32 o.payload 8, outOff := u32 o.payload 24,
    engine := 3, param := (o.payload.drop 32).take (u16 o.payload 12), data := (o.payload.drop 32).drop (u16 o.payload 12), accepted := o.edge,
    rank := o.port.rank }

/-- CRY.SUBMIT of a hash, up to the domain and the job slots. -/
theorem exec_crySubmit_hash {r : Req} {o : Outstanding} {s u : State} (hruns : Runs 0x6000 r o s u)
    (hform : descriptorFault o.port o.payload = none) (hflags : byteAt o.payload 3 = 0)
    (halg : byteAt o.payload 0 ∈ [0x10, 0x11, 0x12, 0x13, 0x14])
    (hparam : paramSuits (byteAt o.payload 0) (byteAt o.payload 1) ((o.payload.drop 32).take (u16 o.payload 12)) = true)
    (hdrain : u.draining dCrypto = false) :
    exec (.crySubmit r) s = .next
      (if !u.domainOn dCrypto then u.refuse o 0x0010
       else u.checks o [(decide (o.port ≠ .kpr) && ((u.freeJobSlot [0, 1, 2, 3, 4, 5]).isNone || !u.cry.waiting.isEmpty), 0x0001)] fun s =>
         s.order o [] fun s => (s.freeJobSlot (if o.port = .kpr then [6, 7, 0, 1, 2, 3, 4, 5] else [0, 1, 2, 3, 4, 5])).elim (s.setOut { o with progress := .accepted })
           fun j => s.modCry fun c => { c with jobs := tins c.jobs j o.hashJob }) := by
  obtain ⟨hkeyed, hdata, hfilter, hengine, hverify, hsign⟩ := hash_facts halg (byteAt o.payload 1)
    ((o.payload.drop 32).drop (u16 o.payload 12)).length ((o.payload.drop 32).drop (u16 o.payload 12))
  change execCrySubmit r s = _
  simp only [execCrySubmit, command_runs hruns, hform, hflags, show bit 0 0 = false from rfl, show bit 0 1 = false from rfl, Bool.false_eq_true,
    if_false, hverify, decide_false, Bool.and_false, Bool.not_false, Bool.not_true, hparam, hdata, and_false, false_and, hdrain, hkeyed, or_self,
    hsign, Bool.false_and, hengine, hfilter]
  refine congrArg Host.Outcome.next (congrArg (fun body => if !u.domainOn dCrypto then u.refuse o 0x0010
    else u.checks o [(decide (o.port ≠ .kpr) && ((u.freeJobSlot [0, 1, 2, 3, 4, 5]).isNone || !u.cry.waiting.isEmpty), 0x0001)] fun s =>
      s.order o [] body) (funext fun s => ?_))
  cases s.freeJobSlot (if o.port = .kpr then [6, 7, 0, 1, 2, 3, 4, 5] else [0, 1, 2, 3, 4, 5]) <;> rfl

/-! ## Start and end of a job -/

/-- The start of a job that finds its engine and, where it takes one, its key (R311, R314). -/
theorem exec_jobStart {k e : Nat} {j : Job} {s : State} (hjob : tfind s.cry.jobs k = some j) (hqueued : j.started = none)
    (hengine : s.startEngine j = some e) :
    let v := s.advanceTo (max j.accepted (tget 0 s.cry.freed e) + 1)
    exec (.jobStart k) s = .next
      (if (j.cmd.isSome && algKeyed j.alg j.op) && !s.slotValid j.keySlot then
         v.stopJob k cState (le 2 (if s.vlt.dqSeen then 0x00D0 else 0x00D1) ++ zeros 2)
       else
         let key := if j.cmd.isSome && algKeyed j.alg j.op then s.slotKey j.keySlot else []
         let w := v.modCry fun c => { c with jobs := tins c.jobs k { j with engine := e, started := some v.now, key := key } }
         if j.cmd.isSome && algKeyed j.alg j.op then
           w.modFlc fun f =>
             let slot := tget {} f.slots j.keySlot
             { f with slots := tset {} f.slots j.keySlot { slot with attr := slot.attr ||| 2 ^ 25 } }
         else w) := by
  change execJobStart k s = _
  simp only [execJobStart, hjob, hqueued, hengine, Option.isSome_none, Bool.false_eq_true, if_false]
  rfl

/-- A mask's bit is set once the mask is or-ed in. -/
theorem bit_or_two_pow (a i : Nat) : bit (a ||| 2 ^ i) i = true := by simp [bit]

/-- The end of a running job on its exact edge, while the cluster does not drain (R316, R326). -/
theorem exec_jobComplete {k e n : Nat} {j : Job} {c : CmdRef} {s : State} (hjob : tfind s.cry.jobs k = some j) (hstarted : j.started = some e)
    (hcmd : j.cmd = some c) (hcycles : jobCycles j.alg j.op (bits (s.slot j.keySlot).attr 24 21) j.param j.data.length = some n)
    (hdrain : s.draining dCrypto = false) :
    exec (.jobComplete k) s = .next
      (if j.draws && !s.drbgReady then (s.advanceTo (e + n)).stopJob k cState (le 2 0x000A ++ zeros 2)
       else (s.advanceTo (e + n)).finishJob k j e n c) := by
  have hstays : (s.advanceTo (e + n)).draining dCrypto = false := hdrain
  change execJobComplete k s = _
  simp only [execJobComplete, hjob, hstarted, hcmd, hcycles, hstays, Bool.false_eq_true, false_and, if_false, Option.getD_some]
  rfl

theorem exec_cryCancel {r : Req} {o : Outstanding} {s u : State} (hruns : Runs 0x6002 r o s u) (hfits : o.fits 4 [(2, 2)]) :
    exec (.cryCancel r) s = .next (((u.findJob o (u16 o.payload 0)).filter fun x => !u.jobOver x.2).elim (u.respond o cOk (zeros 4)) fun x =>
      (u.stopJob x.1 cState (le 2 0x0020 ++ zeros 2)).respond o cOk (le 1 (if x.2.started.isSome then 2 else 1) ++ zeros 3)) := by
  change execCryCancel r s = _
  simp only [execCryCancel, command_runs hruns, wellFormed_fits hfits]
  cases (u.findJob o (u16 o.payload 0)).filter fun x => !u.jobOver x.2 <;> rfl

/-! ## The claim timer -/

/-- A run of steps that each leave the count leaves it. -/
theorem foldl_now {α : Type} {f : State → α → State} (hf : ∀ s x, (f s x).now = s.now) (l : List α) (s : State) : (l.foldl f s).now = s.now := by
  induction l generalizing s with
  | nil => rfl
  | cons x l ih => rw [List.foldl_cons, ih, hf]

theorem respondRef_now (c : CmdRef) (code : Nat) (b : Bytes) (s : State) : (s.respondRef c code b).now = s.now := by
  rw [State.respondRef]
  cases s.refOut c with
  | none => rfl
  | some o => exact respond_now ..

theorem clearBusy_now (n : Nat) (s : State) : (s.clearBusy n).now = s.now := by
  rw [State.clearBusy]
  split_ifs <;> rfl

theorem endReservation_now (j : Job) (s : State) : (s.endReservation j).now = s.now := by
  rw [State.endReservation]
  cases j.toSlot <;> rfl

theorem freeJob_now (k : Nat) (s : State) : (s.freeJob k).now = s.now := by
  rw [State.freeJob]
  cases tfind s.cry.jobs k with
  | none => rfl
  | some j =>
    dsimp only
    split <;> exact (clearBusy_now ..).trans (endReservation_now ..)

theorem stopJob_now (k code : Nat) (b : Bytes) (s : State) : (s.stopJob k code b).now = s.now := by
  rw [State.stopJob]
  cases tfind s.cry.jobs k with
  | none => rfl
  | some j =>
    dsimp only
    cases j.cmd <;> split_ifs <;> simp only [respondRef_now, event_now, freeJob_now]

theorem cryptoAbort_now (s : State) : s.cryptoAbort.now = s.now := foldl_now (fun _ _ => stopJob_now ..) _ _

theorem answerSeals_now (first : Nat) (s : State) : (s.answerSeals first).now = s.now := by
  rw [State.answerSeals]
  cases s.log.last with
  | none => rfl
  | some b => exact foldl_now (fun _ _ => respondRef_now ..) _ _

theorem endSeal_now (first : Nat) (sig : Option Bytes) (s : State) : (s.endSeal first sig).now = s.now := by
  refine (answerSeals_now ..).trans ?_
  cases s.cry.jobs.find? fun x => x.2.work = some (KeeperWork.batchSeal first)
  · rfl
  · exact freeJob_now ..

theorem dropSeals_now (s : State) : s.dropSeals.now = s.now := foldl_now (fun _ _ => endSeal_now ..) _ _

/-- The claim timer's end (R320, R328). -/
theorem exec_cryptoClaimTimeout (s : State) :
    exec .cryptoClaimTimeout s = .next (if s.draining dCrypto ∧ (s.domain dCrypto).drop.isNone then
      let v := (s.advanceTo (s.domain dCrypto).timer).cryptoAbort.dropSeals
      v.modPwr fun p =>
        let d := tget {} p.domains dCrypto
        let drop := (s.advanceTo (s.domain dCrypto).timer).now + 17
        { p with domains := tset {} p.domains dCrypto { d with reachedT := true, drop := some drop } }
      else s) := by
  change Host.Outcome.next s.cryptoTimerEnds = _
  rw [State.cryptoTimerEnds]
  dsimp only
  rw [dropSeals_now, cryptoAbort_now]

/-- Settles O53: submissions by their checks, jobs by their start, end and cancel, the claim timer by what it stops. -/
theorem cryptoJobs : Obligations.CryptoJobs := by
  unfold Obligations.CryptoJobs
  dsimp only
  refine ⟨fun r o s u hruns hform hflags halg hparam => ⟨fun hdrain hoff => ?_, fun j hdrain hon hport hslot hwaiting hown => ?_,
      fun hdrain hon hport hslot => ?_⟩,
    fun k j s hjob => ⟨fun e hqueued hengine => ⟨fun hkeyless => ?_, fun hkeyed hempty => ?_, fun hkeyed hvalid => ?_⟩,
      fun hqueued hnone => ?_, fun e c n hstarted hcmd hcycles hdrain => ⟨fun hready => ?_, fun hdraws hnot => ?_⟩⟩,
    fun r o s u hfits => ⟨fun hruns => ⟨fun hnone => ?_, fun k j e hfound hstarted => ?_⟩,
      fun hruns => ⟨fun hnone => ?_, fun k j hfound hover => ?_⟩⟩,
    fun s => ⟨fun hdrain hdrop => ?_, fun hdrain => ?_⟩⟩
  · rw [exec_crySubmit_hash hruns hform hflags halg hparam hdrain, hoff]
    rfl
  · rw [exec_crySubmit_hash hruns hform hflags halg hparam hdrain, hon, if_neg (by simp),
      checks_pass (by rw [hslot, hwaiting, Option.isNone_some]; simp [firstDetail]), order_unopposed hown, if_neg hport, hslot]
    rfl
  · rw [exec_crySubmit_hash hruns hform hflags halg hparam hdrain, hon, if_neg (by simp),
      checks_fail (by rw [hslot, decide_eq_true hport]; rfl)]
  · rw [exec_jobStart hjob hqueued hengine, hkeyless]
    rfl
  · rw [exec_jobStart hjob hqueued hengine, hkeyed, hempty]
    rfl
  · refine ⟨_, by rw [exec_jobStart hjob hqueued hengine, hkeyed, hvalid], ?_, ?_⟩
    · exact (tfind_tins ..).trans (if_pos rfl)
    · have hslot : tget ({} : Slot) (tset {} s.flc.slots j.keySlot
          { (tget {} s.flc.slots j.keySlot) with attr := (tget {} s.flc.slots j.keySlot).attr ||| 2 ^ 25 }) j.keySlot = _ :=
        (tget_tset ..).trans (if_pos rfl)
      exact (congrArg (fun x : Slot => bit x.attr 25) hslot).trans (bit_or_two_pow ..)
  · change execJobStart k s = _
    simp only [execJobStart, hjob, hqueued, hnone, Option.isSome_none, Bool.false_eq_true, if_false]
  · have hruns : (j.draws && !s.drbgReady) = false := by
      rcases hready with h | h <;> simp [h]
    rw [exec_jobComplete hjob hstarted hcmd hcycles hdrain, hruns, if_neg Bool.false_ne_true]
  · rw [exec_jobComplete hjob hstarted hcmd hcycles hdrain, hdraws, hnot]
    rfl
  · change execCryGetJob r s = _
    simp only [execCryGetJob, command_runs hruns, wellFormed_fits hfits, hnone]
    rfl
  · change execCryGetJob r s = _
    simp only [execCryGetJob, command_runs hruns, wellFormed_fits hfits, hfound, hstarted]
    rfl
  · rw [exec_cryCancel hruns hfits, hnone]
    rfl
  · rw [exec_cryCancel hruns hfits, hfound, Option.filter_some_pos (by simp [hover])]
    rfl
  · refine ⟨_, by rw [exec_cryptoClaimTimeout, if_pos ⟨hdrain, by rw [hdrop]; rfl⟩], rfl, ?_, ?_⟩
    · exact congrArg Domain.drop ((tget_tset ..).trans (if_pos rfl))
    · exact congrArg Domain.reachedT ((tget_tset ..).trans (if_pos rfl))
  · rw [exec_cryptoClaimTimeout, hdrain]
    rfl

end Sys2Proof.Machine
end

section
/-! SUPPORT. The entropy source and the DRBG: what a block, a retry and a reseed leave. -/

namespace Sys2Proof.Machine

theorem exec_cryRandom {r : Req} {o : Outstanding} {s u : State} (hruns : Runs 0x6003 r o s u) (hfits : o.fits 4 [(3, 1)])
    (hlow : 1 ≤ u16 o.payload 0) (hhigh : u16 o.payload 0 ≤ 4096) (hplain : byteAt o.payload 2 = 0) :
    exec (.cryRandom r) s = .next (u.withDrbg o false fun s =>
      (s.generate (u16 o.payload 0)).2.respond o cOk (s.generate (u16 o.payload 0)).1) := by
  change execCryRandom r s = _
  simp only [execCryRandom, command_runs hruns]
  rw [formedBy_fits hfits (by simp [hplain]; omega), hplain]
  rfl

/-- A change of the source's state leaves the rest of the cluster, but that the retries of a source that is good are forgotten. -/
theorem setEs_cry (es : Nat) (s : State) : (s.setEs es).cry = { s.cry with es := es, retries := if es = 1 then 0 else s.cry.retries } := by
  rw [State.setEs, event_cry]
  rfl

/-- A good block of a source that is good is conditioned into the pool while it holds fewer than two (R322, R324). -/
theorem entropyBlock_good {s : State} {raw : Bytes} {last : Bool} {run : Nat} (hgood : s.cry.es = 1)
    (hrepeat : repetition (rawBits raw) s.cry.lastBit s.cry.run 0 = (last, run, 0)) (hproportion : proportionFails (rawBits raw) = false)
    (k : Bool) : (s.entropyBlock raw k).cry.pool = (if s.cry.pool.length < 2 then s.cry.pool ++ [sha raw] else s.cry.pool)
      ∧ (s.entropyBlock raw k).cry.discardRun = 0 ∧ (s.entropyBlock raw k).cry.es = 1 := by
  simp only [State.entropyBlock, hrepeat, hproportion, b2n, Bool.false_eq_true, if_false, and_self, State.modCry, hgood]
  simp only [Nat.one_ne_zero, if_false, if_true]
  split_ifs <;> exact ⟨rfl, rfl, rfl⟩

/-- The third bad block in a row stops the DRBG (R324). -/
theorem entropyBlock_third {s : State} {raw : Bytes} (hgood : s.cry.es = 1) (hrun : 2 ≤ s.cry.discardRun)
    (hproportion : proportionFails (rawBits raw) = true) (k : Bool) :
    (s.entropyBlock raw k).cry.es = 2 ∧ (s.entropyBlock raw k).cry.drbg = 2 := by
  have hthree : 3 ≤ min 3 (s.cry.discardRun + 1) := by omega
  simp only [State.entropyBlock, hproportion, b2n, if_true, Nat.one_ne_zero, and_false, if_false, State.modCry, hgood, hthree, setEs_cry, and_self]

theorem freshDrbg_drbg (block : Bytes) (s : State) : (s.freshDrbg block).cry.drbg = 1 := rfl

/-- Settles O54: CRY.RANDOM by the state of the DRBG, the source by its blocks and retries, the reseed by the pool. -/
theorem randomness : Obligations.Randomness := by
  unfold Obligations.Randomness
  dsimp only
  refine ⟨fun r o s u => ⟨fun hruns hfits hlow hhigh hplain => ⟨fun hnot => ?_, fun hready hdue hempty => ?_,
      fun hready hundue => ⟨?_, deliver_length .., rfl, rfl⟩⟩, fun hruns hfits => ?_⟩,
    fun s => ⟨fun hstopped raw k => ?_, fun hclock hgood raw k last run hrepeat hproportion => ⟨fun hroom => ?_, fun hfull => ?_⟩,
      fun hclock hgood hrun raw k hproportion => ?_, fun hfail => ?_, fun hfail hretries => ?_, fun hother k => ?_,
      fun hready hdue b rest hpool => ?_, fun hnot => ?_⟩⟩
  · rw [exec_cryRandom hruns hfits hlow hhigh hplain, State.withDrbg, hnot]
    rfl
  · rw [exec_cryRandom hruns hfits hlow hhigh hplain, State.withDrbg, hready, hdue, hempty]
    rfl
  · rw [exec_cryRandom hruns hfits hlow hhigh hplain, withDrbg_ready hready hundue, generate_undue hundue]
  · change execCryGetHealth r s = _
    simp only [execCryGetHealth, command_runs hruns, wellFormed_fits hfits]
    rfl
  · change Host.Outcome.next (if s.clk.running then s.entropyBlock raw k else s) = _
    rw [hstopped]
    rfl
  · obtain ⟨hpool, hdiscard, hes⟩ := entropyBlock_good hgood hrepeat hproportion k
    exact ⟨_, congrArg Host.Outcome.next (if_pos hclock), hpool.trans (if_pos hroom), hdiscard, hes⟩
  · obtain ⟨hpool, hdiscard, hes⟩ := entropyBlock_good hgood hrepeat hproportion k
    exact ⟨_, congrArg Host.Outcome.next (if_pos hclock), hpool.trans (if_neg (by omega)), hdiscard, hes⟩
  · obtain ⟨hes, hdrbg⟩ := entropyBlock_third hgood hrun hproportion k
    exact ⟨_, congrArg Host.Outcome.next (if_pos hclock), hes, hdrbg, by simp [State.drbgReady, hes]⟩
  · refine ⟨_, congrArg Host.Outcome.next (if_pos hfail), ?_, ?_, ?_⟩ <;> dsimp only <;> rw [if_pos rfl, setEs_cry] <;> rfl
  · have height : 8 ≤ s.cry.retries + 1 := by omega
    refine ⟨_, congrArg Host.Outcome.next (if_pos hfail), ?_⟩
    simp only [Bool.false_eq_true, if_false, State.modCry_cry, atTick_cry, height, if_true, setEs_cry]
  · exact congrArg Host.Outcome.next (if_neg hother)
  · have hdue' : s.drbgReady ∧ s.reseedDue ∧ !s.cry.pool.isEmpty := ⟨hready, hdue, by rw [hpool]; rfl⟩
    exact ⟨_, congrArg Host.Outcome.next (if_pos hdue'), congrArg List.tail hpool, rfl, rfl⟩
  · refine congrArg Host.Outcome.next (if_neg ?_)
    rw [hnot]
    exact fun h => Bool.false_ne_true h.1

end Sys2Proof.Machine
end

section
/-! SUPPORT. The Warden's host select periods and its own operations: what each leaves of the port, and what an operation leaves of the
flash. -/

namespace Sys2Proof.Machine

/-! ## Select periods -/

/-- A port's record leaves the Warden as it is. -/
@[simp] theorem wardenAt_wdn (t p code a0 a1 a2 : Nat) (s : State) : (s.wardenAt t p code a0 a1 a2).wdn = s.wdn := by
  rw [State.wardenAt]
  split_ifs <;> exact logAt_wdn ..

@[simp] theorem wardenAt_now (t p code a0 a1 a2 : Nat) (s : State) : (s.wardenAt t p code a0 a1 a2).now = s.now := by
  rw [State.wardenAt]
  split_ifs <;> exact logAt_now ..

/-- A select period within its clock, on a port that serves its host: what its shape asks for, where it has one and keeps its guard. -/
theorem exec_hostTransaction {p : Nat} {x : HostXfer} {s : State} (hp : p < 4) (hserved : s.hostServed p = true)
    (hslow : overspeed (s.portBody p) x.periodPs = false) :
    let u := s.modPort p fun q => { q with armed := false, drove := [] }
    (shapeOf (s.portBody p) x.opcode = none →
       exec (.hostTransaction p x) s
         = .next ((u.modPort p fun q => { q with deniedOpc := satInc 255 q.deniedOpc }).wardenEvent p 0x0702 x.opcode))
     ∧ (∀ sh : Shape, shapeOf (s.portBody p) x.opcode = some sh → guardLate (s.portBody p) x.opcode x.periodPs = false →
         (wProto (s.portBody p) < 2 ∨ x.extension = 255 - x.opcode) → (s.wport p).dead = false →
         (sh.kind = .answer → exec (.hostTransaction p x) s = .next (u.modPort p fun q => { q with drove := q.answer x.opcode x.addr x.dataClocks }))
         ∧ (sh.kind = .swallow → exec (.hostTransaction p x) s = .next (u.modPort p fun q => { q with wel := sh.setsWel }))
         ∧ (sh.kind = .capture → exec (.hostTransaction p x) s = .next (u.capture p x sh (s.wport p).armed))
         ∧ (sh.kind = .passData → exec (.hostTransaction p x) s = .next (u.passData p x sh))
         ∧ (sh.kind = .passReg → exec (.hostTransaction p x) s = .next (u.passReg p x sh))) := by
  intro u
  have hexec : exec (.hostTransaction p x) s = .next (s.hostTransaction p x) := by
    change execHostTransaction p x s = _
    rw [execHostTransaction, onObject_pos (decide_eq_true hp), if_pos hserved]
  rw [hexec]
  refine ⟨fun hnone => ?_, fun sh hshape hguard hext hdead => ?_⟩
  · simp only [State.hostTransaction, hslow, Bool.false_eq_true, if_false, hnone, ite_self]
    rfl
  · have hpass : (wProto (s.portBody p) < 2 ∨ x.extension = 255 - x.opcode) ∧ !(u.wport p).dead ∧ !guardLate (s.portBody p) x.opcode x.periodPs := by
      refine ⟨hext, ?_, by rw [hguard]; rfl⟩
      rw [wport_modPort_self]
      exact (Bool.not_eq_true' _).mpr hdead
    refine ⟨?_, ?_, ?_, ?_, ?_⟩
    all_goals
      intro hkind
      simp only [State.hostTransaction, hslow, Bool.false_eq_true, if_false]
      rw [if_pos hpass, hshape]
      simp only [hkind]
      rfl

/-- A capture touches the ports alone: nothing of it reaches a flash or the pool before it is allowed (R392). -/
theorem capture_memories (p : Nat) (x : HostXfer) (sh : Shape) (armed : Bool) (s : State) :
    (s.capture p x sh armed).wdn.flash = s.wdn.flash ∧ (s.capture p x sh armed).wdn.pool = s.wdn.pool := by
  rw [State.capture]
  split_ifs <;> exact ⟨rfl, rfl⟩

theorem exec_hostCaptureRelease {p : Nat} (hp : p < 4) (s : State) :
    exec (.hostCaptureRelease p) s = .next ((s.wport p).undecided.elim s fun c =>
      ((s.modPort p fun q => { q with undecided := none }).decideCapture p c s.now).decideHeld p s.now) := by
  change execHostCaptureRelease p s = _
  rw [execHostCaptureRelease, onObject_pos (decide_eq_true hp)]
  cases (s.wport p).undecided <;> rfl

/-- With the link out of SESSION every capture is denied (Table 11.5). -/
theorem decision_of_link_down {p : Nat} {s : State} (hdown : s.inSession 0 = false) (c : Captured) : s.decision p c = 0 := by
  simp only [State.decision, hdown, Bool.not_false, if_true]

/-- Under a Red flag no capture is put under review (Table 11.5). -/
theorem decision_of_redFlag {p : Nat} {s : State} (hred : s.redFlag = true) (c : Captured) : s.decision p c ≠ 2 := by
  simp only [State.decision, hred, true_and]
  split_ifs <;> omega

/-! ## Own operations -/

/-- Marking pages stale changes the marks of the port alone. -/
theorem foldl_stale_leaves (p op : Nat) (pages : List Nat) (s : State) :
    let t := pages.foldl (fun s k => (s.modPort p fun q => { q with stale := q.stale ++ [k] }).wardenEvent p 0x070E op k) s
    (t.wport p).allowed = (s.wport p).allowed ∧ (t.wport p).op = (s.wport p).op ∧ t.wdn.flash = s.wdn.flash := by
  induction pages generalizing s with
  | nil => exact ⟨rfl, rfl, rfl⟩
  | cons k pages ih =>
    obtain ⟨hallowed, hop, hflash⟩ := ih ((s.modPort p fun q => { q with stale := q.stale ++ [k] }).wardenEvent p 0x070E op k)
    refine ⟨hallowed.trans ?_, hop.trans ?_, hflash.trans ?_⟩
    · simp only [State.wardenEvent, wport_wardenAt, wport_modPort_self]
    · simp only [State.wardenEvent, wport_wardenAt, wport_modPort_self]
    · simp only [State.wardenEvent, wardenAt_wdn]
      rfl

/-- What the port holds, does and runs, and its flash, are as they were before pages were made stale. -/
theorem makeStale_leaves (p : Nat) (c : Captured) (s : State) :
    ((s.makeStale p c).wport p).allowed = (s.wport p).allowed ∧ ((s.makeStale p c).wport p).op = (s.wport p).op
      ∧ (s.makeStale p c).wdn.flash = s.wdn.flash := foldl_stale_leaves ..

/-- The operation that starts for an allowed command, on the edge after it was allowed (R393). -/
theorem exec_ownOpStart {p : Nat} {c : Captured} {s : State} (hp : p < 4) (hallowed : (s.wport p).allowed = some c) (hedge : c.edge < maxCycle) :
    ∃ t, exec (.ownOpStart p) s = .next t ∧ (t.wport p).allowed = none ∧ t.wdn.flash = s.wdn.flash
      ∧ ∃ op, (t.wport p).op = some op ∧ op.cmd = c ∧ op.landed = false ∧ op.start = max s.now (c.edge + 1) := by
  have hexec : exec (.ownOpStart p) s = execOwnOpStart p s := rfl
  rw [hexec, execOwnOpStart, onObject_pos (decide_eq_true hp), hallowed]
  refine ⟨_, rfl, ?_⟩
  simp only [State.wardenEvent, wport_wardenAt, wardenAt_wdn, makeStale_leaves, wport_modPort_self]
  refine ⟨trivial, rfl, _, rfl, rfl, rfl, ?_⟩
  rw [advanceTo_now, Nat.min_eq_right (by omega)]

/-- A status poll of an operation that is not ready, by its edge and the busy timer's (R393, R397, R402). -/
theorem exec_ownOpPoll {p : Nat} {o : OwnOp} {s : State} (hp : p < 4) (hop : (s.wport p).op = some o) (hready : o.ready = none) (v : Byte) {edge : Nat}
    (hedge : o.release + 4096 * (o.polls + 1)
      + sckCycles (s.portBody p) (sckPeriods (s.portBody p) ((builtin (wProto (s.portBody p)) 0x05).map Prod.snd |>.getD { kind := .answer }) 1) = edge) :
    exec (.ownOpPoll p v) s = .next
      (if s.busyDeadline p o ≤ edge then
         if v.getLsbD 0 ∨ edge ≠ (s.busyExpires p o).busyDeadline p o then s.busyExpires p o
         else (s.busyExpires p o).eventLate 6 p 0x0705 o.cmd.opcode o.cmd.addr
       else
         let u := (s.advanceTo edge).landOp p
         let ready := if v.getLsbD 0 then none else some u.now
         u.modPort p fun q =>
           { q with sr1 := if v.getLsbD 0 then q.sr1 else v.toNat, op := some { o with landed := true, polls := o.polls + 1, ready := ready } }) := by
  change execOwnOpPoll p v s = _
  simp only [execOwnOpPoll, onObject_pos (decide_eq_true hp), hop, hready, Option.isSome_none, Bool.false_eq_true, if_false, hedge]

theorem exec_busyTimeout {p : Nat} {o : OwnOp} {s : State} (hp : p < 4) (hop : (s.wport p).op = some o) (hready : o.ready = none) :
    exec (.busyTimeout p) s = .next (s.busyExpires p o) := by
  change execBusyTimeout p s = _
  simp only [execBusyTimeout, onObject_pos (decide_eq_true (show p < 5 by omega)), hop, hready, Option.isSome_none, Bool.false_eq_true, if_false]

/-- The ready edge of an operation whose shadow needs no read-back (R393, R394). -/
theorem exec_ownOpReady {p e : Nat} {o : OwnOp} {s : State} (hp : p < 4) (hop : (s.wport p).op = some o) (hready : o.ready = some e)
    (hgood : o.failed = false) (hsr : o.cmd.cls ≠ 4) (hrst : o.cmd.cls ≠ 7) (status : Bytes) :
    let u := (s.advanceTo e).landOp p
    let v := u.modPort p fun q => { q with op := none, wel := false, deepPd := (q.deepPd || decide (o.cmd.opcode = 0xB9)) && decide (o.cmd.opcode ≠ 0xAB) }
    exec (.ownOpReady p status) s = .next ((v.wardenEvent p 0x0705 o.cmd.opcode o.cmd.addr).decideHeld p v.now) := by
  change execOwnOpReady p status s = _
  simp only [execOwnOpReady, onObject_pos (decide_eq_true hp), hop, hready, hgood, Bool.false_eq_true, hsr, hrst, or_self, if_false]

/-! ## What an operation leaves of the flash -/

/-- A byte outside what is programmed reads as before. -/
theorem tget_nor_outside {a x : Nat} {bs : Bytes} (hx : ¬(a ≤ x ∧ x < a + bs.length)) (m : Memory) : tget 0xFF (nor m a bs) x = tget 0xFF m x := by
  rw [nor, tget_mwrite, if_neg]
  rwa [List.length_zipWith, mread_length, Nat.min_self]

/-- A page program leaves every other page. -/
theorem tget_programPage_outside {page addr x : Nat} (hpage : 0 < page) (hx : ¬(addr / page * page ≤ x ∧ x < addr / page * page + page))
    (i : Nat) (bs : Bytes) (m : Memory) : tget 0xFF (programPage page addr i bs m) x = tget 0xFF m x := by
  induction bs generalizing i m with
  | nil => rfl
  | cons v bs ih =>
    have hoff := Nat.mod_lt (addr + i) hpage
    rw [programPage, ih, tget_nor_outside (by simp only [List.length_cons, List.length_nil]; omega)]

/-- Only the bytes that an operation covers change. -/
theorem tget_ownEffect_outside {b : Bytes} {page : Nat} {c : Captured} {a : Nat} (hpage : 0 < page)
    (ha : ¬((ownRange b page c).1 ≤ a ∧ a < (ownRange b page c).1 + (ownRange b page c).2)) (m : Memory) :
    tget 0xFF (ownEffect b page c m) a = tget 0xFF m a := by
  rw [ownEffect]
  split
  next hcls =>
    simp only [ownRange, hcls] at ha
    exact tget_programPage_outside hpage ha ..
  next => exact tget_mclear_outside ha m
  next => exact tget_mclear_outside ha m
  next => rfl

/-- Settles O56: select periods by the shape of their opcode, captures by their decision, operations by their edges and the bytes they cover. -/
theorem wardenCommands : Obligations.WardenCommands := by
  unfold Obligations.WardenCommands
  dsimp only
  refine ⟨fun p s hp => ⟨fun x hoff => ?_, fun x hserved hslow => exec_hostTransaction hp hserved hslow, fun x sh armed => capture_memories p x sh armed s,
      fun hnone => ?_, fun c hc => ⟨?_, fun hdeny => ?_, fun hallow => ?_⟩, fun c hdown => decision_of_link_down hdown c,
      fun c hred => decision_of_redFlag hred c⟩,
    fun p s hp => ⟨fun hnone => ?_, fun c hallowed hedge => exec_ownOpStart hp hallowed hedge,
      fun o hop hready => ⟨fun v hin => ?_, fun v hout hbusy => ?_, exec_busyTimeout hp hop hready⟩,
      fun o e status hop hready hgood hsr hrst => exec_ownOpReady hp hop hready hgood hsr hrst status,
      fun hnone => ⟨fun v => ?_, fun st => ?_⟩, fun b page c m a hpage ha => congrArg (fun x => [x]) (tget_ownEffect_outside hpage ha m)⟩⟩
  · change execHostTransaction p x s = _
    rw [execHostTransaction, onObject_pos (decide_eq_true hp), hoff]
    rfl
  · rw [exec_hostCaptureRelease hp, hnone]
    rfl
  · rw [exec_hostCaptureRelease hp, hc]
    rfl
  · simp only [State.decideCapture, hdeny]
    rfl
  · simp only [State.decideCapture, hallow]
  · change execOwnOpStart p s = _
    simp only [execOwnOpStart, onObject_pos (decide_eq_true hp), hnone]
  · rw [exec_ownOpPoll hp hop hready v rfl, if_neg (Nat.not_le.mpr hin)]
  · rw [exec_ownOpPoll hp hop hready v rfl, if_pos hout, if_pos (Or.inl hbusy)]
  · change execOwnOpPoll p v s = _
    simp only [execOwnOpPoll, onObject_pos (decide_eq_true hp), hnone]
  · change execOwnOpReady p st s = _
    simp only [execOwnOpReady, onObject_pos (decide_eq_true hp), hnone]

end Sys2Proof.Machine
end

section
/-! SUPPORT. The Warden's tables: the WDN commands on a declared port whose link is in SESSION. -/

namespace Sys2Proof.Machine

/-- WDN.SET_REGION on a declared port (R409, R426). -/
theorem exec_wdnSetRegion {r : Req} {o : Outstanding} {s u : State} {p : Nat} (hruns : Runs 0x3001 r o s u) (hport : byteAt o.payload 0 = p)
    (hp : p ≤ 4) (hdeclared : u.portDeclared p = true) (hlink : u.inSession 0 = true) (hfits : o.fits 20 [(2, 2)]) :
    exec (.wdnSetRegion r) s = .next
      (let n := byteAt o.payload 1
       let d := slice o.payload 4 16
       u.checks o [((u.wport p).retires, 0x0006)] fun s =>
         (regionFault (p = 4) (wLog2 (s.portBody p)) d).elim
           (s.checks o [(decide (dType d = 2 ∧ (s.wport p).shadow.any fun e => dType e.2 = 2 ∧ e.1 ≠ n), 0x0007)] fun s =>
             s.order o [objDescriptor p n] fun s =>
               ((s.takesEffect o.port o.opcode [objDescriptor p n]).modPort p fun q => { q with shadow := tset noDescriptor q.shadow n d }).done o [])
           fun off => s.malformed o (4 + off)) := by
  subst hport
  change execWdnSetRegion r s = _
  simp only [execWdnSetRegion, command_runs hruns]
  rw [wdnCommand_fits hfits hp (by simp), checks_pass (by rw [hdeclared]; rfl), viaLink_session hlink]
  refine congrArg (fun body => Host.Outcome.next (u.checks o [((u.wport (byteAt o.payload 0)).retires, 0x0006)] body)) (funext fun s => ?_)
  cases regionFault (byteAt o.payload 0 = 4) (wLog2 (s.portBody (byteAt o.payload 0))) (slice o.payload 4 16) <;> rfl

/-- WDN.COMMIT on a declared port that no order of the edge opposes (R426). -/
theorem exec_wdnCommit {r : Req} {o : Outstanding} {s u : State} {p : Nat} (hruns : Runs 0x3002 r o s u) (hport : byteAt o.payload 0 = p)
    (hp : p ≤ 4) (hdeclared : u.portDeclared p = true) (hlink : u.inSession 0 = true) (hfits : o.fits 4 [(1, 3)]) (hown : u.unopposed [objCommit p]) :
    exec (.wdnCommit r) s = .next (u.checks o [((u.wport p).retires, 0x0006)] fun s =>
      ((s.takesEffect o.port o.opcode [objCommit p]).modPort p fun q =>
        { q.bindOld with live := q.shadow, shadow := q.live, retiring := true, commits := satInc 65535 q.commits }).respond o cOk
          (le 8 (baton s.relayEdge (if p = 4 then 7 else 6)))) := by
  subst hport
  change execWdnCommit r s = _
  simp only [execWdnCommit, command_runs hruns]
  rw [wdnCommand_fits hfits hp (by simp), checks_pass (by rw [hdeclared]; rfl), viaLink_session hlink, order_unopposed hown]
  rfl

/-- WDN.GET_PORT while no review is open. -/
theorem exec_wdnGetPort {r : Req} {o : Outstanding} {s u : State} {p : Nat} (hruns : Runs 0x3000 r o s u) (hport : byteAt o.payload 0 = p)
    (hp : p ≤ 4) (hdeclared : u.portDeclared p = true) (hlink : u.inSession 0 = true) (hfits : o.fits 4 [(1, 3)]) (hreview : (u.wport p).review = none) :
    let q := u.wport p
    let flags := b2n (u.runnerOn p) + 2 * b2n q.retires + 8 * b2n q.busy + 16 * b2n q.held.isSome + 32 * b2n q.sfdpOk
    exec (.wdnGetPort r) s = .next (u.respond o cOk (le 1 p ++ le 1 (u.phaseOf p) ++ le 1 flags ++ le 1 0xFF ++ le 2 q.reviewNo ++ le 1 0 ++ zeros 1
      ++ le 4 0 ++ le 4 0 ++ le 2 (u.pinCounts p).1 ++ le 2 (u.pinCounts p).2.1 ++ le 2 (u.pinCounts p).2.2 ++ le 2 q.commits ++ le 8 q.phaseBaton)) := by
  subst hport
  have haddr : u.wdnReviewAddr (byteAt o.payload 0) = 0 := by rw [State.wdnReviewAddr, hreview]
  change execWdnGetPort r s = _
  simp only [execWdnGetPort, command_runs hruns]
  rw [wdnCommand_fits hfits hp (by simp), checks_pass (by rw [hdeclared]; rfl), viaLink_session hlink]
  simp only [hreview, haddr, Option.isSome_none, b2n, Bool.false_eq_true, if_false, Nat.mul_zero, Nat.add_zero]
  rfl

/-- Settles O57: each command by its checks and what it writes, retirement by what is bound to the old table. -/
theorem wardenTables : Obligations.WardenTables := by
  unfold Obligations.WardenTables
  dsimp only
  refine ⟨fun r o s u hp hdeclared hlink => ⟨fun hruns hfits => ⟨fun hretires => ?_, fun hsettled => ⟨fun off hfault => ?_,
        fun hform => ⟨fun htype hsecond => ?_, fun htype hown => ?_⟩⟩⟩,
      fun hruns hfits hown => ⟨fun hretires => ?_, fun hsettled => ?_⟩,
      fun hruns hfits hreview => exec_wdnGetPort hruns rfl hp hdeclared hlink hfits hreview, fun hruns hfits hoff hlow hend hdone => ?_,
      fun hruns hfits => ?_⟩,
    fun p s hp => ⟨fun hretiring hbound => ?_, fun hretiring hbound => ?_, fun e hcopying => ?_, fun hnone => ?_⟩⟩
  · rw [exec_wdnSetRegion hruns rfl hp hdeclared hlink hfits]
    dsimp only
    rw [checks_fail (by rw [hretires]; rfl)]
  · rw [exec_wdnSetRegion hruns rfl hp hdeclared hlink hfits]
    dsimp only
    rw [checks_pass (by rw [hsettled]; rfl), hfault]
    rfl
  · rw [exec_wdnSetRegion hruns rfl hp hdeclared hlink hfits]
    dsimp only
    rw [checks_pass (by rw [hsettled]; rfl), hform, Option.elim_none, checks_fail (by rw [decide_eq_true ⟨htype, by simpa using hsecond⟩]; rfl)]
  · rw [exec_wdnSetRegion hruns rfl hp hdeclared hlink hfits]
    dsimp only
    rw [checks_pass (by rw [hsettled]; rfl), hform, Option.elim_none, checks_pass (by rw [decide_eq_false fun h => htype h.1]; rfl),
      order_unopposed hown]
    rfl
  · rw [exec_wdnCommit hruns rfl hp hdeclared hlink hfits hown, checks_fail (by rw [hretires]; rfl)]
  · rw [exec_wdnCommit hruns rfl hp hdeclared hlink hfits hown, checks_pass (by rw [hsettled]; rfl)]
  · change execWdnGetSfdp r s = _
    simp only [execWdnGetSfdp, command_runs hruns]
    rw [wdnCommand_fits hfits hp (by simp; omega), checks_pass (by rw [hdeclared, hdone]; rfl), viaLink_session hlink]
    rfl
  · change execWdnGetCounters r s = _
    simp only [execWdnGetCounters, command_runs hruns]
    rw [wdnCommand_fits hfits hp (by simp), checks_pass (by rw [hdeclared]; rfl), viaLink_session hlink]
    rfl
  · change execRetireEnd p s = _
    simp only [execRetireEnd, onObject_pos (decide_eq_true hp), hretiring, hbound, Bool.not_false, and_self, if_true]
  · change execRetireEnd p s = _
    simp only [execRetireEnd, onObject_pos (decide_eq_true hp), hbound, Bool.not_true, Bool.false_eq_true, and_false, if_false]
  · change execShadowCopyDone p s = _
    simp only [execShadowCopyDone, onObject_pos (decide_eq_true hp), hcopying]
  · change execShadowCopyDone p s = _
    simp only [execShadowCopyDone, onObject_pos (decide_eq_true hp), hnone]

end Sys2Proof.Machine
end

section
/-! SUPPORT. Attestation: payload fields that are zero, and the ATT commands. -/

namespace Sys2Proof.Machine

/-- A range of zero bytes is the number 0. -/
theorem leVal_slice_of_firstNonZero {bs : Bytes} {off n : Nat} (h : firstNonZero bs off n = none) : leVal (slice bs off n) = 0 := by
  induction n generalizing off with
  | zero => rfl
  | succ n ih =>
    have hbyte : byteAt bs off = 0 := byteAt_of_firstNonZero h
    rw [firstNonZero, if_pos hbyte] at h
    by_cases hoff : off < bs.length
    · have hdrop : slice bs off (n + 1) = bs[off] :: slice bs (off + 1) n := by
        rw [slice, List.drop_eq_getElem_cons hoff, List.take_succ_cons]
        rfl
      have hzero : bs[off].toNat = 0 := by
        rw [byteAt, List.getD_eq_getElem _ _ hoff] at hbyte
        exact hbyte
      rw [hdrop, leVal, hzero, ih h]
    · rw [slice, List.drop_eq_nil_of_le (by omega)]
      rfl

theorem u32_of_firstNonZero {bs : Bytes} {off : Nat} (h : firstNonZero bs off 4 = none) : u32 bs off = 0 := leVal_slice_of_firstNonZero h

theorem needsCrypto_off {s : State} (hdrain : s.draining dCrypto = false) (hoff : s.domainOn dCrypto = false) (o : Outstanding)
    (body : State → State) : s.needsCrypto o body = s.refuse o 0x10 := by
  simp only [State.needsCrypto, hdrain, hoff, Bool.not_false, Bool.false_eq_true, if_false, if_true]

theorem exec_attQuote {r : Req} {o : Outstanding} {s u : State} (hruns : Runs 0x7000 r o s u) (hfits : o.fits 32 []) :
    exec (.attQuote r) s = .next (u.needsCrypto o fun s =>
      (s.aliasSign (sha (ascii "TXI-QTE" ++ s.quoteBody o))).2.respond o cOk
        (s.quoteBody o ++ (s.aliasSign (sha (ascii "TXI-QTE" ++ s.quoteBody o))).1)) := by
  change execAttQuote r s = _
  simp only [execAttQuote, command_runs hruns, wellFormed_fits hfits]
  rfl

theorem exec_attGetLog {r : Req} {o : Outstanding} {s u : State} (hruns : Runs 0x7001 r o s u) (hfits : o.fits 8 [(0, 4)]) :
    exec (.attGetLog r) s = .next (u.bulkOut o u.measurementLog []) := by
  have hzero : u32 o.payload 0 = 0 := u32_of_firstNonZero (fits_zeros hfits (by simp))
  change execAttGetLog r s = _
  simp only [execAttGetLog, command_runs hruns]
  rw [formed_pass (fits_length hfits) (by rw [hzero]; rfl)]

/-- ATT.GET_CERT of a listed certificate (R462). -/
theorem exec_attGetCert {r : Req} {o : Outstanding} {s u : State} (hruns : Runs 0x7002 r o s u) (hfits : o.fits 12 [(0, 4), (9, 3)])
    (hlisted : byteAt o.payload 8 ≤ 4) :
    exec (.attGetCert r) s = .next (u.checks o [(decide (byteAt o.payload 8 = 3) && !u.flc.closed, 0x0006)] fun s =>
      s.bulkOut o (if byteAt o.payload 8 = 4 then s.spdmChain else s.certificate (byteAt o.payload 8)) []) := by
  have hzero : u32 o.payload 0 = 0 := u32_of_firstNonZero (fits_zeros hfits (by simp))
  have hrest : firstNonZero o.payload 9 3 = none := fits_zeros hfits (by simp)
  change execAttGetCert r s = _
  simp only [execAttGetCert, command_runs hruns]
  rw [formed_pass (fits_length hfits) (by rw [hzero, hrest, decide_eq_false (Nat.not_lt.mpr hlisted)]; rfl)]

/-- An SPDM answer is given: its connection stands, and a text that is to be signed is (R464). -/
def State.spdmGives (o : Outstanding) (a : SpdmAnswer) (s : State) : State :=
  let v := s.modWdn fun w => { w with spdm := tset {} w.spdm (o.port.index * 8 + o.session) a.next }
  a.signed.elim (v.respond o cOk a.response) fun x =>
    (v.aliasSign (spdmSigned x.1 x.2)).2.respond o cOk (a.response ++ (v.aliasSign (spdmSigned x.1 x.2)).1)

/-- ATT.SPDM: an answer that is to be signed needs the cluster, every other is given at once (R464). -/
theorem exec_attSpdm {r : Req} {o : Outstanding} {s u : State} (hruns : Runs 0x7003 r o s u) (hon : u.featureOff 3 = false) {a : SpdmAnswer}
    (ha : (u.draw 32).2.spdmAnswer o.payload (u.draw 32).1 (tget {} u.wdn.spdm (o.port.index * 8 + o.session)) = a) :
    exec (.attSpdm r) s = .next (if a.signed.isSome then (u.draw 32).2.needsCrypto o (State.spdmGives o a) else (u.draw 32).2.spdmGives o a) := by
  have hdrawn : (u.draw 32).2.spdmAnswer o.payload (u.draw 32).1 (tget {} (u.draw 32).2.wdn.spdm (o.port.index * 8 + o.session)) = a := ha
  change execAttSpdm r s = _
  simp only [execAttSpdm, command_runs hruns, hon, Bool.false_eq_true, if_false, hdrawn]
  obtain ⟨response, next, signed⟩ := a
  cases signed <;> rfl

/-- Settles O60: the Quote by its signature, the data by their certificates, SPDM by its answer. -/
theorem attestation : Obligations.Attestation := by
  unfold Obligations.Attestation
  dsimp only
  intro r o s u
  refine ⟨fun hruns hfits hdrain hon => ?_, fun hruns hfits hdrain hoff => ?_, fun hruns hfits => exec_attGetLog hruns hfits,
    fun hruns hfits hlisted => ⟨fun hheart hopen => ?_, fun hissued => ?_, fun hchain => ?_⟩,
    fun hruns => ⟨fun hoff => ?_, fun hon => ⟨fun hplain => ?_, fun text context hsigned hdrain hcluster => ?_⟩⟩⟩
  · rw [exec_attQuote hruns hfits, needsCrypto_on hdrain hon]
  · rw [exec_attQuote hruns hfits, needsCrypto_off hdrain hoff]
  · rw [exec_attGetCert hruns hfits hlisted, checks_fail (by rw [hheart, hopen]; rfl)]
  · have hclosed : (decide (byteAt o.payload 8 = 3) && !u.flc.closed) = false := by
      rcases hissued with hlow | ⟨hheart, hclosed⟩
      · simp [show byteAt o.payload 8 ≠ 3 by omega]
      · simp [hclosed]
    rw [exec_attGetCert hruns hfits hlisted, checks_pass (by rw [hclosed]; rfl), if_neg (by omega)]
  · rw [exec_attGetCert hruns hfits hlisted, checks_pass (by rw [hchain]; rfl), if_pos hchain]
  · change execAttSpdm r s = _
    simp only [execAttSpdm, command_runs hruns, hoff, if_true]
  · rw [exec_attSpdm hruns hon rfl, if_neg (by rw [Option.not_isSome_iff_eq_none]; exact hplain), State.spdmGives]
    exact congrArg (fun x => Host.Outcome.next (Option.elim x _ _)) hplain
  · rw [exec_attSpdm hruns hon rfl, if_pos (Option.isSome_iff_exists.2 ⟨_, hsigned⟩), needsCrypto_on (s := (u.draw 32).2) hdrain hcluster, State.spdmGives]
    exact congrArg (fun x => Host.Outcome.next (Option.elim x _ _)) hsigned

end Sys2Proof.Machine
end

section
/-! SUPPORT. Recoveries and updates: the queue, the end of a recovery, and what an ERASE leaves of the recovery flash. -/

namespace Sys2Proof.Machine

/-! ## The recovery -/

theorem exec_recoveryStart_barred {s : State} (h : s.wardenRBusy = true ∨ s.inSession 0 = false ∨ s.lockstep = true ∨ s.restarting = true) :
    exec .recoveryStart s = .next s := by
  have hbar : s.wardenRBusy ∨ s.log.store.writing.isSome ∨ !s.inSession 0 ∨ !s.domainOn (dWarden 4) ∨ s.lockstep ∨ s.restarting := by
    rcases h with h | h | h | h <;> simp [h]
  change execRecoveryStart s = _
  simp only [execRecoveryStart]
  cases nextRecovery s.wdn.queue with
  | none => rfl
  | some r => exact congrArg Host.Outcome.next (if_pos hbar)

/-- A SUBSTITUTE under a ticket starts: it leaves the queue and runs (R438, R442). -/
theorem exec_recoveryStart {s : State} {r : Recovery} (hnext : nextRecovery s.wdn.queue = some r) (hpolicy : r.policy ≠ 1)
    (hticket : r.ticket.isSome = true) (hfree : s.wardenRBusy = false) (hstore : s.log.store.writing = none) (hlink : s.inSession 0 = true)
    (hon : s.domainOn (dWarden 4) = true) (hstep : s.lockstep = false) (hstays : s.restarting = false) :
    exec .recoveryStart s = .next ((s.readDirectory.modWdn fun w =>
        { w with queue := w.queue.erase r, running := some { r with start := s.readDirectory.now } }).modRcv r.plat fun k =>
          { outcome := 1, image := r.image, attempts := satInc 65535 k.attempts }) := by
  have hopen : ¬(s.wardenRBusy ∨ s.log.store.writing.isSome ∨ !s.inSession 0 ∨ !s.domainOn (dWarden 4) ∨ s.lockstep ∨ s.restarting) := by
    simp [hfree, hstore, hlink, hon, hstep, hstays]
  have hcommand : r.ticket.isNone = false := by rw [← Option.not_isSome, hticket]; rfl
  change execRecoveryStart s = _
  simp only [execRecoveryStart, hnext]
  rw [if_neg hopen, if_pos hpolicy, hcommand]
  rfl

/-- The end of a running recovery whose reads have run their course. -/
theorem exec_recoveryOutcome_ends {s : State} {r : Recovery} (hruns : s.wdn.running = some r) (htime : s.now < r.start + 2 ^ 38) (hstops : r.stopped = 0)
    (hlost : r.lost = false) :
    exec .recoveryOutcome s = .next ((s.recoveryEnds r).elim s fun x => x.2.endRecovery r x.1) := by
  have hlimit : ¬r.limit ≤ s.now := Nat.not_le.mpr htime
  change execRecoveryOutcome s = _
  simp only [execRecoveryOutcome, hruns, hlimit, hstops, hlost, ne_eq, not_true_eq_false, Bool.false_eq_true, if_false]
  cases s.recoveryEnds r <;> rfl

/-- RCV.MEND with SUBSTITUTE once its checks have passed: a recovery waits under a ticket (R456). -/
def State.mendQueued (o : Outstanding) (p i : Nat) (s : State) : State :=
  let v := ((s.takesEffect o.port o.opcode [objReset p]).ticketed o cDeferred []).2
  let rc : Recovery := { plat := p, image := i, policy := 2, edge := v.now, ticket := some s.paths.nextTicket }
  (v.modWdn fun w => { w with queue := w.queue ++ [rc] }).modRcv p fun x => { x with outcome := 2, image := i }

/-- RCV.MEND with SUBSTITUTE of an image that has a golden index (R456, R457). -/
theorem exec_rcvMend {r : Req} {o : Outstanding} {s u : State} {p i : Nat} (hruns : Runs 0x8001 r o s u) (hplat : byteAt o.payload 0 = p)
    (himage : byteAt o.payload 1 = i) (hfits : o.fits 4 [(3, 1)]) (hp : p ≤ 3) (hop : byteAt o.payload 2 = 1) (hboot : u.hasBoot p = true)
    (hi : i < u.imageCount p) (hgolden : iGolden (u.imageRec p i) ≠ 0xFF) (hdeclared : u.portDeclared 4 = true) (hclosed : u.flc.closed = true)
    (hown : u.unopposed (objReset p :: o.lockObjs)) :
    exec (.rcvMend r) s = .next (u.checks o
      [(u.redRefuses o, 0x0040), (!(decide ((u.wport (u.bootPort p)).phase = 1) && u.imagesFinal p && u.heldLow p), 0x0007),
       (u.wardenRBusy || !u.wdn.queue.isEmpty || u.wdn.runners.any (fun x => x.plat ≠ p), 0x0002), (decide (255 ≤ u.boot.log.length), 0x0003)]
      fun s => s.needsCrypto o (State.mendQueued o p i)) := by
  subst hplat himage
  have hzero : byteAt o.payload 3 = 0 := byteAt_of_firstNonZero (n := 0) (fits_zeros hfits (by simp))
  change execRcvMend r s = _
  simp only [execRcvMend, command_runs hruns]
  rw [formed_pass (fits_length hfits) (by rw [hzero, hop, decide_eq_false (Nat.not_lt.mpr hp)]; rfl),
    checks_pass (by rw [hboot, hdeclared, decide_eq_false (Nat.not_le.mpr hi), decide_eq_false hgolden]; rfl), order_unopposed hown, hop, hclosed]
  rfl

theorem exec_rcvGetPolicy_declared {r : Req} {o : Outstanding} {s u : State} (hruns : Runs 0x8000 r o s u) (hfits : o.fits 4 [(1, 3)])
    (hp : byteAt o.payload 0 ≤ 3) (hboot : u.hasBoot (byteAt o.payload 0) = true) (hcount : u.imageCount (byteAt o.payload 0) = 0)
    (hdir : u.wdn.dirValid = false) :
    exec (.rcvGetPolicy r) s = .next (u.respond o cOk (le 1 (byteAt o.payload 0) ++ le 1 0 ++ le 1 (u.bootPort (byteAt o.payload 0)) ++ le 1 0xFF)) := by
  have hrest : firstNonZero o.payload 1 3 = none := fits_zeros hfits (by simp)
  change execRcvGetPolicy r s = _
  simp only [execRcvGetPolicy, command_runs hruns]
  rw [formed_pass (fits_length hfits) (by rw [hrest, decide_eq_false (Nat.not_lt.mpr hp)]; rfl), checks_pass (by rw [hboot]; rfl)]
  simp only [hcount, hdir, Bool.false_eq_true, if_false, List.range_zero, List.flatMap_nil, List.append_nil]
  rfl

theorem exec_rcvGetPolicy_undeclared {r : Req} {o : Outstanding} {s u : State} (hruns : Runs 0x8000 r o s u) (hfits : o.fits 4 [(1, 3)])
    (hp : byteAt o.payload 0 ≤ 3) (hboot : u.hasBoot (byteAt o.payload 0) = false) : exec (.rcvGetPolicy r) s = .next (u.refuse o 1) := by
  have hrest : firstNonZero o.payload 1 3 = none := fits_zeros hfits (by simp)
  change execRcvGetPolicy r s = _
  simp only [execRcvGetPolicy, command_runs hruns]
  rw [formed_pass (fits_length hfits) (by rw [hrest, decide_eq_false (Nat.not_lt.mpr hp)]; rfl), checks_fail (by rw [hboot]; rfl)]

/-! ## Updates -/

/-- The directory that is read touches the Warden alone. -/
theorem readDirectory_pwr (s : State) : s.readDirectory.pwr = s.pwr := by
  rw [State.readDirectory]
  cases s.goldenInUse <;> rfl

/-- RCV.UPDATE_GOLDEN with ERASE, up to its checks (R459). -/
theorem exec_rcvUpdateGolden_erase {r : Req} {o : Outstanding} {s u : State} (hruns : Runs 0x8002 r o s u)
    (hfits : o.fits 20 [(0, 4), (8, 2), (11, 5)]) (hlow : 16 ≤ byteAt o.payload 10) (hhigh : byteAt o.payload 10 ≤ 28)
    (hdeclared : u.portDeclared 4 = true) (hclosed : u.flc.closed = true) :
    exec (.rcvUpdateGolden r) s = .next
      (let size := 2 ^ byteAt o.payload 10
       let base := u32 o.payload 16
       u.checks o [(u.wardenRTaken, 0x0002),
         (decide (base % size ≠ 0 ∨ base < 0x200000 ∨ u.recoverySize < base + size) || u.windowTaken (fun _ => true) base size, 0x000A)] fun s =>
         s.viaLink o 0 fun s =>
           if !s.readDirectory.recoveryAllows 2 base size then s.readDirectory.updateFails o 0x000B
           else (s.readDirectory.setFlash 4 (mclear (s.readDirectory.flash 4) base size)).updateEnds o cOk []) := by
  have htotal : u32 o.payload 0 = 0 := u32_of_firstNonZero (fits_zeros hfits (by simp))
  have hmode : firstNonZero o.payload 8 2 = none := fits_zeros hfits (by simp)
  have hplat : firstNonZero o.payload 11 5 = none := fits_zeros hfits (by simp)
  have hop : byteAt o.payload 8 = 0 := byteAt_of_firstNonZero hmode
  have hgolden : byteAt o.payload 9 = 0 := by
    rw [firstNonZero, if_pos hop] at hmode
    exact byteAt_of_firstNonZero hmode
  have hp : byteAt o.payload 11 = 0 := byteAt_of_firstNonZero hplat
  rw [firstNonZero, if_pos hp] at hplat
  have hi : byteAt o.payload 12 = 0 := byteAt_of_firstNonZero hplat
  rw [firstNonZero, if_pos hi] at hplat
  have hlog : ¬(byteAt o.payload 10 < 16 ∨ 28 < byteAt o.payload 10) := by omega
  change execRcvUpdateGolden r s = _
  simp only [execRcvUpdateGolden, command_runs hruns]
  rw [formed_pass (fits_length hfits)
    (by rw [htotal, hop, hgolden, hp, hi, hplat, if_neg (by decide), decide_eq_false hlog]; rfl), hop, hdeclared, hclosed]
  rfl

/-- RCV.UPDATE_KEEPER with ERASE while nothing else runs (R460). -/
theorem exec_rcvUpdateKeeper_erase {r : Req} {o : Outstanding} {s u : State} (hruns : Runs 0x8003 r o s u) (hfits : o.fits 12 [(0, 4), (8, 4)])
    (hdeclared : u.portDeclared 4 = true) (hclosed : u.flc.closed = true) (hrunning : u.wdn.running = none) (hqueue : u.wdn.queue = [])
    (hrunners : u.wdn.runners = []) (hinstall : u.wdn.install = none) (hlink : u.inSession 0 = true) :
    exec (.rcvUpdateKeeper r) s = .next
      (let v := u.readDirectory.modWdn fun w => { w with staged := none }
       if !v.recoveryAllows 2 0x100000 0x100000 then v.updateFails o 0x000B
       else (v.setFlash 4 (mclear (v.flash 4) 0x100000 0x100000)).updateEnds o cOk []) := by
  have htotal : u32 o.payload 0 = 0 := u32_of_firstNonZero (fits_zeros hfits (by simp))
  have hmode : firstNonZero o.payload 8 4 = none := fits_zeros hfits (by simp)
  have hop : byteAt o.payload 8 = 0 := byteAt_of_firstNonZero hmode
  rw [firstNonZero, if_pos hop] at hmode
  change execRcvUpdateKeeper r s = _
  simp only [execRcvUpdateKeeper, command_runs hruns, hop, htotal, if_neg (show ¬(0 : Nat) = 2 by decide)]
  rw [formed_pass (fits_length hfits) (by rw [hmode]; rfl),
    checks_pass (by rw [hdeclared, hclosed, hrunning, hqueue, hrunners, hinstall]; rfl), viaLink_session hlink]
  rfl

/-- RCV.UPDATE_KEEPER with INSTALL while nothing else runs (R460). -/
theorem exec_rcvUpdateKeeper_install {r : Req} {o : Outstanding} {s u : State} (hruns : Runs 0x8003 r o s u) (hfits : o.fits 60 [(0, 4), (9, 3)])
    (hop : byteAt o.payload 8 = 2) (hdeclared : u.portDeclared 4 = true) (hclosed : u.flc.closed = true) (hrunning : u.wdn.running = none)
    (hqueue : u.wdn.queue = []) (hrunners : u.wdn.runners = []) (hinstall : u.wdn.install = none) :
    exec (.rcvUpdateKeeper r) s = .next (u.checks o
      [(!u.wdn.staged.elim false fun x => x.2 == slice o.payload 12 48, 0x0008)] fun s =>
        s.viaLink o 0 fun s => s.readDirectory.needsCrypto o fun s =>
          ((s.ticketed o cDeferred []).2.modWdn fun w => { w with install := some s.paths.nextTicket }).restartBegins) := by
  have htotal : u32 o.payload 0 = 0 := u32_of_firstNonZero (fits_zeros hfits (by simp))
  have hrest : firstNonZero o.payload 9 3 = none := fits_zeros hfits (by simp)
  change execRcvUpdateKeeper r s = _
  simp only [execRcvUpdateKeeper, command_runs hruns, hop, htotal, if_true]
  rw [formed_pass (fits_length hfits) (by rw [hrest]; rfl), hdeclared, hclosed, hrunning, hqueue, hrunners, hinstall]
  cases u.wdn.staged <;> rfl

/-- What is erased reads as 0xFF, and every other byte as before. -/
theorem mread_mclear (m : Memory) (a n x : Nat) : mread 0xFF (mclear m a n) x 1 = if a ≤ x ∧ x < a + n then [0xFF] else mread 0xFF m x 1 := by
  by_cases hx : a ≤ x ∧ x < a + n
  · rw [if_pos hx]
    refine congrArg (fun b => [b]) ?_
    induction m with
    | nil => rfl
    | cons c m ih =>
      simp only [mclear, List.filter_cons]
      split
      · next hkept =>
        have hne : c.1 ≠ x := by
          rintro rfl
          simp [hx] at hkept
        simp only [tget, hne, if_false]
        exact ih
      · exact ih
  · rw [if_neg hx]
    exact congrArg (fun b => [b]) (tget_mclear_outside hx m)

/-- Settles O59: recoveries by the queue and their end, the commands by their checks, the updates by what they erase. -/
theorem recoveriesAndUpdates : Obligations.RecoveriesAndUpdates := by
  unfold Obligations.RecoveriesAndUpdates
  dsimp only
  refine ⟨⟨fun s => ⟨fun hempty => ?_, exec_recoveryStart_barred,
        fun r hnext hpolicy hticket hfree hstore hlink hon hstep hstays => exec_recoveryStart hnext hpolicy hticket hfree hstore hlink hon hstep hstays,
        fun hnone => ⟨?_, ?_⟩, fun r hruns => ⟨?_, fun hlate => ?_, fun htime hstops hlost => ?_, fun hgolden => ?_⟩⟩,
      fun r o s u => ⟨fun hruns hfits hp hop hboot hi hgolden hdeclared hclosed hown => ⟨fun hred => ?_,
          fun hclear hphase hfinal hheld hfree hqueue hrunners hlog hdrain hon => ?_⟩,
        exec_rcvGetPolicy_declared, exec_rcvGetPolicy_undeclared, fun hruns hfits => ?_⟩⟩,
    fun r o s u => ⟨fun hruns hfits hlow hhigh hdeclared hclosed => ⟨fun htaken => ?_,
        fun hfree haligned hbase hend hwindow hlink => ⟨fun hdenied => ?_, fun hallowed => ?_⟩⟩,
      fun hruns hfits hdeclared hclosed hrunning hqueue hrunners hinstall hlink => ⟨fun hdenied => ?_, fun hallowed => ?_⟩,
      fun hruns hfits hop hdeclared hclosed hrunning hqueue hrunners hinstall => ⟨fun hnone => ?_, fun ver hstaged hlink hdrain hon => ?_⟩,
      mread_mclear⟩⟩
  · change execRecoveryStart s = _
    rw [execRecoveryStart, hempty]
    rfl
  · change execRecoveryOutcome s = _
    simp only [execRecoveryOutcome, hnone]
  · change execRecoveryLimitExpiry s = _
    simp only [execRecoveryLimitExpiry, hnone]
  · change execRecoveryLimitExpiry s = _
    simp only [execRecoveryLimitExpiry, hruns, Recovery.limit]
  · change execRecoveryOutcome s = _
    simp only [execRecoveryOutcome, hruns, Recovery.limit, hlate, if_true]
  · rw [exec_recoveryOutcome_ends hruns htime hstops hlost]
    cases s.recoveryEnds r <;> rfl
  · simp only [State.recoveryEnds, hgolden]
  · rw [exec_rcvMend hruns rfl rfl hfits hp hop hboot hi hgolden hdeclared hclosed hown, checks_fail (by rw [hred]; rfl)]
  · rw [exec_rcvMend hruns rfl rfl hfits hp hop hboot hi hgolden hdeclared hclosed hown,
      checks_pass (by rw [hclear, hphase, hfinal, hheld, hfree, hqueue, hrunners, decide_eq_false (Nat.not_le.mpr hlog)]; rfl),
      needsCrypto_on hdrain hon]
    rfl
  · change execRcvGetStatus r s = _
    simp only [execRcvGetStatus, command_runs hruns, wellFormed_fits hfits]
    rfl
  · rw [exec_rcvUpdateGolden_erase hruns hfits hlow hhigh hdeclared hclosed]
    dsimp only
    rw [checks_fail (by rw [htaken]; rfl)]
  · rw [exec_rcvUpdateGolden_erase hruns hfits hlow hhigh hdeclared hclosed]
    dsimp only
    rw [checks_pass (by rw [hfree, hwindow, decide_eq_false (by omega)]; rfl), viaLink_session hlink, hdenied]
    rfl
  · rw [exec_rcvUpdateGolden_erase hruns hfits hlow hhigh hdeclared hclosed]
    dsimp only
    rw [checks_pass (by rw [hfree, hwindow, decide_eq_false (by omega)]; rfl), viaLink_session hlink, hallowed]
    rfl
  · rw [exec_rcvUpdateKeeper_erase hruns hfits hdeclared hclosed hrunning hqueue hrunners hinstall hlink]
    dsimp only
    rw [hdenied]
    rfl
  · rw [exec_rcvUpdateKeeper_erase hruns hfits hdeclared hclosed hrunning hqueue hrunners hinstall hlink]
    dsimp only
    rw [hallowed]
    rfl
  · rw [exec_rcvUpdateKeeper_install hruns hfits hop hdeclared hclosed hrunning hqueue hrunners hinstall, checks_fail (by rw [hnone]; rfl)]
  · have hdrained : u.readDirectory.draining dCrypto = false := by
      rw [State.draining, State.domain, readDirectory_pwr]
      exact hdrain
    have hpowered : u.readDirectory.domainOn dCrypto = true := by
      rw [State.domainOn, State.domain, readDirectory_pwr]
      exact hon
    rw [exec_rcvUpdateKeeper_install hruns hfits hop hdeclared hclosed hrunning hqueue hrunners hinstall,
      checks_pass (by rw [hstaged, Option.elim_some, beq_self_eq_true]; rfl), viaLink_session hlink, needsCrypto_on hdrained hpowered]

end Sys2Proof.Machine
end
